-- ==== Sys2Proof/Word.lean ====
section
/-! DEFINITION. The plain data every layer shares: characters and text, the four-fold families of lines, addresses and
modules, and the sparse table in which the non-volatile store keeps its rings and slot tables. -/

namespace Sys2Proof

/-- A character as the UART carries it: eight data bits (11_message_port.md, section 11.1). -/
abbrev Byte := BitVec 8

/-- Text of records and fields. -/
abbrev Text := List Char

/-- A four-fold index: cell lines and modules 1 to 4, cell addresses 0 to 3 (00_scope.md, section 4.4). -/
inductive Ix where
  | i0 | i1 | i2 | i3
  deriving DecidableEq, Repr

/-- All four indexes in rising order. -/
def Ix.all : List Ix := [.i0, .i1, .i2, .i3]

/-- The index counted from 0. -/
def Ix.toNat : Ix → Nat
  | .i0 => 0
  | .i1 => 1
  | .i2 => 2
  | .i3 => 3

/-- Four things of one kind: the four lines, the four modules, the four slots of a line. -/
structure Quad (α : Type) where
  a0 : α
  a1 : α
  a2 : α
  a3 : α
  deriving DecidableEq, Repr

def Quad.get {α : Type} (q : Quad α) : Ix → α
  | .i0 => q.a0
  | .i1 => q.a1
  | .i2 => q.a2
  | .i3 => q.a3

def Quad.set {α : Type} (q : Quad α) (i : Ix) (x : α) : Quad α :=
  match i with
  | .i0 => { q with a0 := x }
  | .i1 => { q with a1 := x }
  | .i2 => { q with a2 := x }
  | .i3 => { q with a3 := x }

def Quad.const {α : Type} (x : α) : Quad α := ⟨x, x, x, x⟩

/-- The four values a function of the index gives. -/
def Quad.tab {α : Type} (f : Ix → α) : Quad α := ⟨f .i0, f .i1, f .i2, f .i3⟩

def Quad.toList {α : Type} (q : Quad α) : List α := [q.a0, q.a1, q.a2, q.a3]

/-- A cell slot, named line.address (00_scope.md, section 4.4). -/
structure SlotId where
  line : Ix
  addr : Ix
  deriving DecidableEq, Repr

/-- Sixteen things, one per cell slot. -/
abbrev Slots (α : Type) := Quad (Quad α)

def Slots.sel {α : Type} (q : Slots α) (i : SlotId) : α := (q.get i.line).get i.addr

def Slots.put {α : Type} (q : Slots α) (i : SlotId) (x : α) : Slots α :=
  q.set i.line ((q.get i.line).set i.addr x)

def Slots.tab {α : Type} (f : SlotId → α) : Slots α :=
  Quad.tab fun l => Quad.tab fun a => f ⟨l, a⟩

/-- The sixteen slots in order, 1.0 to 4.3. -/
def SlotId.all : List SlotId := Ix.all.flatMap fun l => Ix.all.map fun a => ⟨l, a⟩

/-- The four slots of a line in address order. -/
def SlotId.ofLine (l : Ix) : List SlotId := Ix.all.map fun a => ⟨l, a⟩

/-- A sparse table: the listed places with their contents, places strictly rising. An unlisted place holds nothing. -/
abbrev NvMap (α : Type) := List (Nat × α)

end Sys2Proof
end

