-- ==== Sys2Proof/Syntax.lean ====
section
/-! DEFINITION. The commands of the block: one constructor of `Instr` per row of spec/opcode_table.json. An event carries what
the outside world supplies; a host command carries the fields of its record as text. -/

namespace Sys2Proof

/-- The two end beams (04, section 4.1). -/
inductive Beam where
  | entry
  | exit
  deriving DecidableEq, Repr

/-- The three axle strips (04, section 4.1). -/
inductive Strip where
  | a
  | b
  | c
  deriving DecidableEq, Repr

/-- Where a reset or a power failure finds the write in progress (R185). -/
inductive WritePhase where
  /-- altering has not begun: the target is as it was -/
  | before
  /-- altering: the target is torn -/
  | altering
  /-- verifying: the new content is in place -/
  | verifying
  deriving DecidableEq, Repr

/-- The tags of the host's commands (R201, R202). -/
inductive Tag where
  | sta | wtr | cel | pas | vis | trl | jst | aud | mst | get | clk | lit | nte | abt | cop | cpa | cdx | vop
  | zer | wg1 | wg2 | wgs | wgg | trs | trk | trd | vcl | vod | jrd | jnx | jex | set | cze | csp | ccm | vpt | vcm
  deriving DecidableEq, Repr

/-- One constructor per row of the opcode table, in its order. -/
inductive Instr where
  /-- POWER_ON (R193): whether the head-repair TORN writes of the scan agree when read back (R182, R149). -/
  | powerOn (auditTornOk journalTornOk : Bool)
  /-- RESET_LINE_LOW (R185): the phase of the write in progress. -/
  | resetLineLow (phase : WritePhase)
  /-- RESET_LINE_RELEASE (R194). -/
  | resetLineRelease (auditTornOk journalTornOk : Bool)
  /-- SCAN_END (R195). -/
  | scanEnd
  /-- SAMPLE_INSTANT (R3). -/
  | sampleInstant
  /-- POLL_PULSE (R4) on a line. -/
  | pollPulse (line : Ix)
  /-- REPLY_WAIT_TIMEOUT (R4) on a line. -/
  | replyWaitTimeout (line : Ix)
  /-- REPLY_FRAME (R11): the reference length and the eight symbol lengths, in 1/64 part ticks (R1, R6, R7). -/
  | replyFrame (line : Ix) (ref : Nat) (syms : List Nat)
  /-- FRAME_EDGE_TIMEOUT (R7) on a line. -/
  | frameEdgeTimeout (line : Ix)
  /-- QUIET_WAIT_END (R7) on a line. -/
  | quietWaitEnd (line : Ix)
  /-- LINE_SHORTED (R24). -/
  | lineShorted (line : Ix)
  /-- SHORT_RETRY (R25). -/
  | shortRetry (line : Ix)
  /-- LINE_RECOVERY (R25). -/
  | lineRecovery (line : Ix)
  /-- BEAM_LEVEL_CHANGE (R63): the new raw level (low is blocked) and its time in ms. -/
  | beamLevelChange (beam : Beam) (blocked : Bool) (time : Nat)
  /-- BEAM_CHANGE (R63): the beam's debounce has run. -/
  | beamChange (beam : Beam)
  /-- STRIP_HIT (R64): a falling edge and its time in ms. -/
  | stripHit (strip : Strip) (time : Nat)
  /-- SETTLE_TIMER_EXPIRES (R68). -/
  | settleTimerExpires
  /-- CLEAR_TIMER_EXPIRES (R70). -/
  | clearTimerExpires
  /-- LOCK_LEVEL_CHANGE (R154): the new raw level (high is OPEN) and its time in ms. -/
  | lockLevelChange (isOpen : Bool) (time : Nat)
  /-- LOCK_POSITION_CHANGE (R154): the lock debounce has run. -/
  | lockPositionChange
  /-- ZER_DEADLINE (R51). -/
  | zerDeadline
  /-- CAPTURE_DEADLINE (R58). -/
  | captureDeadline
  /-- RUN_CAPTURE_DEADLINE (R158). -/
  | runCaptureDeadline
  /-- AXLE_WAIT_EXPIRES (R141). -/
  | axleWaitExpires
  /-- CLOCK_SECOND (R192). -/
  | clockSecond
  /-- NVC_WRITE_COMPLETE (R185): whether the target read back agrees with what was to be written. -/
  | nvcWriteComplete (agrees : Bool)
  /-- RX_CHARACTER (R196): the data bits, the parity bit (read with EVEN parity) and the level of the stop bit. -/
  | rxCharacter (data : Byte) (parityBit stopBit : Bool)
  /-- CAN_CHARACTER (R198). -/
  | canCharacter
  /-- RECORD_ASSEMBLY (R199). -/
  | recordAssembly
  /-- GAP_TIMEOUT (R199). -/
  | gapTimeout
  /-- RECORD_DISPATCH (R200). -/
  | recordDispatch
  /-- CTS_CHANGE (R196): the new level of CTS. -/
  | ctsChange (asserted : Bool)
  /-- TX_CHARACTER_SENT (R196). -/
  | txCharacterSent
  /-- RECORD_PLACEMENT (R204). -/
  | recordPlacement
  /-- NOTICE_EMISSION (R205). -/
  | noticeEmission
  /-- STREAM_ITEM (R146). -/
  | streamItem
  | sta (fields : List Text)
  | wtr (fields : List Text)
  | cel (fields : List Text)
  | pas (fields : List Text)
  | vis (fields : List Text)
  | trl (fields : List Text)
  | jst (fields : List Text)
  | aud (fields : List Text)
  | mst (fields : List Text)
  | get (fields : List Text)
  /-- GET_NVC (R188): the fields that follow `GET NVC`. -/
  | getNvc (fields : List Text)
  | clk (fields : List Text)
  | lit (fields : List Text)
  | nte (fields : List Text)
  | abt (fields : List Text)
  | cop (fields : List Text)
  | cpa (fields : List Text)
  | cdx (fields : List Text)
  | vop (fields : List Text)
  | zer (fields : List Text)
  | wg1 (fields : List Text)
  | wg2 (fields : List Text)
  | wgs (fields : List Text)
  | wgg (fields : List Text)
  | trs (fields : List Text)
  | trk (fields : List Text)
  | trd (fields : List Text)
  | vcl (fields : List Text)
  | vod (fields : List Text)
  | jrd (fields : List Text)
  | jnx (fields : List Text)
  | jex (fields : List Text)
  | set (fields : List Text)
  | cze (fields : List Text)
  | csp (fields : List Text)
  | ccm (fields : List Text)
  | vpt (fields : List Text)
  | vcm (fields : List Text)
  /-- POWER_FAILURE (R193): the phase of the write in progress (R185). -/
  | powerFailure (phase : WritePhase)
  /-- BAD_FRAME (R7): the reference length and the symbol lengths up to the edge that fails, in 1/64 part ticks. -/
  | badFrame (line : Ix) (ref : Nat) (syms : List Nat)
  deriving DecidableEq, Repr

end Sys2Proof
end

