-- ==== Sys2Proof/Config.lean ====
section
/-! DEFINITION. What the part fixes: capacities, pulse widths, limits and times named by the rules. -/

namespace Sys2Proof.Config

/-- A character is in reception at the n-th change of rate or parity since reset (R190): a free value, since the commands bring a
character at its stop bit alone (DESIGN CHOICE, log entry 32). -/
opaque receiving : Nat → Bool

/-- Width in part ticks of the latch pulse (R1). -/
def latchWidth : Nat := 70

/-- Width in part ticks of the poll pulse of each address (R1). -/
def pollWidth : Ix → Nat
  | .i0 => 8
  | .i1 => 17
  | .i2 => 28
  | .i3 => 41

/-- Debounce of beams and lock, in ms (R63, R154). -/
def debounceMs : Nat := 100

/-- Blanking of a strip, in ms (R64). -/
def blankingMs : Nat := 40

/-- Interval between retries of a SHORTED line, in ms (R25). -/
def retryMs : Nat := 1000

/-- Error counts of a slot and of the NVC stop here (R11, R188). -/
def countCap : Nat := 65535

/-- Good frames in a row that take a FAULTED slot to VERIFYING (R18). -/
def goodRun : Nat := 8

/-- Passage and visit numbers run to 65,535 (R73, R112). -/
def numberCap : Nat := 65535

/-- Ticket and audit numbers run to 9,999,999 (R134, R181). -/
def ticketCap : Nat := 9999999

/-- Journal slots (R130). -/
def journalSlots : Nat := 4096

/-- Audit slots (R178). -/
def auditSlots : Nat := 256

/-- Open-visit slots (section 6 table). -/
def visitSlots : Nat := 48

/-- Stored-tare slots (section 6 table). -/
def tareSlots : Nat := 64

/-- Passages the history holds (R77). -/
def historyCap : Nat := 4

/-- Weighings a static-capture ring holds (R74). -/
def ringCap : Nat := 4

/-- Pending strip A hits (R87). -/
def pendingACap : Nat := 8

/-- Axles of a passage (R89). -/
def axleCap : Nat := 16

/-- Intervals of a passage (R93). -/
def intervalCap : Nat := 40

/-- Groups of a passage (R101). -/
def groupCap : Nat := 8

/-- Points of a verification run (R172). -/
def pointCap : Nat := 8

/-- Attachment share of the write queue (R117, R187). -/
def attachCap : Nat := 4

/-- Journal records read by visit reconciliation (R149). -/
def reconcileDepth : Nat := 48

/-- Unexported count at which JRN is raised (R145). -/
def jrnLevel : Nat := 3584

/-- Intake FIFO, its RTS levels (R197), record length (section 11.2) and output queue (R204). -/
def fifoCap : Nat := 64
def rtsDropAt : Nat := 48
def rtsAssertAt : Nat := 16
def recordCap : Nat := 120
def outputCap : Nat := 2048

/-- Seconds in a day and the first second past the clock's range, 2100-01-01 00:00:00 (R192). -/
def daySeconds : Nat := 86400
def clockEnd : Nat := 36525 * 86400

/-- Largest spread of raw counts of a raw-stable slot (R157). -/
def rawSpread : Int := 24

/-- Width of the raw window in ms (R157). -/
def rawWindowMs : Nat := 2000

/-- Changed items an audit record lists (R164). -/
def changedCap : Nat := 32

/-- Records an AUD reply reports (R183) and entries a VIS or TRL list reports (R122, R128). -/
def audPage : Nat := 16
def listPage : Nat := 8

end Sys2Proof.Config
end

