-- ==== Sys2Proof/Machine/State.lean ====
section
/-! DEFINITION. The state of the part as plain data: the non-volatile store, the ten blocks, the queue of waiting commands, and
the state after reset. Rule numbers are those of spec/. -/

namespace Sys2Proof.Machine

/-! ### Cell Line Controller (01) -/

/-- The outcome of a polled slot for a sample (R11). -/
inductive SlotOutcome where
  | good | stale | warmUp | cellErr | sup | bad | silent | late | notPolled
  deriving DecidableEq, Repr

/-- Slot states (section 1.4). -/
inductive SlotState where
  | unused | seeking | verifying | live | holding | faulted | mismatch
  deriving DecidableEq, Repr

/-- The status flags of symbol 7 (R8). -/
structure StatusFlags where
  ovl : Bool
  sup : Bool
  tmp : Bool
  err : Bool
  deriving DecidableEq, Repr

/-- A slot record (section 1.4, R13 to R19). -/
structure Slot where
  state : SlotState
  hold : Nat
  run : Nat
  lastCount : Option Nat
  /-- side assembly, in arrival order -/
  assembly : List Bool
  serialLow : Option Nat
  serialHigh : Option Nat
  tempReceived : Bool
  lastTemp : Option Int
  tempInUse : Option Int
  /-- the latest valid frame had TMP set (R15) -/
  frozen : Bool
  diag : Option Nat
  lastOutcome : Option SlotOutcome
  lastRaw : Option Int
  lastFlags : Option StatusFlags
  nBad : Nat
  nSilent : Nat
  nLate : Nat
  nStale : Nat
  /-- mismatch-owed mark (R19) -/
  owed : Bool
  /-- a CELL-MISMATCH request of this slot is outstanding (R19) -/
  requested : Bool
  /-- outcome for the cycle in progress -/
  cycle : Option SlotOutcome
  deriving DecidableEq, Repr

inductive LineStatus where
  | active | shorted
  deriving DecidableEq, Repr

/-- What a line is doing in its cycle (R4, R7): nothing, the gap before the next poll, the wait for a reply or its frame, or
the quiet wait after a BAD frame. -/
inductive LinePhase where
  | idle
  | gap
  | waiting (addr : Ix)
  | quiet
  deriving DecidableEq, Repr

/-- The pulses the part drives (R1). -/
inductive Pulse where
  | latch
  | poll (addr : Ix)
  deriving DecidableEq, Repr

structure Line where
  status : LineStatus
  phase : LinePhase
  /-- the last pulse driven, until the next sample instant -/
  pulse : Option Pulse
  /-- a retry has been driven and the line is watched (R25) -/
  watching : Bool
  /-- time of the next retry of a SHORTED line, ms (R25) -/
  nextRetry : Nat
  deriving DecidableEq, Repr

/-- The sample cycle in progress (R2, R12). -/
structure Cycle where
  index : BitVec 40
  latch : Nat
  /-- the sample record has been handed on -/
  handed : Bool
  deriving DecidableEq, Repr

structure Clc where
  slots : Slots Slot
  lines : Quad Line
  polled : Slots Bool
  cycle : Option Cycle
  nextIndex : BitVec 40
  nextLatch : Nat
  deriving DecidableEq, Repr

/-- One slot in a sample record (R12). -/
structure SlotSample where
  outcome : SlotOutcome
  raw : Option Int
  flags : Option StatusFlags
  temp : Option Int
  state : SlotState
  hold : Nat
  deriving DecidableEq, Repr

/-- A sample record (R12). -/
structure SampleRecord where
  index : BitVec 40
  latch : Nat
  slots : Slots SlotSample
  deriving DecidableEq, Repr

/-! ### Conditioning and Summation Unit (02) -/

/-- A last-good record (R31). -/
structure LastGood where
  raw : Int
  temp : Int
  ovl : Bool
  weight : Int
  clamped : Bool
  deriving DecidableEq, Repr

inductive ContribKind where
  | fresh | held | none
  deriving DecidableEq, Repr

/-- A module load with its marks (R32); no load when INVALID. -/
structure ModuleLoad where
  load : Option Int
  held : Bool
  clamped : Bool
  deriving DecidableEq, Repr

/-- Weight states (R38). -/
inductive WeightState where
  | invalid | over | under | normal
  deriving DecidableEq, Repr

/-- A weight record (R40), with the slot states of its sample record and the ZSU's judgement. -/
structure WeightRecord where
  index : BitVec 40
  latch : Nat
  /-- deck total, absent when INVALID -/
  total : Option Int
  held : Bool
  clamped : Bool
  f : Option Int
  g : Option Int
  w : Option Int
  wstate : WeightState
  zeroCentre : Bool
  modules : Quad (Option ModuleLoad)
  kinds : Slots ContribKind
  states : Slots SlotState
  stable : Bool
  deriving DecidableEq, Repr

structure Csu where
  history : List Int
  lastGood : Slots (Option LastGood)
  newest : Option WeightRecord
  deriving DecidableEq, Repr

/-! ### Zero and Stability Unit (03) -/

/-- An entry of the stability window (R45). -/
structure WinEntry where
  f : Int
  m1 : Option Int
  deriving DecidableEq, Repr

structure Zsu where
  window : List WinEntry
  set : Bool
  z : Option Int
  zInit : Option Int
  trackLimit : Bool
  b1 : Option Int
  deriving DecidableEq, Repr

inductive Source where
  | static | keyed
  deriving DecidableEq, Repr

/-- A weighing (R59); a stored tare stands in one as weighing B of an ONEPASS record (R132). -/
structure Weighing where
  weight : Int
  d : Nat
  counter : Option Nat
  time : Option Nat
  passage : Option Nat
  source : Source
  deriving DecidableEq, Repr

/-! ### Lane Supervisor (04) and Axle Unit (05) -/

inductive Lane where
  | init | clear | entering | onDeck | leaving
  deriving DecidableEq, Repr

inductive Occupancy where
  | occupied | empty | unknown
  deriving DecidableEq, Repr

inductive OpenCause where
  | aHit | beamIn | load | tailgate
  deriving DecidableEq, Repr

inductive CloseCause where
  | clear | tailgate | commit
  deriving DecidableEq, Repr

/-- Passage flags (section 4.3 table). -/
structure PassFlags where
  tailgateOut : Bool
  tailgateIn : Bool
  reversed : Bool
  order : Bool
  axlesFull : Bool
  intervalsFull : Bool
  groupsFull : Bool
  uneven : Bool
  inconsistent : Bool
  axleGross : Bool
  deriving DecidableEq, Repr

/-- Spacing of an axle from the one before it (R92). -/
inductive Spacing where
  | first
  | unknown
  | cm (n : Int)
  deriving DecidableEq, Repr

/-- An axle's load (section 5.3 table): absent while the passage is current. -/
inductive AxleLoad where
  | unset
  | fine (w : Int)
  | unresolved
  | absent
  deriving DecidableEq, Repr

/-- An exact speed, cm over ms (R88). -/
structure Speed where
  cm : Nat
  ms : Nat
  deriving DecidableEq, Repr

structure Axle where
  number : Nat
  tA : Nat
  tB : Nat
  /-- none is UNKNOWN -/
  speed : Option Speed
  spacing : Spacing
  tC : Option Nat
  load : AxleLoad
  deriving DecidableEq, Repr

inductive Usability where
  | usable | short | slot | absent | pending
  deriving DecidableEq, Repr

/-- Outcome of an interval at the solve (R98 to R100). -/
inductive IvOutcome where
  | none
  | solves (axle : Nat)
  | checkFail (residual : Int)
  | checkOk (residual : Int)
  | open
  | unused
  deriving DecidableEq, Repr

structure Interval where
  number : Nat
  axles : List Nat
  start : Nat
  stop : Option Nat
  first : Option (BitVec 40)
  last : Option (BitVec 40)
  count : Nat
  usable : Nat
  usability : Usability
  mean : Option Int
  outcome : IvOutcome
  deriving DecidableEq, Repr

inductive GroupKind where
  | steer | single | tandem | triaxle | multi
  deriving DecidableEq, Repr

/-- A group's load in kg (section 5.6 table). -/
inductive GroupLoad where
  | kg (w : Int)
  | unresolved
  | absent
  deriving DecidableEq, Repr

inductive Verdict where
  | ok | over | unchecked | unresolved | absent
  deriving DecidableEq, Repr

structure Group where
  number : Nat
  kind : GroupKind
  axles : List Nat
  load : GroupLoad
  limit : Nat
  excess : Option Int
  verdict : Verdict
  deriving DecidableEq, Repr

inductive AxleResult where
  | pass | over | incomplete | void | absent
  deriving DecidableEq, Repr

/-- A group entry of an axle summary (R107). -/
structure GroupEntry where
  kind : GroupKind
  load : GroupLoad
  limit : Nat
  excess : Option Int
  deriving DecidableEq, Repr

/-- An axle summary (R107). -/
structure Summary where
  groups : List GroupEntry
  result : AxleResult
  flags : PassFlags
  deriving DecidableEq, Repr

/-- A passage record (section 4.3 table). -/
structure Passage where
  number : Nat
  cause : OpenCause
  openTime : Option Nat
  openAt : Nat
  closeTime : Option Nat
  closeAt : Option Nat
  closeCause : Option CloseCause
  flags : PassFlags
  ring : List Weighing
  axles : List Axle
  intervals : List Interval
  groups : List Group
  /-- axle gross in fine units, exact (R104) -/
  axleGross : Option Int
  result : Option AxleResult
  /-- attachment-owed mark (R78) -/
  owedMark : Bool
  /-- axles counted, entered or not (R88 to R90) -/
  counted : Nat
  /-- the passage division (R86), for reading the axle gross rounded (R104) -/
  division : Option Nat
  deriving DecidableEq, Repr

/-- A debounced two-level input (R63, R154): blocked beams and the OPEN lock read true. -/
structure Input where
  state : Bool
  raw : Bool
  debounce : Option Nat
  deriving DecidableEq, Repr

inductive LightMode where
  | auto | forceRed | forceGreen
  deriving DecidableEq, Repr

structure Lsv where
  beamIn : Input
  beamOut : Input
  hitA : Option Nat
  hitB : Option Nat
  hitC : Option Nat
  occupancy : Occupancy
  lane : Lane
  settle : Option Nat
  clear : Option Nat
  current : Option Passage
  /-- closed passages, oldest first -/
  history : List Passage
  nextPassage : Nat
  modeIn : LightMode
  modeOut : LightMode
  greenIn : Bool
  greenOut : Bool
  deriving DecidableEq, Repr

/-- What the AXU keeps of one sample for the intervals not yet fixed (R94, R95). -/
structure IvSample where
  index : BitVec 40
  latch : Nat
  /-- module 1's load, absent when INVALID or when module 1 does not exist -/
  load : Option Int
  clamped : Bool
  /-- every configured slot of line 1 was LIVE -/
  allLive : Bool
  deriving DecidableEq, Repr

structure Axu where
  counting : Bool
  pendingA : List Nat
  onModule : List Nat
  baseline : Option Int
  division : Option Nat
  hitsA : Nat
  hitsB : Nat
  hitsC : Nat
  axles : Nat
  samples : List IvSample
  deriving DecidableEq, Repr

/-! ### Calibration (08) -/

/-- A slot's calibration fields (section 2.1, R151). -/
structure SlotCal where
  configured : Bool
  lcell : Option Nat
  k : Int
  z : Option Int
  tcal : Option Int
  s : Option Nat
  lref : Option Nat
  serial : Option Nat
  deriving DecidableEq, Repr

/-- The calibration record (R151). -/
structure CalRecord where
  max : Nat
  d : Nat
  p : Nat
  n : Nat
  window : Nat
  band : Nat
  vint : Nat
  zcal : Int
  slots : Slots SlotCal
  counter : Nat
  commitTime : Nat
  deriving DecidableEq, Repr

/-- A slot's marks in a working copy (R155, R159, R162); the zero mean is a sum over a count. -/
structure SlotMarks where
  zeroCaptured : Bool
  spanCaptured : Bool
  zeroMean : Option (Int × Nat)
  deriving DecidableEq, Repr

/-- The working copy of a calibration run (R155). -/
structure WorkCopy where
  max : Option Nat
  d : Option Nat
  p : Nat
  n : Nat
  window : Nat
  band : Nat
  vint : Nat
  zcal : Option Int
  /-- Zcal as copied from the active record when the run opened (R155, R160) -/
  copied : Option Int
  slots : Slots SlotCal
  marks : Slots SlotMarks
  deriving DecidableEq, Repr

inductive MetState where
  | uncalibrated | calibrated | suspect
  deriving DecidableEq, Repr

/-- The metrology status record (R152); the due date counts days from 2000-01-01. -/
structure StatusRec where
  state : MetState
  due : Option Nat
  counter : Nat
  deriving DecidableEq, Repr

/-- A status or discard request held back (R187). -/
inductive HeldReq where
  | status (rec : StatusRec) (forLong : Bool)
  | discard
  deriving DecidableEq, Repr

/-- A verification point (R173). -/
structure Point where
  x : Nat
  weighing : Weighing
  e : Int
  mpe : Nat
  pass : Bool
  deriving DecidableEq, Repr

structure Mst where
  active : Option CalRecord
  counter : Nat
  state : MetState
  due : Option Nat
  lock : Input
  run : Option WorkCopy
  held : List HeldReq
  verif : Option (List Point)
  deriving DecidableEq, Repr

/-! ### Audit Unit (09) -/

/-- The items a commit can change (R164). -/
inductive RecordItem where
  | max | div | per | flt | win | band | vint | zcal
  deriving DecidableEq, Repr

inductive SlotItem where
  | cfg | lcel | tco | zcnt | tcal | span | lref | serl
  deriving DecidableEq, Repr

inductive ChangedItem where
  | whole (i : RecordItem)
  | slot (i : SlotId) (item : SlotItem)
  deriving DecidableEq, Repr

/-- The kinds of audit records with their fields (R179). -/
inductive AuditBody where
  | calCommit (items : List ChangedItem) (more : Bool)
  | calDiscard
  | verify (points : List Point) (pass : Bool)
  | cellMismatch (slot : SlotId) (expected found : Option Nat)
  | calInvalid
  | torn
  deriving DecidableEq, Repr

structure AuditRec where
  number : Nat
  body : AuditBody
  time : Option Nat
  counter : Option Nat
  deriving DecidableEq, Repr

/-- An AUD read taken while the write of one of its records is in progress: the numbers to send, and the next number (R183, R186). -/
structure AudRead where
  numbers : List Nat
  next : Option Nat
  deriving DecidableEq, Repr

structure Auu where
  writePos : Nat
  /-- none is EXHAUSTED (R181) -/
  next : Option Nat
  refused : Bool
  deriving DecidableEq, Repr

/-! ### Transaction Unit (06, 07) -/

inductive Direction where
  | receival | outload
  deriving DecidableEq, Repr

structure VisitRec where
  number : Nat
  ref : Text
  dir : Direction
  opened : Option Nat
  first : Weighing
  summary : Option Summary
  deriving DecidableEq, Repr

structure TareEntry where
  ref : Text
  tare : Int
  source : Source
  d : Nat
  counter : Option Nat
  wtime : Option Nat
  stored : Option Nat
  days : Nat
  deriving DecidableEq, Repr

/-- Ticket flags (R137). -/
structure TicketFlags where
  calSplit : Bool
  unverified : Bool
  presetTare : Bool
  dirMismatch : Bool
  axleOver : Bool
  axleIncomplete : Bool
  axleAbsent : Bool
  tailgate : Bool
  deriving DecidableEq, Repr

/-- The kinds of journal records with their fields (R132). -/
inductive JournalBody where
  | ticket (visit : Nat) (ref : Text) (dir : Direction) (a b : Weighing) (net : Int) (summary : Option Summary)
      (flags : TicketFlags)
  | onepass (ref : Text) (a b : Weighing) (net : Int) (summary : Option Summary) (flags : TicketFlags)
  | gross (ref : Text) (a : Weighing) (summary : Option Summary) (flags : TicketFlags)
  | void (voided : Nat)
  | cancel (visit : Nat) (ref : Text)
  | torn
  deriving DecidableEq, Repr

structure JournalRec where
  number : Nat
  body : JournalBody
  time : Option Nat
  counter : Option Nat
  check : Nat
  deriving DecidableEq, Repr

/-- A (visit, passage) pair of the awaiting or the owed list (R116, R117). -/
structure AttachEntry where
  visit : Nat
  passage : Nat
  deriving DecidableEq, Repr

/-- A start-up freeing write held back (R111, R187). -/
structure FreeReq where
  isVisit : Bool
  slot : Nat
  second : Bool
  deriving DecidableEq, Repr

structure Txu where
  visits : NvMap VisitRec
  tares : NvMap TareEntry
  nextVisit : Nat
  awaiting : List AttachEntry
  owed : List AttachEntry
  copies : List (Nat × Summary)
  freeHeld : List FreeReq
  writePos : Nat
  owedTorn : Option Nat
  fullUntilE : Bool
  exportMark : Nat
  cursor : Option Nat
  deriving DecidableEq, Repr

/-! ### Non-volatile Controller (10) -/

inductive Rate where
  | r9600 | r19200 | r38400 | r57600 | r115200
  deriving DecidableEq, Repr

inductive Parity where
  | none | even
  deriving DecidableEq, Repr

/-- The settings (section 10.3); the settle time is in tenths of a second. -/
structure Settings where
  rate : Rate
  par : Parity
  setl : Nat
  clrt : Nat
  occ : Nat
  dab : Nat
  gsp : Nat
  grd : Nat
  nmin : Nat
  lstr : Nat
  lsgl : Nat
  ltan : Nat
  ltri : Nat
  lmul : Nat
  lgrs : Nat
  cto : Nat
  axw : Nat
  hold : Nat
  stale : Nat
  deriving DecidableEq, Repr

/-- What a target of the store holds: never written, failing its check, or a valid content (R185, R188). -/
inductive NvCell (α : Type) where
  | blank
  | torn
  | valid (content : α)
  deriving DecidableEq, Repr

/-- One copy of a two-copy record: its sequence number 0 to 3 and its content (R110). -/
structure Copy (α : Type) where
  seq : Nat
  content : α
  deriving DecidableEq, Repr

structure TwoCopy (α : Type) where
  c1 : NvCell (Copy α)
  c2 : NvCell (Copy α)
  deriving DecidableEq, Repr

/-- The non-volatile store (section 10.1). A slot content none is FREE (R110). -/
structure NvStore where
  settings : NvCell Settings
  calibration : NvCell CalRecord
  status : TwoCopy StatusRec
  audit : NvMap (NvCell AuditRec)
  tares : NvMap (TwoCopy (Option TareEntry))
  visits : NvMap (TwoCopy (Option VisitRec))
  journal : NvMap (NvCell JournalRec)
  exportRec : TwoCopy Nat
  deriving DecidableEq, Repr

/-- A write: its one target and the full content (R185). `second` names copy 2 of a two-copy record. -/
inductive NvWrite where
  | settings (s : Settings)
  | calibration (r : CalRecord)
  | status (second : Bool) (c : Copy StatusRec)
  | audit (slot : Nat) (r : AuditRec)
  | tare (slot : Nat) (second : Bool) (c : Copy (Option TareEntry))
  | visit (slot : Nat) (second : Bool) (c : Copy (Option VisitRec))
  | journal (slot : Nat) (r : JournalRec)
  | exportRec (second : Bool) (c : Copy Nat)
  deriving DecidableEq, Repr

/-- Who made a request, and so who is told of its report (R186, R187). -/
inductive Requester where
  | longOp
  | status (forLong : Bool)
  | discard
  | calInvalid
  | mismatch (slot : SlotId)
  | attach (visit slot : Nat)
  | freeVisit (slot : Nat) (second : Bool)
  | freeTare (slot : Nat) (second : Bool)
  deriving DecidableEq, Repr

structure WriteReq where
  source : Requester
  write : NvWrite
  deriving DecidableEq, Repr

/-- The error report (R188); `blank` counts apart the never-written targets the scan found. -/
structure ErrorReport where
  passed : Nat
  nvf : Nat
  readFail : Nat
  scanFail : Nat
  blank : Nat
  high : Nat
  deriving DecidableEq, Repr

inductive StartCause where
  | power | reset
  deriving DecidableEq, Repr

/-- How the scan found the calibration record (R195). -/
inductive FoundCal where
  | valid | invalid | blank
  deriving DecidableEq, Repr

inductive HeadRepair where
  | none
  | written (n : Nat)
  | owed (n : Nat)
  deriving DecidableEq, Repr

/-- The READY report (R195). -/
structure ReadyReport where
  cause : StartCause
  clock : Option Nat
  settingsValid : Bool
  calibration : FoundCal
  counter : Nat
  state : MetState
  journalRepair : HeadRepair
  auditRepair : HeadRepair
  openVisits : Nat
  dropped : Nat
  freed : Nat
  tares : Nat
  scanFail : Nat
  deriving DecidableEq, Repr

structure Nvc where
  queue : List WriteReq
  writing : Option WriteReq
  serving : Bool
  report : ErrorReport
  settings : Settings
  settingsFailed : Bool
  clock : Option Nat
  ready : ReadyReport
  deriving DecidableEq, Repr

/-! ### Message Port (11) -/

structure RxChar where
  ch : Char
  err : Bool
  deriving DecidableEq, Repr

structure Rx where
  fifo : List RxChar
  overrunHeld : Bool
  rts : Bool
  buf : Text
  assembling : Bool
  err : Bool
  ovf : Bool
  complete : Bool
  gap : Bool
  /-- a character was in reception as the rate or parity changed, and is to be taken with a framing error (R190) -/
  spoilt : Bool
  /-- the model's own: changes of rate or parity since reset, which number the free values of `Config.receiving` -/
  changes : Nat
  deriving DecidableEq, Repr

/-- A change of rate and parity that takes place once `left` more characters have been sent (R190). -/
structure RateChange where
  left : Nat
  rate : Rate
  par : Parity
  deriving DecidableEq, Repr

/-- A reply taken while an AUD read waits for the report of a write: the read still to be made, or a reply formed behind it, which goes
after it (R186, R204). -/
inductive HeldReply where
  | read (r : AudRead)
  | formed (r : Text)
  deriving DecidableEq, Repr

structure Tx where
  queue : Text
  placing : Text
  replies : List Text
  /-- replies that wait for the report of an audit write, in the order taken (R186, R204) -/
  held : List HeldReply
  longs : List Text
  lastNotice : Bool
  cts : Bool
  sending : Bool
  rate : Rate
  par : Parity
  rateSwitch : List RateChange
  deriving DecidableEq, Repr

/-- Notice classes, highest priority first (section 11.5). -/
inductive Notice where
  | sys | met | cel | lne | axl | jrn
  deriving DecidableEq, Repr

/-- One Bool per notice class. -/
structure PerNotice where
  sys : Bool
  met : Bool
  cel : Bool
  lne : Bool
  axl : Bool
  jrn : Bool
  deriving DecidableEq, Repr

structure Ntc where
  enabled : PerNotice
  pending : PerNotice
  readySent : Bool
  deriving DecidableEq, Repr

/-! ### The long operation -/

/-- A command waiting on a static capture (R56). -/
inductive CapCmd where
  | wg1 (ref : Text) (dir : Direction)
  | wg2 (visit : Nat)
  | wgs (ref : Text) (tare : TareEntry)
  | wgg (ref : Text)
  | trs (ref : Text) (days : Nat)
  | vpt (x : Nat)
  deriving DecidableEq, Repr

/-- A run capture (R158, R161). -/
inductive RunCmd where
  | cze
  | csp (m : Ix) (x : Nat)
  deriving DecidableEq, Repr

/-- A journal record before it is made (R140, R142): its fields but for number, time, counter, flags and check. -/
inductive DraftBody where
  | ticket (visit : Nat) (ref : Text) (dir : Direction) (a b : Weighing)
  | onepass (ref : Text) (a b : Weighing)
  | gross (ref : Text) (a : Weighing)
  | void (voided : Nat)
  | cancel (visit : Nat) (ref : Text)
  deriving DecidableEq, Repr

structure Draft where
  body : DraftBody
  summary : Option Summary
  /-- TAILGATE read from the heavy passage when no summary is available (R138) -/
  tailgate : Bool
  deriving DecidableEq, Repr

/-- A running stream (R146 to R148). -/
structure Stream where
  tag : Tag
  start : Nat
  next : Nat
  left : Nat
  sent : Nat
  stop : Bool
  deriving DecidableEq, Repr

/-- How far the long command in flight has come. -/
inductive Stage where
  | none
  /-- R50: ZER waits for a STABLE sample -/
  | zerWait (deadline : Nat)
  /-- R57: a static capture waits -/
  | capWait (cmd : CapCmd) (deadline : Nat)
  /-- R157, R158: a run capture waits, with its raw window -/
  | runWait (cmd : RunCmd) (deadline : Nat) (window : List (Slots (Option Int)))
  /-- R141: a ticket waits for its heavy passage -/
  | axleWait (draft : Draft) (passage deadline : Nat)
  /-- R135: the owed TORN is written first -/
  | owedTorn (draft : Draft)
  /-- R142: the record is being written -/
  | record (draft : Draft) (rec : JournalRec)
  /-- R135: the TORN record of a failed write is being written -/
  | tornAfter (draft : Draft) (number : Nat)
  /-- R121: the visit is being freed; `held` while another write of its slot is outstanding -/
  | freeing (draft : Draft) (rec : JournalRec) (slot : Nat) (second held : Bool)
  /-- R115 -/
  | wg1Write (slot : Nat) (rec : VisitRec)
  /-- R125 to R127: content none is the FREE of TRD -/
  | tareWrite (tag : Tag) (slot : Nat) (content : Option TareEntry) (ref : Text) (replaced : Bool)
  /-- R144 -/
  | exportWrite (n : Nat)
  /-- R190 -/
  | settingsWrite (new : Settings)
  | stream (st : Stream)
  /-- R165 step 1 -/
  | ccmAudit (items : List ChangedItem) (more : Bool) (count time : Nat) (lockClosed : Bool)
  /-- R165 step 2 -/
  | ccmRecord (more : Bool) (count : Nat) (lockClosed : Bool)
  /-- R165 step 4 -/
  | ccmStatus (more : Bool) (count : Nat) (second : Bool)
  /-- R174 step 1 -/
  | vcmAudit (pass : Bool) (time number : Nat)
  /-- R174 step 3 -/
  | vcmStatus (pass : Bool) (number : Nat) (second : Bool)
  /-- the ending record is formed and waits to be placed (R202) -/
  | ended
  deriving DecidableEq, Repr

structure Exe where
  slot : Option Tag
  stage : Stage
  deriving DecidableEq, Repr

/-! ### The whole part -/

/-- Power and reset (R193 to R195). -/
inductive Phase where
  | off | held | scan | run
  deriving DecidableEq, Repr

structure Power where
  phase : Phase
  resetLow : Bool
  deriving DecidableEq, Repr

/-- Everything volatile, and the clock. -/
structure Device where
  power : Power
  now : Nat
  clc : Clc
  csu : Csu
  zsu : Zsu
  lsv : Lsv
  axu : Axu
  txu : Txu
  mst : Mst
  auu : Auu
  nvc : Nvc
  rx : Rx
  tx : Tx
  ntc : Ntc
  exe : Exe
  deriving DecidableEq, Repr

structure State where
  dev : Device
  nv : NvStore
  pending : List Instr
  deriving DecidableEq, Repr

/-- Why the part stops: never. Every bad input is answered by a `#` record, a slot state, a mark or a report. -/
inductive Fault where
  deriving DecidableEq, Repr

/-- Why a command has no meaning here. -/
inductive Refusal where
  /-- Raised by an arm of exec that is not modelled yet (safe: the model stops); no arm raises it. -/
  | notModelled (mnemonic : String)
  deriving DecidableEq, Repr

/-! ### Reset values -/

/-- A slot after reset (R26). -/
def Slot.reset (state : SlotState) : Slot where
  state := state
  hold := 0
  run := 0
  lastCount := none
  assembly := []
  serialLow := none
  serialHigh := none
  tempReceived := false
  lastTemp := none
  tempInUse := none
  frozen := false
  diag := none
  lastOutcome := none
  lastRaw := none
  lastFlags := none
  nBad := 0
  nSilent := 0
  nLate := 0
  nStale := 0
  owed := false
  requested := false
  cycle := none

/-- A line after reset (R26). -/
def Line.reset : Line := ⟨.active, .idle, none, false, 0⟩

/-- The CLC after reset with no calibration record (R26). -/
def Clc.reset : Clc where
  slots := Quad.const (Quad.const (Slot.reset .unused))
  lines := Quad.const Line.reset
  polled := Quad.const (Quad.const false)
  cycle := none
  nextIndex := 0
  nextLatch := 0

/-- R44. -/
def Csu.reset : Csu := ⟨[], Quad.const (Quad.const none), none⟩

/-- R62, with no calibration record. -/
def Zsu.reset : Zsu := ⟨[], false, none, none, false, none⟩

def PassFlags.none : PassFlags := ⟨false, false, false, false, false, false, false, false, false, false⟩

/-- R85; the raw levels stand for themselves. -/
def Lsv.reset (rawIn rawOut : Bool) : Lsv where
  beamIn := ⟨rawIn, rawIn, none⟩
  beamOut := ⟨rawOut, rawOut, none⟩
  hitA := none
  hitB := none
  hitC := none
  occupancy := .unknown
  lane := .init
  settle := none
  clear := none
  current := none
  history := []
  nextPassage := 1
  modeIn := .auto
  modeOut := .auto
  greenIn := false
  greenOut := false

/-- R109. -/
def Axu.reset : Axu := ⟨false, [], [], none, none, 0, 0, 0, 0, []⟩

/-- R129, R150, over an empty store. -/
def Txu.reset : Txu where
  visits := []
  tares := []
  nextVisit := 1
  awaiting := []
  owed := []
  copies := []
  freeHeld := []
  writePos := 1
  owedTorn := none
  fullUntilE := false
  exportMark := 0
  cursor := none

/-- R169, R176, R153 over an empty store; the raw lock level stands for itself. -/
def Mst.reset (rawOpen : Bool) : Mst := ⟨none, 0, .uncalibrated, none, ⟨rawOpen, rawOpen, none⟩, none, [], none⟩

/-- R182 over an empty log. -/
def Auu.reset : Auu := ⟨1, some 1, false⟩

/-- The default settings (section 10.3). -/
def Settings.default : Settings where
  rate := .r9600
  par := .none
  setl := 20
  clrt := 3
  occ := 25
  dab := 200
  gsp := 200
  grd := 2
  nmin := 6
  lstr := 0
  lsgl := 0
  ltan := 0
  ltri := 0
  lmul := 0
  lgrs := 0
  cto := 10
  axw := 120
  hold := 3
  stale := 72

def ErrorReport.zero : ErrorReport := ⟨0, 0, 0, 0, 0, 0⟩

/-- The report after the scan of a store never written: its 4,582 targets, every record, slot and copy of the table in section 10.1. -/
def ErrorReport.fresh : ErrorReport :=
  { ErrorReport.zero with
    blank := 2 + 2 + Config.auditSlots + 2 * Config.tareSlots + 2 * Config.visitSlots + Config.journalSlots + 2 }

/-- The READY report of a part that found nothing in its store. -/
def ReadyReport.fresh (cause : StartCause) (clock : Option Nat) : ReadyReport where
  cause := cause
  clock := clock
  settingsValid := false
  calibration := .blank
  counter := 0
  state := .uncalibrated
  journalRepair := .none
  auditRepair := .none
  openVisits := 0
  dropped := 0
  freed := 0
  tares := 0
  scanFail := 0

/-- The NVC at the start of the scan (R188, R194), the clock kept or lost by R193. -/
def Nvc.reset (cause : StartCause) (clock : Option Nat) : Nvc where
  queue := []
  writing := none
  serving := false
  report := ErrorReport.zero
  settings := Settings.default
  settingsFailed := false
  clock := clock
  ready := ReadyReport.fresh cause clock

/-- R208; RTS is dropped until step 1 of the scan. -/
def Rx.reset (rts : Bool) : Rx := ⟨[], false, rts, [], false, false, false, false, false, false, 0⟩

/-- R208; CTS is a pin and stands for itself. -/
def Tx.reset (cts : Bool) : Tx := ⟨[], [], [], [], [], false, cts, false, .r9600, .none, []⟩

def PerNotice.all (b : Bool) : PerNotice := ⟨b, b, b, b, b, b⟩

/-- R208. -/
def Ntc.reset : Ntc := ⟨PerNotice.all true, PerNotice.all false, false⟩

/-- R208. -/
def Exe.reset : Exe := ⟨none, .none⟩

/-- The store of a part fresh from manufacture. -/
def NvStore.blank : NvStore where
  settings := .blank
  calibration := .blank
  status := ⟨.blank, .blank⟩
  audit := []
  tares := []
  visits := []
  journal := []
  exportRec := ⟨.blank, .blank⟩

/-- All volatile state cleared (R26, R44, R62, R85, R109, R129, R150, R169, R176, R208), with the pins and the clock given. -/
def Device.cleared (phase : Phase) (resetLow rawIn rawOut rawOpen cts : Bool) (cause : StartCause)
    (clock : Option Nat) : Device where
  power := ⟨phase, resetLow⟩
  now := 0
  clc := Clc.reset
  csu := Csu.reset
  zsu := Zsu.reset
  lsv := Lsv.reset rawIn rawOut
  axu := Axu.reset
  txu := Txu.reset
  mst := Mst.reset rawOpen
  auu := Auu.reset
  nvc := Nvc.reset cause clock
  rx := Rx.reset false
  tx := Tx.reset cts
  ntc := Ntc.reset
  exe := Exe.reset

/-- The machine right after the power-on reset of a part fresh from manufacture: the scan has run over the blank store, and
SCAN_END is to come. Beams clear, lock LOCKED, CTS asserted, RESET high: DESIGN CHOICE (log entries 6, 7, 18). -/
def State.reset : State where
  dev := { Device.cleared .scan false false false false true .power none with
    rx := Rx.reset true
    nvc := { Nvc.reset .power none with report := ErrorReport.fresh } }
  nv := NvStore.blank
  pending := []

end Sys2Proof.Machine
end

