-- ==== Sys2Proof/Machine/Arith.lean ====
section
/-! DEFINITION. The arithmetic conventions of 00_scope.md, section 4.2, the calendar of R192, and small list helpers. -/

namespace Sys2Proof.Machine

/-- The quotient n / d rounded to the nearest integer, halves away from zero (section 4.2); d is positive. -/
def roundDiv (n : Int) (d : Nat) : Int :=
  let q := (2 * n.natAbs + d) / (2 * d)
  if n < 0 then -(q : Int) else q

def absInt (n : Int) : Int := (n.natAbs : Int)

def sumInt (l : List Int) : Int := l.foldl (· + ·) 0

/-- Largest and smallest of a list, from a first element on. -/
def maxFrom (x : Int) (l : List Int) : Int := l.foldl max x
def minFrom (x : Int) (l : List Int) : Int := l.foldl min x

/-- Largest less smallest; none for an empty list. -/
def spread : List Int → Option Int
  | [] => none
  | x :: l => some (maxFrom x l - minFrom x l)

/-- Keeps the last n entries of a list. -/
def keepLast {α : Type} (n : Nat) (l : List α) : List α := l.drop (l.length - n)

/-- Appends an entry and drops the oldest beyond n entries. -/
def pushCapped {α : Type} (n : Nat) (l : List α) (x : α) : List α := keepLast n (l ++ [x])

/-- A counter that stops at 65,535 (R11, R188). -/
def bump (n : Nat) : Nat := min (n + 1) Config.countCap

/-- The number after n, 1 after the cap (R73, R112). -/
def nextNumber (n : Nat) : Nat := if n ≥ Config.numberCap then 1 else n + 1

/-- The ring place after p in a ring of n places numbered from 1 (R130, R178). -/
def nextPlace (n p : Nat) : Nat := if p ≥ n then 1 else p + 1

/-- Insertion into a list kept in rising order of a key. -/
def insertBy {α : Type} (lt : α → α → Bool) (x : α) : List α → List α
  | [] => [x]
  | y :: l => if lt x y then x :: y :: l else y :: insertBy lt x l

def sortBy {α : Type} (lt : α → α → Bool) (l : List α) : List α := l.foldl (fun acc x => insertBy lt x acc) []

/-! ### Calendar (R192) -/

def leap (y : Nat) : Bool := y % 4 == 0 && (y % 100 != 0 || y % 400 == 0)

def daysInMonth (y m : Nat) : Nat :=
  match m with
  | 4 | 6 | 9 | 11 => 30
  | 2 => if leap y then 29 else 28
  | _ => 31

def daysInYear (y : Nat) : Nat := if leap y then 366 else 365

/-- Year and day of the year (from 0) of a day counted from 1 January of year y. -/
def splitYear : Nat → Nat → Nat → Nat × Nat
  | 0, y, d => (y, d)
  | f + 1, y, d => if d < daysInYear y then (y, d) else splitYear f (y + 1) (d - daysInYear y)

/-- Month and day (from 0) of a day of the year. -/
def splitMonth (y : Nat) : Nat → Nat → Nat → Nat × Nat
  | 0, m, d => (m, d)
  | f + 1, m, d => if d < daysInMonth y m then (m, d) else splitMonth y f (m + 1) (d - daysInMonth y m)

/-- Year, month and day of a day counted from 2000-01-01. -/
def dateOfDay (n : Nat) : Nat × Nat × Nat :=
  let (y, d) := splitYear 200 2000 n
  let (m, d) := splitMonth y 11 1 d
  (y, m, d + 1)

/-- Days before year y since 2000. -/
def daysBeforeYear : Nat → Nat
  | 0 => 0
  | k + 1 => daysBeforeYear k + daysInYear (2000 + k)

/-- Days before month m in year y. -/
def daysBeforeMonth (y : Nat) : Nat → Nat
  | 0 => 0
  | k + 1 => daysBeforeMonth y k + daysInMonth y (k + 1)

/-- The day of a date counted from 2000-01-01, when the date exists in 2000 to 2099. -/
def dayOfDate (y m d : Nat) : Option Nat :=
  if 2000 ≤ y ∧ y ≤ 2099 ∧ 1 ≤ m ∧ m ≤ 12 ∧ 1 ≤ d ∧ d ≤ daysInMonth y m then
    some (daysBeforeYear (y - 2000) + daysBeforeMonth y (m - 1) + (d - 1))
  else none

/-- The calendar day of a clock reading (section 4.3). -/
def dayOf (secs : Nat) : Nat := secs / Config.daySeconds

end Sys2Proof.Machine
end

