-- ==== Sys2Proof/Machine/Text.lean ====
section
/-! DEFINITION. The text of records: the field forms of R207 and the names of states, flags, codes and tags. -/

namespace Sys2Proof.Machine

/-! ### Field forms (R207) -/

/-- Decimal digits, no leading zeros. -/
def digitsAux : Nat → Nat → Text → Text
  | 0, _, acc => acc
  | f + 1, n, acc =>
    let acc' := Char.ofNat (48 + n % 10) :: acc
    if n < 10 then acc' else digitsAux f (n / 10) acc'

def tNat (n : Nat) : Text := digitsAux 40 n []

/-- Digits padded with zeros to a width. -/
def tPad (w n : Nat) : Text := List.replicate (w - (tNat n).length) '0' ++ tNat n

def tInt (n : Int) : Text := if n < 0 then '-' :: tNat n.natAbs else tNat n.natAbs

/-- Hundredths, exactly two digits after a full stop. -/
def tHundredths (n : Int) : Text :=
  (if n < 0 then ['-'] else []) ++ tNat (n.natAbs / 100) ++ ['.'] ++ tPad 2 (n.natAbs % 100)

def tAbsent : Text := ['-']

def tOpt {α : Type} (f : α → Text) : Option α → Text
  | none => tAbsent
  | some x => f x

/-- A date YYYYMMDD, from days since 2000-01-01; by itself that form is the model's (DESIGN CHOICE, log entry 54; unsafe). -/
def tDate (day : Nat) : Text :=
  let (y, m, d) := dateOfDay day
  tPad 4 y ++ tPad 2 m ++ tPad 2 d

/-- A time YYYYMMDDhhmmss, from seconds since 2000-01-01. -/
def tTime (secs : Nat) : Text :=
  let r := secs % Config.daySeconds
  tDate (dayOf secs) ++ tPad 2 (r / 3600) ++ tPad 2 (r / 60 % 60) ++ tPad 2 (r % 60)

def joinWith (sep : Char) : List Text → Text
  | [] => []
  | [x] => x
  | x :: l => x ++ sep :: joinWith sep l

/-- A flag or mark set: the names that stand, or a hyphen. -/
def tSet (l : List (Bool × Text)) : Text :=
  match (l.filter (·.1)).map (·.2) with
  | [] => tAbsent
  | names => joinWith ',' names

/-- A compound field. -/
def tCompound (l : List Text) : Text := joinWith '/' l

/-- A record before its CR LF: lead and tag, then the fields each preceded by one space. -/
def tRecord (lead : Char) (tag : Text) (fields : List Text) : Text :=
  lead :: (tag ++ fields.flatMap fun f => ' ' :: f)

def tCrLf : Text := ['\r', '\n']

/-! ### Names -/

def tYes : Text := ['Y', 'E', 'S']
def tNo : Text := ['N', 'O']
def tOn : Text := ['O', 'N']
def tOff : Text := ['O', 'F', 'F']
def tOpen : Text := ['O', 'P', 'E', 'N']
def tNone : Text := ['N', 'O', 'N', 'E']
def tUnset : Text := ['U', 'N', 'S', 'E', 'T']
def tSetWord : Text := ['S', 'E', 'T']
def tOver : Text := ['O', 'V', 'E', 'R']
def tUnder : Text := ['U', 'N', 'D', 'E', 'R']
def tDashes : Text := ['-', '-', '-', '-', '-']
def tAbsentWord : Text := ['A', 'B', 'S', 'E', 'N', 'T']
def tUnresolved : Text := ['U', 'N', 'R', 'E', 'S', 'O', 'L', 'V', 'E', 'D']
def tValid : Text := ['V', 'A', 'L', 'I', 'D']
def tDefault : Text := ['D', 'E', 'F', 'A', 'U', 'L', 'T']
def tInvalid : Text := ['I', 'N', 'V', 'A', 'L', 'I', 'D']
def tPass : Text := ['P', 'A', 'S', 'S']
def tFail : Text := ['F', 'A', 'I', 'L']
def tClear : Text := ['C', 'L', 'E', 'A', 'R']
def tVoid : Text := ['V', 'O', 'I', 'D']
def tTailgate : Text := ['T', 'A', 'I', 'L', 'G', 'A', 'T', 'E']
def tIdle : Text := ['I', 'D', 'L', 'E']
def tRed : Text := ['R', 'E', 'D']
def tGreen : Text := ['G', 'R', 'E', 'E', 'N']
def tAuto : Text := ['A', 'U', 'T', 'O']
def tClr : Text := ['C', 'L', 'R']
def tList : Text := ['L', 'I', 'S', 'T']
def tNum : Text := ['N', 'U', 'M']
def tRef : Text := ['R', 'E', 'F']
def tNvc : Text := ['N', 'V', 'C']
def tIn : Text := ['I', 'N']
def tOut : Text := ['O', 'U', 'T']
def tG : Text := ['G']
def tStopped : Text := ['S', 'T', 'O', 'P', 'P', 'E', 'D']
def tMore : Text := ['M', 'O', 'R', 'E']
def tFull : Text := ['F', 'U', 'L', 'L']
def tExhausted : Text := ['E', 'X', 'H', 'A', 'U', 'S', 'T', 'E', 'D']
def tReplaced : Text := ['R', 'E', 'P', 'L', 'A', 'C', 'E', 'D']
def tStale : Text := ['S', 'T', 'A', 'L', 'E']
def tExpired : Text := ['E', 'X', 'P', 'I', 'R', 'E', 'D']
def tOwed : Text := ['O', 'W', 'E', 'D']
def tTorn : Text := ['T', 'O', 'R', 'N']
def tTrackLimit : Text := ['T', 'R', 'A', 'C', 'K', '-', 'L', 'I', 'M', 'I', 'T']
def tStable : Text := ['S', 'T', 'A', 'B', 'L', 'E']
def tMotion : Text := ['M', 'O', 'T', 'I', 'O', 'N']
def tActive : Text := ['A', 'C', 'T', 'I', 'V', 'E']
def tReady : Text := ['R', 'E', 'A', 'D', 'Y']
def tCalibrating : Text := ['C', 'A', 'L', 'I', 'B', 'R', 'A', 'T', 'I', 'N', 'G']
def tDiff : Text := ['D', 'I', 'F', 'F']

def tFlag (b : Bool) (name : Text) : Text := if b then name else tAbsent

/-- The tag of a command as it stands in a record. -/
def tagText : Tag → Text
  | .sta => ['S', 'T', 'A'] | .wtr => ['W', 'T', 'R'] | .cel => ['C', 'E', 'L'] | .pas => ['P', 'A', 'S']
  | .vis => ['V', 'I', 'S'] | .trl => ['T', 'R', 'L'] | .jst => ['J', 'S', 'T'] | .aud => ['A', 'U', 'D']
  | .mst => ['M', 'S', 'T'] | .get => ['G', 'E', 'T'] | .clk => ['C', 'L', 'K'] | .lit => ['L', 'I', 'T']
  | .nte => ['N', 'T', 'E'] | .abt => ['A', 'B', 'T'] | .cop => ['C', 'O', 'P'] | .cpa => ['C', 'P', 'A']
  | .cdx => ['C', 'D', 'X'] | .vop => ['V', 'O', 'P'] | .zer => ['Z', 'E', 'R'] | .wg1 => ['W', 'G', '1']
  | .wg2 => ['W', 'G', '2'] | .wgs => ['W', 'G', 'S'] | .wgg => ['W', 'G', 'G'] | .trs => ['T', 'R', 'S']
  | .trk => ['T', 'R', 'K'] | .trd => ['T', 'R', 'D'] | .vcl => ['V', 'C', 'L'] | .vod => ['V', 'O', 'D']
  | .jrd => ['J', 'R', 'D'] | .jnx => ['J', 'N', 'X'] | .jex => ['J', 'E', 'X'] | .set => ['S', 'E', 'T']
  | .cze => ['C', 'Z', 'E'] | .csp => ['C', 'S', 'P'] | .ccm => ['C', 'C', 'M'] | .vpt => ['V', 'P', 'T']
  | .vcm => ['V', 'C', 'M']

/-- All tags, in the order of R201 and R202. -/
def allTags : List Tag :=
  [.sta, .wtr, .cel, .pas, .vis, .trl, .jst, .aud, .mst, .get, .clk, .lit, .nte, .abt, .cop, .cpa, .cdx, .vop] ++
  [.zer, .wg1, .wg2, .wgs, .wgg, .trs, .trk, .trd, .vcl, .vod, .jrd, .jnx, .jex, .set, .cze, .csp, .ccm, .vpt, .vcm]

/-- The command a tag text names, if any (R200, check 4). -/
def tagOfText (t : Text) : Option Tag := allTags.find? fun g => tagText g == t

/-- The long commands (R202). -/
def isLongTag : Tag → Bool
  | .zer | .wg1 | .wg2 | .wgs | .wgg | .trs | .trk | .trd | .vcl | .vod | .jrd | .jnx | .jex | .set | .cze | .csp | .ccm
  | .vpt | .vcm => true
  | _ => false

/-- Refusal and failure codes (section 11.7). -/
inductive Code where
  | syn | unk | rng | len | chr | bsy | lan | bem | mot | cel | ovr | und | zro | zrg | unc | cal | lck | tim | ful | num
  | vnf | dup | tbl | tnf | exp | abt | nvf | ses | inc
  deriving DecidableEq, Repr

def Code.text : Code → Text
  | .syn => ['S', 'Y', 'N'] | .unk => ['U', 'N', 'K'] | .rng => ['R', 'N', 'G'] | .len => ['L', 'E', 'N']
  | .chr => ['C', 'H', 'R'] | .bsy => ['B', 'S', 'Y'] | .lan => ['L', 'A', 'N'] | .bem => ['B', 'E', 'M']
  | .mot => ['M', 'O', 'T'] | .cel => ['C', 'E', 'L'] | .ovr => ['O', 'V', 'R'] | .und => ['U', 'N', 'D']
  | .zro => ['Z', 'R', 'O'] | .zrg => ['Z', 'R', 'G'] | .unc => ['U', 'N', 'C'] | .cal => ['C', 'A', 'L']
  | .lck => ['L', 'C', 'K'] | .tim => ['T', 'I', 'M'] | .ful => ['F', 'U', 'L'] | .num => ['N', 'U', 'M']
  | .vnf => ['V', 'N', 'F'] | .dup => ['D', 'U', 'P'] | .tbl => ['T', 'B', 'L'] | .tnf => ['T', 'N', 'F']
  | .exp => ['E', 'X', 'P'] | .abt => ['A', 'B', 'T'] | .nvf => ['N', 'V', 'F'] | .ses => ['S', 'E', 'S']
  | .inc => ['I', 'N', 'C']

def SlotState.text : SlotState → Text
  | .unused => ['U', 'N', 'U', 'S', 'E', 'D']
  | .seeking => ['S', 'E', 'E', 'K', 'I', 'N', 'G']
  | .verifying => ['V', 'E', 'R', 'I', 'F', 'Y', 'I', 'N', 'G']
  | .live => ['L', 'I', 'V', 'E']
  | .holding => ['H', 'O', 'L', 'D', 'I', 'N', 'G']
  | .faulted => ['F', 'A', 'U', 'L', 'T', 'E', 'D']
  | .mismatch => ['M', 'I', 'S', 'M', 'A', 'T', 'C', 'H']

def SlotOutcome.text : SlotOutcome → Text
  | .good => ['G', 'O', 'O', 'D']
  | .stale => tStale
  | .warmUp => ['W', 'A', 'R', 'M', '-', 'U', 'P']
  | .cellErr => ['C', 'E', 'L', 'L', '-', 'E', 'R', 'R']
  | .sup => ['S', 'U', 'P']
  | .bad => ['B', 'A', 'D']
  | .silent => ['S', 'I', 'L', 'E', 'N', 'T']
  | .late => ['L', 'A', 'T', 'E']
  | .notPolled => ['N', 'O', 'T', '-', 'P', 'O', 'L', 'L', 'E', 'D']

def LineStatus.text : LineStatus → Text
  | .active => tActive
  | .shorted => ['S', 'H', 'O', 'R', 'T', 'E', 'D']

def StatusFlags.text (f : StatusFlags) : Text :=
  tSet [(f.ovl, ['O', 'V', 'L']), (f.sup, ['S', 'U', 'P']), (f.tmp, ['T', 'M', 'P']), (f.err, ['E', 'R', 'R'])]

def WeightState.text : WeightState → Text
  | .invalid => tInvalid
  | .over => tOver
  | .under => tUnder
  | .normal => ['N', 'O', 'R', 'M', 'A', 'L']

def Lane.text : Lane → Text
  | .init => ['I', 'N', 'I', 'T']
  | .clear => tClear
  | .entering => ['E', 'N', 'T', 'E', 'R', 'I', 'N', 'G']
  | .onDeck => ['O', 'N', '_', 'D', 'E', 'C', 'K']
  | .leaving => ['L', 'E', 'A', 'V', 'I', 'N', 'G']

def OpenCause.text : OpenCause → Text
  | .aHit => ['A', '-', 'H', 'I', 'T']
  | .beamIn => ['B', 'E', 'A', 'M', '-', 'I', 'N']
  | .load => ['L', 'O', 'A', 'D']
  | .tailgate => tTailgate

def CloseCause.text : CloseCause → Text
  | .clear => tClear
  | .tailgate => tTailgate
  | .commit => ['C', 'O', 'M', 'M', 'I', 'T']

def PassFlags.text (f : PassFlags) : Text :=
  tSet [(f.tailgateOut, tTailgate ++ ['-', 'O', 'U', 'T']), (f.tailgateIn, tTailgate ++ ['-', 'I', 'N']),
    (f.reversed, ['R', 'E', 'V', 'E', 'R', 'S', 'E', 'D']), (f.order, ['O', 'R', 'D', 'E', 'R']),
    (f.axlesFull, ['A', 'X', 'L', 'E', 'S', '-'] ++ tFull),
    (f.intervalsFull, ['I', 'N', 'T', 'E', 'R', 'V', 'A', 'L', 'S', '-'] ++ tFull),
    (f.groupsFull, ['G', 'R', 'O', 'U', 'P', 'S', '-'] ++ tFull), (f.uneven, ['U', 'N', 'E', 'V', 'E', 'N']),
    (f.inconsistent, ['I', 'N', 'C', 'O', 'N', 'S', 'I', 'S', 'T', 'E', 'N', 'T']),
    (f.axleGross, ['A', 'X', 'L', 'E', '-', 'G', 'R', 'O', 'S', 'S'])]

def AxleResult.text : AxleResult → Text
  | .pass => tPass
  | .over => tOver
  | .incomplete => ['I', 'N', 'C', 'O', 'M', 'P', 'L', 'E', 'T', 'E']
  | .void => tVoid
  | .absent => tAbsentWord

def Usability.text : Usability → Text
  | .usable => ['U', 'S', 'A', 'B', 'L', 'E']
  | .short => ['S', 'H', 'O', 'R', 'T']
  | .slot => ['S', 'L', 'O', 'T']
  | .absent => tAbsentWord
  | .pending => ['P', 'E', 'N', 'D', 'I', 'N', 'G']

/-- A solve outcome as =PAS gives it (R99, R100) (DESIGN CHOICE, log entry 44; unsafe: two fields, the second the axle solved or the
residual). -/
def IvOutcome.text : IvOutcome → List Text
  | .none => [tAbsent, tAbsent]
  | .solves n => [['S', 'O', 'L', 'V', 'E', 'S'], tNat n]
  | .checkFail r => [['C', 'H', 'E', 'C', 'K', '-'] ++ tFail, tHundredths r]
  | .checkOk r => [['C', 'H', 'E', 'C', 'K', '-', 'O', 'K'], tHundredths r]
  | .open => [tOpen, tAbsent]
  | .unused => [SlotState.text .unused, tAbsent]

def GroupKind.text : GroupKind → Text
  | .steer => ['S', 'T', 'E', 'E', 'R']
  | .single => ['S', 'I', 'N', 'G', 'L', 'E']
  | .tandem => ['T', 'A', 'N', 'D', 'E', 'M']
  | .triaxle => ['T', 'R', 'I', 'A', 'X', 'L', 'E']
  | .multi => ['M', 'U', 'L', 'T', 'I']

def GroupLoad.text : GroupLoad → Text
  | .kg w => tInt w
  | .unresolved => tUnresolved
  | .absent => tAbsentWord

def AxleLoad.text : AxleLoad → Text
  | .unset => tAbsent
  | .fine w => tHundredths w
  | .unresolved => tUnresolved
  | .absent => tAbsentWord

def Verdict.text : Verdict → Text
  | .ok => ['O', 'K']
  | .over => tOver
  | .unchecked => ['U', 'N', 'C', 'H', 'E', 'C', 'K', 'E', 'D']
  | .unresolved => tUnresolved
  | .absent => tAbsentWord

def Spacing.text : Spacing → Text
  | .first => tAbsent
  | .unknown => ['U', 'N', 'K', 'N', 'O', 'W', 'N']
  | .cm n => tInt n

def Source.text : Source → Text
  | .static => ['S']
  | .keyed => ['K']

/-- The source written out, as stored-tare reads report it. -/
def Source.word : Source → Text
  | .static => ['S', 'T', 'A', 'T', 'I', 'C']
  | .keyed => ['K', 'E', 'Y', 'E', 'D']

def Direction.text : Direction → Text
  | .receival => ['R', 'E', 'C', 'E', 'I', 'V', 'A', 'L']
  | .outload => ['O', 'U', 'T', 'L', 'O', 'A', 'D']

def MetState.text : MetState → Text
  | .uncalibrated => ['U', 'N', 'C', 'A', 'L', 'I', 'B', 'R', 'A', 'T', 'E', 'D']
  | .calibrated => ['C', 'A', 'L', 'I', 'B', 'R', 'A', 'T', 'E', 'D']
  | .suspect => ['S', 'U', 'S', 'P', 'E', 'C', 'T']

def LightMode.text : LightMode → Text
  | .auto => tAuto
  | .forceRed => ['F', 'O', 'R', 'C', 'E', '-'] ++ tRed
  | .forceGreen => ['F', 'O', 'R', 'C', 'E', '-'] ++ tGreen

def tLight (green : Bool) : Text := if green then tGreen else tRed

def tBeam (blocked : Bool) : Text := if blocked then ['B', 'L', 'O', 'C', 'K', 'E', 'D'] else tClear

def tLock (isOpen : Bool) : Text := if isOpen then tOpen else ['L', 'O', 'C', 'K', 'E', 'D']

def Notice.text : Notice → Text
  | .sys => ['S', 'Y', 'S'] | .met => ['M', 'E', 'T'] | .cel => ['C', 'E', 'L']
  | .lne => ['L', 'N', 'E'] | .axl => ['A', 'X', 'L'] | .jrn => ['J', 'R', 'N']

def TicketFlags.text (f : TicketFlags) : Text :=
  tSet [(f.calSplit, ['C', 'A', 'L', '-', 'S', 'P', 'L', 'I', 'T']),
    (f.unverified, ['U', 'N', 'V', 'E', 'R', 'I', 'F', 'I', 'E', 'D']),
    (f.presetTare, ['P', 'R', 'E', 'S', 'E', 'T', '-', 'T', 'A', 'R', 'E']),
    (f.dirMismatch, ['D', 'I', 'R', '-', 'M', 'I', 'S', 'M', 'A', 'T', 'C', 'H']),
    (f.axleOver, ['A', 'X', 'L', 'E', '-'] ++ tOver),
    (f.axleIncomplete, ['A', 'X', 'L', 'E', '-'] ++ AxleResult.text .incomplete),
    (f.axleAbsent, ['A', 'X', 'L', 'E', '-'] ++ tAbsentWord), (f.tailgate, tTailgate)]

def JournalBody.kindText : JournalBody → Text
  | .ticket .. => ['T', 'I', 'C', 'K', 'E', 'T']
  | .onepass .. => ['O', 'N', 'E', 'P', 'A', 'S', 'S']
  | .gross .. => ['G', 'R', 'O', 'S', 'S']
  | .void _ => tVoid
  | .cancel .. => ['C', 'A', 'N', 'C', 'E', 'L']
  | .torn => tTorn

def AuditBody.kindText : AuditBody → Text
  | .calCommit .. => ['C', 'A', 'L', '-', 'C', 'O', 'M', 'M', 'I', 'T']
  | .calDiscard => ['C', 'A', 'L', '-', 'D', 'I', 'S', 'C', 'A', 'R', 'D']
  | .verify .. => ['V', 'E', 'R', 'I', 'F', 'Y']
  | .cellMismatch .. => ['C', 'E', 'L', 'L', '-', 'M', 'I', 'S', 'M', 'A', 'T', 'C', 'H']
  | .calInvalid => ['C', 'A', 'L', '-'] ++ tInvalid
  | .torn => tTorn

/-- A slot name, line.address (section 4.4). -/
def slotText (i : SlotId) : Text := tNat (i.line.toNat + 1) ++ ['.'] ++ tNat i.addr.toNat

def RecordItem.text : RecordItem → Text
  | .max => ['M', 'A', 'X'] | .div => ['D', 'I', 'V'] | .per => ['P', 'E', 'R'] | .flt => ['F', 'L', 'T']
  | .win => ['W', 'I', 'N'] | .band => ['B', 'A', 'N', 'D'] | .vint => ['V', 'I', 'N', 'T']
  | .zcal => ['Z', 'C', 'A', 'L']

def SlotItem.text : SlotItem → Text
  | .cfg => ['C', 'F', 'G'] | .lcel => ['L', 'C', 'E', 'L'] | .tco => ['T', 'C', 'O'] | .zcnt => ['Z', 'C', 'N', 'T']
  | .tcal => ['T', 'C', 'A', 'L'] | .span => ['S', 'P', 'A', 'N'] | .lref => ['L', 'R', 'E', 'F']
  | .serl => ['S', 'E', 'R', 'L']

/-- Slot items are named with their slot, as in 3.1:SPAN (R164). -/
def ChangedItem.text : ChangedItem → Text
  | .whole i => i.text
  | .slot i item => slotText i ++ [':'] ++ item.text

def Rate.bits : Rate → Nat
  | .r9600 => 9600
  | .r19200 => 19200
  | .r38400 => 38400
  | .r57600 => 57600
  | .r115200 => 115200

def Parity.text : Parity → Text
  | .none => tNone
  | .even => ['E', 'V', 'E', 'N']

/-! ### Compound fields (R207) -/

/-- weight/d/time/counter/passage/source. -/
def Weighing.text (w : Weighing) : Text :=
  tCompound [tInt w.weight, tNat w.d, tOpt tTime w.time, tOpt tNat w.counter, tOpt tNat w.passage, w.source.text]

/-- KIND/load/limit/excess. -/
def GroupEntry.text (g : GroupEntry) : Text :=
  tCompound [g.kind.text, g.load.text, tNat g.limit, tOpt tInt g.excess]

def Group.entry (g : Group) : GroupEntry := ⟨g.kind, g.load, g.limit, g.excess⟩

/-- Result, passage flags, group count and the group entries; absent fields when there is no summary. -/
def summaryFields : Option Summary → List Text
  | none => [tAbsent, tAbsent, tNat 0]
  | some s => [s.result.text, s.flags.text, tNat s.groups.length] ++ s.groups.map GroupEntry.text

/-! ### Journal records (R207) and their check (R131) -/

def JournalBody.fields : JournalBody → List Text
  | .ticket visit ref dir a b net summary flags =>
    [tNat visit, ref, dir.text, a.text, b.text, tInt net] ++ summaryFields summary ++ [flags.text]
  | .onepass ref a b net summary flags => [ref, a.text, b.text, tInt net] ++ summaryFields summary ++ [flags.text]
  | .gross ref a summary flags => [ref, a.text] ++ summaryFields summary ++ [flags.text]
  | .void voided => [tNat voided]
  | .cancel visit ref => [tNat visit, ref]
  | .torn => []

/-- The record's characters from the lead up to and including the space before the check. -/
def journalText (number : Nat) (body : JournalBody) (time counter : Option Nat) : Text :=
  tRecord ':' body.kindText ([tNat number, tOpt tTime time, tOpt tNat counter] ++ body.fields) ++ [' ']

/-- The two running sums of R131, and the check they make. -/
def checkSums : Nat × Nat → Text → Nat × Nat
  | p, [] => p
  | (s1, s2), c :: l =>
    let s1' := (s1 + c.toNat) % 255
    checkSums (s1', (s2 + s1') % 255) l

def textCheck (t : Text) : Nat :=
  let (s1, s2) := checkSums (0, 0) t
  s2 * 256 + s1

/-- A journal record with its check (R131). -/
def JournalRec.make (number : Nat) (body : JournalBody) (time counter : Option Nat) : JournalRec :=
  ⟨number, body, time, counter, textCheck (journalText number body time counter)⟩

/-- A journal record as a stream item. -/
def JournalRec.item (r : JournalRec) : Text := journalText r.number r.body r.time r.counter ++ tPad 5 r.check

end Sys2Proof.Machine
end

