-- ==== Sys2Proof/Machine/Operands.lean ====
section
/-! DEFINITION. The operand forms of the host's records: numbers, references, slot names, times, keywords, settings. Each reads
one field's text, or answers none for a malformed field (which the owner refuses RNG). -/

namespace Sys2Proof.Machine

def isDigit (c : Char) : Bool := 48 ≤ c.toNat && c.toNat ≤ 57
def isCapital (c : Char) : Bool := 65 ≤ c.toNat && c.toNat ≤ 90
def digitVal (c : Char) : Nat := c.toNat - 48

/-- An unsigned decimal number of at least one digit, leading zeros and all (DESIGN CHOICE, log entry 48; unsafe: no rule gives the form
of a number from the host). -/
def readNat (t : Text) : Option Nat :=
  if t ≠ [] ∧ t.all isDigit then some (t.foldl (fun n c => 10 * n + digitVal c) 0) else none

/-- A decimal number with an optional leading minus. -/
def readInt : Text → Option Int
  | '-' :: t => (readNat t).map fun n => -(n : Int)
  | t => (readNat t).map fun n => (n : Int)

/-- A number within a range. -/
def readRange (lo hi : Nat) (t : Text) : Option Nat :=
  match readNat t with
  | some n => if lo ≤ n ∧ n ≤ hi then some n else none
  | none => none

/-- Tenths: a number, or a number with one digit after a full stop (SETL, R190) (DESIGN CHOICE, log entry 48; unsafe: no rule gives the
form). -/
def readTenths (t : Text) : Option Nat :=
  match t.span (· != '.') with
  | (whole, []) => (readNat whole).map (10 * ·)
  | (whole, _ :: [c]) => if isDigit c then (readNat whole).map fun n => 10 * n + digitVal c else none
  | _ => none

/-- A vehicle reference: 1 to 12 characters, each A to Z, 0 to 9 or '-' (section 6.2). -/
def readRef (t : Text) : Option Text :=
  if 1 ≤ t.length ∧ t.length ≤ 12 ∧ t.all (fun c => isCapital c || isDigit c || c == '-') then some t else none

def readDirection (t : Text) : Option Direction :=
  if t = Direction.text .receival then some .receival
  else if t = Direction.text .outload then some .outload
  else none

/-- A slot name, 1.0 to 4.3. -/
def readSlot (t : Text) : Option SlotId := SlotId.all.find? fun i => slotText i == t

/-- A module number, 1 to 4. -/
def readModule (t : Text) : Option Ix := Ix.all.find? fun i => tNat (i.toNat + 1) == t

/-- A time YYYYMMDDhhmmss within the clock's range, as seconds since 2000-01-01 (R192). -/
def readTime (t : Text) : Option Nat :=
  if t.length = 14 ∧ t.all isDigit then
    let num (a n : Nat) : Nat := ((t.drop a).take n).foldl (fun x c => 10 * x + digitVal c) 0
    match dayOfDate (num 0 4) (num 4 2) (num 6 2) with
    | some day =>
      if num 8 2 < 24 ∧ num 10 2 < 60 ∧ num 12 2 < 60 then
        some (day * Config.daySeconds + num 8 2 * 3600 + num 10 2 * 60 + num 12 2)
      else none
    | none => none
  else none

/-- References in the order of R124's table: by character code, a shorter prefix first. -/
def refLt : Text → Text → Bool
  | [], [] => false
  | [], _ :: _ => true
  | _ :: _, [] => false
  | a :: l, b :: m => if a.toNat < b.toNat then true else if b.toNat < a.toNat then false else refLt l m

/-! ### Settings (section 10.3) -/

inductive SettingItem where
  | rate | par | setl | clrt | occ | dab | gsp | grd | nmin | lstr | lsgl | ltan | ltri | lmul | lgrs | cto | axw | hold | stale
  deriving DecidableEq, Repr

def SettingItem.all : List SettingItem :=
  [.rate, .par, .setl, .clrt, .occ, .dab, .gsp, .grd, .nmin, .lstr, .lsgl, .ltan, .ltri, .lmul, .lgrs, .cto, .axw, .hold, .stale]

def SettingItem.text : SettingItem → Text
  | .rate => ['R', 'A', 'T', 'E'] | .par => ['P', 'A', 'R'] | .setl => ['S', 'E', 'T', 'L'] | .clrt => ['C', 'L', 'R', 'T']
  | .occ => ['O', 'C', 'C'] | .dab => ['D', 'A', 'B'] | .gsp => ['G', 'S', 'P'] | .grd => ['G', 'R', 'D']
  | .nmin => ['N', 'M', 'I', 'N'] | .lstr => ['L', 'S', 'T', 'R'] | .lsgl => ['L', 'S', 'G', 'L']
  | .ltan => ['L', 'T', 'A', 'N'] | .ltri => ['L', 'T', 'R', 'I'] | .lmul => ['L', 'M', 'U', 'L']
  | .lgrs => ['L', 'G', 'R', 'S'] | .cto => ['C', 'T', 'O'] | .axw => ['A', 'X', 'W'] | .hold => ['H', 'O', 'L', 'D']
  | .stale => tStale

def readSettingItem (t : Text) : Option SettingItem := SettingItem.all.find? fun i => i.text == t

/-- The value of a setting as GET and =SET report it, SETL with one digit after a full stop (DESIGN CHOICE, log entry 54; unsafe). -/
def SettingItem.value (s : Settings) : SettingItem → Text
  | .rate => tNat s.rate.bits
  | .par => s.par.text
  | .setl => tNat (s.setl / 10) ++ ['.'] ++ tNat (s.setl % 10)
  | .clrt => tNat s.clrt
  | .occ => tNat s.occ
  | .dab => tNat s.dab
  | .gsp => tNat s.gsp
  | .grd => tNat s.grd
  | .nmin => tNat s.nmin
  | .lstr => tNat s.lstr
  | .lsgl => tNat s.lsgl
  | .ltan => tNat s.ltan
  | .ltri => tNat s.ltri
  | .lmul => tNat s.lmul
  | .lgrs => tNat s.lgrs
  | .cto => tNat s.cto
  | .axw => tNat s.axw
  | .hold => tNat s.hold
  | .stale => tNat s.stale

def readRate (t : Text) : Option Rate :=
  [Rate.r9600, .r19200, .r38400, .r57600, .r115200].find? fun r => tNat r.bits == t

def readParity (t : Text) : Option Parity := [Parity.none, .even].find? fun p => p.text == t

/-- The settings with one item set to the value a field names; none for a value outside its range or not on its step. -/
def SettingItem.assign (s : Settings) (t : Text) : SettingItem → Option Settings
  | .rate => (readRate t).map fun v => { s with rate := v }
  | .par => (readParity t).map fun v => { s with par := v }
  | .setl =>
    match readTenths t with
    | some v => if 5 ≤ v ∧ v ≤ 100 then some { s with setl := v } else none
    | none => none
  | .clrt => (readRange 1 30 t).map fun v => { s with clrt := v }
  | .occ => (readRange 5 200 t).map fun v => { s with occ := v }
  | .dab => (readRange 50 400 t).map fun v => { s with dab := v }
  | .gsp => (readRange 100 400 t).map fun v => { s with gsp := v }
  | .grd => (readRange 0 5 t).map fun v => { s with grd := v }
  | .nmin => (readRange 3 20 t).map fun v => { s with nmin := v }
  | .lstr => (readRange 0 150000 t).map fun v => { s with lstr := v }
  | .lsgl => (readRange 0 150000 t).map fun v => { s with lsgl := v }
  | .ltan => (readRange 0 150000 t).map fun v => { s with ltan := v }
  | .ltri => (readRange 0 150000 t).map fun v => { s with ltri := v }
  | .lmul => (readRange 0 150000 t).map fun v => { s with lmul := v }
  | .lgrs => (readRange 0 150000 t).map fun v => { s with lgrs := v }
  | .cto => (readRange 2 60 t).map fun v => { s with cto := v }
  | .axw => (readRange 10 600 t).map fun v => { s with axw := v }
  | .hold => (readRange 1 8 t).map fun v => { s with hold := v }
  | .stale => (readRange 1 240 t).map fun v => { s with stale := v }

/-- Pairs of items and values applied in order; an item named twice, an unknown item or a bad value gives none (R190). -/
def readSettings (s : Settings) (seen : List SettingItem) : List Text → Option Settings
  | [] => some s
  | [_] => none
  | item :: value :: rest =>
    match readSettingItem item with
    | none => none
    | some i =>
      if i ∈ seen then none
      else match i.assign s value with
        | none => none
        | some s' => readSettings s' (i :: seen) rest

/-! ### Working-copy items (R156) -/

def readRecordItem (t : Text) : Option RecordItem :=
  [RecordItem.max, .div, .per, .flt, .win, .band, .vint].find? fun i => i.text == t

def readSlotItem (t : Text) : Option SlotItem := [SlotItem.cfg, .lcel, .tco].find? fun i => i.text == t

/-- d is one of 1, 2, 5, 10, 20 or 50 kg; P is 5, 10 or 20 ms. -/
def isDivision (n : Nat) : Bool := n == 1 || n == 2 || n == 5 || n == 10 || n == 20 || n == 50
def isPeriod (n : Nat) : Bool := n == 5 || n == 10 || n == 20

/-- The record's text as a command: `>`, a tag of three capitals or digits, then fields each preceded by spaces, all printable
(section 11.2 and check 3 of R200). -/
def readTag : Text → Option (Text × Text)
  | '>' :: a :: b :: c :: rest =>
    if [a, b, c].all (fun x => isCapital x || isDigit x) then some ([a, b, c], rest) else none
  | _ => none

def isPrintable (c : Char) : Bool := 0x20 ≤ c.toNat && c.toNat ≤ 0x7E

/-- Splits the text after the tag into fields; none when it does not begin with a space or ends in one. The state is the
field being read, last character first, and whether a space has been read (DEDUCED, log entry 10; unsafe). -/
def splitFields : Text → Option Text → List Text → Option (List Text)
  | [], none, acc => some acc.reverse
  | [], some [], _ => none
  | [], some cur, acc => some ((cur.reverse :: acc).reverse)
  | ' ' :: l, none, acc => splitFields l (some []) acc
  | ' ' :: l, some [], acc => splitFields l (some []) acc
  | ' ' :: l, some cur, acc => splitFields l (some []) (cur.reverse :: acc)
  | _ :: _, none, _ => none
  | c :: l, some cur, acc => splitFields l (some (c :: cur)) acc

/-- Check 3 of R200: the tag's text and the fields of a record in command form. -/
def readRecord (t : Text) : Option (Text × List Text) :=
  if t.all isPrintable then
    match readTag t with
    | none => none
    | some (tag, rest) => (splitFields rest none []).map fun fs => (tag, fs)
  else none

end Sys2Proof.Machine
end

