-- ==== Sys2Proof/Machine/Store.lean ====
section
/-! DEFINITION. The non-volatile store: sparse slot tables, two-copy records (R110), how a write or a tear leaves its target
(R185), and the views of the journal and the audit log that the store alone determines. -/

namespace Sys2Proof.Machine

/-! ### Sparse tables -/

def nvGet {α : Type} (m : NvMap α) (k : Nat) : Option α :=
  match m with
  | [] => none
  | (j, x) :: l => if j = k then some x else nvGet l k

def nvPut {α : Type} (m : NvMap α) (k : Nat) (x : α) : NvMap α :=
  match m with
  | [] => [(k, x)]
  | (j, y) :: l => if k < j then (k, x) :: (j, y) :: l else if k = j then (k, x) :: l else (j, y) :: nvPut l k x

def nvErase {α : Type} (m : NvMap α) (k : Nat) : NvMap α := m.filter fun e => e.1 != k

/-- Places strictly rising. -/
abbrev nvWf {α : Type} (m : NvMap α) : Prop := List.Pairwise (· < ·) (m.map (·.1))

/-- The first place from 1 to n for which a test holds. -/
def firstPlace (p : Nat → Bool) (n : Nat) : Option Nat := (List.range n).map (· + 1) |>.find? p

/-! ### Cells and copies (R110) -/

def NvCell.content {α : Type} : NvCell α → Option α
  | .valid x => some x
  | _ => none

def NvCell.isTorn {α : Type} : NvCell α → Bool
  | .torn => true
  | _ => false

def NvCell.isBlank {α : Type} : NvCell α → Bool
  | .blank => true
  | _ => false

/-- The newest valid copy of a two-copy record; true names copy 2. -/
def TwoCopy.newest {α : Type} (t : TwoCopy α) : Option (Bool × Copy α) :=
  match t.c1, t.c2 with
  | .valid a, .valid b =>
    if a.seq = (b.seq + 1) % 4 then some (false, a)
    else if b.seq = (a.seq + 1) % 4 then some (true, b)
    else some (false, a)
  | .valid a, _ => some (false, a)
  | _, .valid b => some (true, b)
  | _, _ => none

/-- The newest valid content. -/
def TwoCopy.content {α : Type} (t : TwoCopy α) : Option α := t.newest.map (·.2.content)

/-- The copy the next write goes to, and the sequence number it carries; copy 1 when no copy is valid
(DESIGN CHOICE, log entry 25; unsafe). -/
def TwoCopy.target {α : Type} (t : TwoCopy α) : Bool × Nat :=
  match t.newest with
  | some (second, c) => (!second, (c.seq + 1) % 4)
  | none => (false, 0)

def TwoCopy.put {α : Type} (t : TwoCopy α) (second : Bool) (c : NvCell (Copy α)) : TwoCopy α :=
  if second then { t with c2 := c } else { t with c1 := c }

def TwoCopy.blank {α : Type} : TwoCopy α := ⟨.blank, .blank⟩

/-- How many copies of a record fail their check. -/
def TwoCopy.tornCount {α : Type} (t : TwoCopy α) : Nat :=
  (if t.c1.isTorn then 1 else 0) + (if t.c2.isTorn then 1 else 0)

/-- How many copies of a record were written. -/
def TwoCopy.writtenCount {α : Type} (t : TwoCopy α) : Nat :=
  (if t.c1.isBlank then 0 else 1) + (if t.c2.isBlank then 0 else 1)

/-! ### Slots of the store -/

def NvStore.auditCell (nv : NvStore) (slot : Nat) : NvCell AuditRec := (nvGet nv.audit slot).getD .blank
def NvStore.journalCell (nv : NvStore) (slot : Nat) : NvCell JournalRec := (nvGet nv.journal slot).getD .blank
def NvStore.visitSlot (nv : NvStore) (slot : Nat) : TwoCopy (Option VisitRec) := (nvGet nv.visits slot).getD TwoCopy.blank
def NvStore.tareSlot (nv : NvStore) (slot : Nat) : TwoCopy (Option TareEntry) := (nvGet nv.tares slot).getD TwoCopy.blank

/-- What a write leaves in its target: its content, or a target that fails its check (R185). -/
def landCell {α : Type} (good : Bool) (x : α) : NvCell α := if good then .valid x else .torn

/-- The store after a write has ended: with `good` the new content is in place and valid, else the target fails its check.
The write alters its own target alone (R185) (DESIGN CHOICE, log entry 8; safe: the outcome is the event's). -/
def NvStore.land (nv : NvStore) (good : Bool) : NvWrite → NvStore
  | .settings s => { nv with settings := landCell good s }
  | .calibration r => { nv with calibration := landCell good r }
  | .status second c => { nv with status := nv.status.put second (landCell good c) }
  | .audit slot r => { nv with audit := nvPut nv.audit slot (landCell good r) }
  | .tare slot second c => { nv with tares := nvPut nv.tares slot ((nv.tareSlot slot).put second (landCell good c)) }
  | .visit slot second c => { nv with visits := nvPut nv.visits slot ((nv.visitSlot slot).put second (landCell good c)) }
  | .journal slot r => { nv with journal := nvPut nv.journal slot (landCell good r) }
  | .exportRec second c => { nv with exportRec := nv.exportRec.put second (landCell good c) }

/-- What a reset or a power failure leaves of the write in progress (R185). -/
def NvStore.cut (nv : NvStore) (writing : Option WriteReq) (phase : WritePhase) : NvStore :=
  match writing, phase with
  | some r, .altering => nv.land false r.write
  | some r, .verifying => nv.land true r.write
  | _, _ => nv

/-! ### Views of the journal (R130, R133) -/

/-- The records held, in slot order. -/
def NvStore.tickets (nv : NvStore) : List JournalRec := nv.journal.filterMap fun e => e.2.content

def minNat : List Nat → Option Nat
  | [] => none
  | x :: l => some (l.foldl min x)

def maxNat : List Nat → Option Nat
  | [] => none
  | x :: l => some (l.foldl max x)

def NvStore.oldest (nv : NvStore) : Option Nat := minNat (nv.tickets.map (·.number))
def NvStore.newest (nv : NvStore) : Option Nat := maxNat (nv.tickets.map (·.number))

/-- The record held under a ticket number. -/
def NvStore.ticket (nv : NvStore) (n : Nat) : Option JournalRec := nv.tickets.find? fun r => r.number == n

/-- A slot is free when it holds no valid record, or one at or below the export mark (R133). -/
def NvStore.slotFree (nv : NvStore) (e slot : Nat) : Bool :=
  match nv.journalCell slot with
  | .valid r => r.number ≤ e
  | _ => true

/-- The n slots from a place on are all free. -/
def NvStore.freeRun (nv : NvStore) (e : Nat) : Nat → Nat → Bool
  | 0, _ => true
  | n + 1, slot => nv.slotFree e slot && nv.freeRun e n (nextPlace Config.journalSlots slot)

/-- The unexported count (R133). -/
def NvStore.unexported (nv : NvStore) (e : Nat) : Nat := (nv.newest.map (· - e)).getD 0

/-- The number the next record will take (R134). -/
def NvStore.nextTicket (nv : NvStore) (owed : Option Nat) : Nat :=
  match owed with
  | some n => n + 1
  | none => (nv.newest.map (· + 1)).getD 1

/-! ### Views of the audit log (R178, R182) -/

def NvStore.audits (nv : NvStore) : List AuditRec := nv.audit.filterMap fun e => e.2.content
def NvStore.auditOldest (nv : NvStore) : Option Nat := minNat (nv.audits.map (·.number))
def NvStore.auditNewest (nv : NvStore) : Option Nat := maxNat (nv.audits.map (·.number))
def NvStore.auditRec (nv : NvStore) (n : Nat) : Option AuditRec := nv.audits.find? fun r => r.number == n

/-- The slot that holds an audit number. -/
def slotOfAudit (m : NvMap (NvCell AuditRec)) (n : Nat) : Option Nat :=
  (m.find? fun e => (e.2.content.map (·.number)) == some n).map (·.1)

/-- The slot whose place in the ring is an audit number's, counted back from the slot that holds newest (R178). -/
def NvStore.auditPlace (nv : NvStore) (n : Nat) : Option Nat :=
  nv.auditNewest.bind fun hi => (slotOfAudit nv.audit hi).map fun k =>
    (k + (Config.auditSlots - 1) - (hi - n) % Config.auditSlots) % Config.auditSlots + 1

/-- A read of the number finds a slot that fails its check (R183, R188): the number has no record, and the slot of its place is failing.
A slot that has been overwritten holds a valid record and does not fail. -/
def NvStore.auditFails (nv : NvStore) (n : Nat) : Bool :=
  (nv.auditRec n).isNone && (nv.auditPlace n).any fun slot => (nv.auditCell slot).isTorn

/-- The counter of the newest CAL-COMMIT record held (R153). -/
def NvStore.commitCounter (nv : NvStore) : Option Nat :=
  let commits := nv.audits.filter fun r => match r.body with
    | .calCommit .. => true
    | _ => false
  match maxNat (commits.map (·.number)) with
  | none => none
  | some n => (commits.find? fun r => r.number == n).bind (·.counter)

/-- The slot that holds a ticket number. -/
def slotOfTicket (m : NvMap (NvCell JournalRec)) (n : Nat) : Option Nat :=
  (m.find? fun e => (e.2.content.map (·.number)) == some n).map (·.1)

end Sys2Proof.Machine
end

