-- ==== Sys2Proof/Machine/Ops.lean ====
section
/-! DEFINITION. The operations every block shares: records to the host, notices, the long-operation slot, the write queue and its
shares, audit appends, status requests, the lights, and how a meaning acts on the state. -/

namespace Sys2Proof.Machine

/-! ### Records to the host (R202, R204, R207) -/

/-- A reply joins the records waiting to be placed, in the order its command was taken: behind a read that waits for the report of a
write, while there is one (R186, R204) (DEDUCED, log entry 5; safe). -/
def joinReplies (r : Text) (d : Device) : Device :=
  if d.tx.held = [] then { d with tx := { d.tx with replies := d.tx.replies ++ [r] } }
  else { d with tx := { d.tx with held := d.tx.held ++ [.formed r] } }

/-- The reply is formed, and waits behind a read alone. -/
def HeldReply.isFormed : HeldReply → Bool
  | .read _ => false
  | .formed _ => true

/-- A formed reply or refusal waits, to be placed or behind a read: it goes before notices and the long operation's records (R203,
R204). A read that waits for its report has no record yet, and holds back nothing but replies (DESIGN CHOICE, log entry 31; unsafe). -/
def repliesWait (d : Device) : Bool := !d.tx.replies.isEmpty || d.tx.held.any HeldReply.isFormed

/-- A refusal, or the reply of an immediate command. -/
def reply (lead : Char) (tag : Text) (fields : List Text) (d : Device) : Device :=
  joinReplies (tRecord lead tag fields ++ tCrLf) d

/-- `=TAG` with its fields: the reply of an immediate command. -/
def answer (t : Tag) (fields : List Text) (d : Device) : Device := reply '=' (tagText t) fields d

/-- `#TAG code`: a command refused; an owner's refusal of a long command takes its place among the replies (DESIGN CHOICE, log entry 58;
unsafe). -/
def refuse (t : Tag) (c : Code) (d : Device) : Device := reply '#' (tagText t) [c.text] d

/-- A record of the long operation joins those waiting to be placed. -/
def sendLong (lead : Char) (tag : Text) (fields : List Text) (d : Device) : Device :=
  { d with tx := { d.tx with longs := d.tx.longs ++ [tRecord lead tag fields ++ tCrLf] } }

def setStage (st : Stage) (d : Device) : Device := { d with exe := { d.exe with stage := st } }

/-- A long command is accepted: the slot takes its tag and its `+TAG` record waits (R202). -/
def accept (t : Tag) (st : Stage) (d : Device) : Device := sendLong '+' (tagText t) [] { d with exe := ⟨some t, st⟩ }

/-- The tag in the long-operation slot, as text. -/
def inFlightText (d : Device) : Text := (d.exe.slot.map tagText).getD tAbsent

/-- The long command in flight ends with `=TAG` and its fields; the slot is kept until the record is placed (R202). -/
def complete (fields : List Text) (d : Device) : Device := setStage .ended (sendLong '=' (inFlightText d) fields d)

/-- The long command in flight ends with `#TAG code` and its detail. -/
def failWith (c : Code) (detail : List Text) (d : Device) : Device :=
  setStage .ended (sendLong '#' (inFlightText d) (c.text :: detail) d)

/-! ### Notices (R205) -/

def PerNotice.get (p : PerNotice) : Notice → Bool
  | .sys => p.sys
  | .met => p.met
  | .cel => p.cel
  | .lne => p.lne
  | .axl => p.axl
  | .jrn => p.jrn

def PerNotice.put (p : PerNotice) (c : Notice) (b : Bool) : PerNotice :=
  match c with
  | .sys => { p with sys := b }
  | .met => { p with met := b }
  | .cel => { p with cel := b }
  | .lne => { p with lne := b }
  | .axl => { p with axl := b }
  | .jrn => { p with jrn := b }

/-- An owner raises a class: pending if enabled, discarded if not (R205). -/
def raise (c : Notice) (d : Device) : Device :=
  if d.ntc.enabled.get c then { d with ntc := { d.ntc with pending := d.ntc.pending.put c true } } else d

/-! ### Readings -/

/-- The UART runs: from step 1 of the scan on (R194, R208). -/
def uartOn (d : Device) : Bool := d.power.phase == .scan || d.power.phase == .run

def running (d : Device) : Bool := d.power.phase == .run

/-- A calibration run is open (R155). -/
def runOpen (d : Device) : Bool := d.mst.run.isSome

/-- A verification run is open (R170). -/
def verifOpen (d : Device) : Bool := d.mst.verif.isSome

/-- The calibration fields of a slot in the active record. -/
def slotCal (d : Device) (i : SlotId) : Option SlotCal := d.mst.active.map fun r => r.slots.sel i

/-- The slot is configured in the active calibration record (R27). -/
def configured (d : Device) (i : SlotId) : Bool := ((slotCal d i).map (·.configured)).getD false

/-- The slot is configured in the working copy of an open run (R21). -/
def workConfigured (d : Device) (i : SlotId) : Bool := (d.mst.run.map fun w => (w.slots.sel i).configured).getD false

/-- The sample period in force, 10 ms with no calibration record (R2). -/
def periodMs (d : Device) : Nat := (d.mst.active.map (·.p)).getD 10

/-- The division in force. -/
def division (d : Device) : Option Nat := d.mst.active.map (·.d)

/-- A deadline of the capture timeout setting, counted from now (R50, R56, R158). -/
def captureDeadlineFrom (d : Device) : Nat := d.now + d.nvc.settings.cto * 1000

/-- Time passes to a moment on the sample time base; it never runs back (DESIGN CHOICE, log entry 3; safe). -/
def advance (t : Nat) (d : Device) : Device := { d with now := max d.now t }

/-- UNC of trade commands: metrology state CALIBRATED or SUSPECT (R152). -/
def calibratedOrSuspect (d : Device) : Bool := d.mst.state != .uncalibrated

/-- Both debounced beams are clear (R63). -/
def beamsClear (d : Device) : Bool := !d.lsv.beamIn.state && !d.lsv.beamOut.state

/-! ### The write queue (R186, R187) -/

inductive Share where
  | longOp | status | mismatch | attach
  deriving DecidableEq, Repr

def Requester.share : Requester → Share
  | .longOp => .longOp
  | .status _ => .status
  | .discard => .status
  | .calInvalid => .status
  | .mismatch _ => .mismatch
  | .attach _ _ => .attach
  | .freeVisit _ _ => .attach
  | .freeTare _ _ => .attach

/-- The requests outstanding: the write in progress, then the queue. -/
def outstanding (d : Device) : List WriteReq := d.nvc.writing.toList ++ d.nvc.queue

/-- When no write is in progress and the queue is not empty, the NVC takes the oldest request (R186). -/
def startWrite (d : Device) : Device :=
  if d.nvc.serving && d.nvc.writing.isNone then
    match d.nvc.queue with
    | [] => d
    | r :: q => { d with nvc := { d.nvc with queue := q, writing := some r } }
  else d

/-- A request joins the end of the queue; the high-water mark follows (R186, R188)
(DESIGN CHOICE, log entry 13; unsafe: the order of two requests of one step). -/
def request (r : WriteReq) (d : Device) : Device :=
  let high := max d.nvc.report.high ((outstanding d).length + 1)
  startWrite { d with nvc := { d.nvc with queue := d.nvc.queue ++ [r], report := { d.nvc.report with high := high } } }

/-- How many requests of a share are outstanding. -/
def shareCount (sh : Share) (d : Device) : Nat := ((outstanding d).filter fun r => r.source.share == sh).length

/-- The slot of a table that a write names, visits and tares apart. -/
def NvWrite.visitSlot? : NvWrite → Option Nat
  | .visit slot _ _ => some slot
  | _ => none

def NvWrite.tareSlot? : NvWrite → Option Nat
  | .tare slot _ _ => some slot
  | _ => none

def visitBusy (d : Device) (slot : Nat) : Bool := (outstanding d).any fun r => r.write.visitSlot? == some slot
def tareBusy (d : Device) (slot : Nat) : Bool := (outstanding d).any fun r => r.write.tareSlot? == some slot

/-- A write of a visit slot, to the copy that does not hold its newest valid content (R110). -/
def visitWrite (nv : NvStore) (slot : Nat) (c : Option VisitRec) : NvWrite :=
  let t := (nv.visitSlot slot).target
  .visit slot t.1 ⟨t.2, c⟩

def tareWrite (nv : NvStore) (slot : Nat) (c : Option TareEntry) : NvWrite :=
  let t := (nv.tareSlot slot).target
  .tare slot t.1 ⟨t.2, c⟩

def exportWrite (nv : NvStore) (n : Nat) : NvWrite :=
  let t := nv.exportRec.target
  .exportRec t.1 ⟨t.2, n⟩

def statusWrite (nv : NvStore) (r : StatusRec) : NvWrite :=
  let t := nv.status.target
  .status t.1 ⟨t.2, r⟩

/-- The metrology status share is taken (R187). -/
def statusBusy (d : Device) : Bool := shareCount .status d != 0

/-- A status write joins the held requests: it replaces one that waits there, since only the latest state needs writing. -/
def holdStatus (rec : StatusRec) (forLong : Bool) : List HeldReq → List HeldReq
  | [] => [.status rec forLong]
  | .status _ f :: l => .status rec (f || forLong) :: l
  | h :: l => h :: holdStatus rec forLong l

/-- A status write is requested, or held back behind the share (R152, R187). -/
def requestStatus (nv : NvStore) (rec : StatusRec) (forLong : Bool) (d : Device) : Device :=
  if statusBusy d then { d with mst := { d.mst with held := holdStatus rec forLong d.mst.held } }
  else request ⟨.status forLong, statusWrite nv rec⟩ d

/-- The status record of the live state. -/
def liveStatus (d : Device) : StatusRec := ⟨d.mst.state, d.mst.due, d.mst.counter⟩

/-! ### Audit appends (R180, R181) -/

/-- An append is refused because the numbers are exhausted; the first time, an otherwise CALIBRATED part becomes SUSPECT
(DEDUCED, log entry 17; unsafe in that corner). The first is the first since the reset (DESIGN CHOICE, log entry 52; unsafe). -/
def appendRefused (nv : NvStore) (d : Device) : Device :=
  if d.auu.refused then d
  else
    let st := if d.mst.state = .calibrated then .suspect else d.mst.state
    let d1 := raise .met { d with auu := { d.auu with refused := true }, mst := { d.mst with state := st } }
    if st = .suspect then requestStatus nv (liveStatus d1) false d1 else d1

/-- An append is requested under its source's share: it takes the next number and the slot at the write position, or is refused
when the numbers are exhausted. -/
def append (nv : NvStore) (src : Requester) (body : AuditBody) (counter : Option Nat) (d : Device) : Device :=
  match d.auu.next with
  | none => appendRefused nv d
  | some n =>
    request ⟨src, .audit d.auu.writePos ⟨n, body, d.nvc.clock, counter⟩⟩
      { d with auu := { d.auu with writePos := nextPlace Config.auditSlots d.auu.writePos,
                                   next := if n ≥ Config.ticketCap then none else some (n + 1) } }

/-- The audit of a discard is requested, or owed while the status share has a write outstanding (R167). -/
def requestDiscard (nv : NvStore) (d : Device) : Device :=
  if statusBusy d then { d with mst := { d.mst with held := d.mst.held ++ [.discard] } }
  else append nv .discard .calDiscard (some d.mst.counter) d

def submitHeld (nv : NvStore) (d : Device) : HeldReq → Device
  | .status rec f => requestStatus nv rec f d
  | .discard => requestDiscard nv d

/-- A write of the share is reported: the held requests go on in the order they arose (R187). -/
def releaseHeld (nv : NvStore) (d : Device) : Device :=
  d.mst.held.foldl (submitHeld nv) { d with mst := { d.mst with held := [] } }

/-- A discard audit is owed (R155, R167). -/
def discardOwed (d : Device) : Bool := d.mst.held.any fun h => match h with
  | .discard => true
  | _ => false

/-! ### Dispatch of a command (R200 to R202) -/

/-- A command of a tag reaches the Executive: refused BSY before READY, and a long one while the slot holds a tag; then its
owner acts. Nothing is taken while the UART is off (DEDUCED, log entry 4; safe: log entries 2 and 4). -/
def command (t : Tag) (body : NvStore → Device → Device) (nv : NvStore) (d : Device) : Device :=
  if uartOn d then
    if d.ntc.readySent then
      if isLongTag t && d.exe.slot.isSome then refuse t .bsy d else body nv d
    else refuse t .bsy d
  else d

/-- The first refusal whose check fails, in order. -/
def firstCode : List (Bool × Code) → Option Code
  | [] => none
  | (ok, c) :: l => if ok then firstCode l else some c

/-- Checks in order; the first that fails refuses the command, else it goes on. -/
def guarded (t : Tag) (checks : List (Bool × Code)) (go : Device → Device) (d : Device) : Device :=
  match firstCode checks with
  | some c => refuse t c d
  | none => go d

/-! ### The lights (R82, R83, R85) -/

/-- The AUTO condition of the entry light. -/
def entryAuto (d : Device) : Bool :=
  d.lsv.lane == .clear && d.zsu.set && calibratedOrSuspect d && !runOpen d

/-- The AUTO condition of the exit light. -/
def exitAuto (d : Device) : Bool :=
  (d.lsv.lane == .onDeck || d.lsv.lane == .leaving) &&
    (match d.lsv.current with
    | some p => !p.ring.isEmpty
    | none => false)

def lightOut (mode : LightMode) (auto : Bool) : Bool :=
  match mode with
  | .auto => auto
  | .forceRed => false
  | .forceGreen => true

/-- Both outputs follow their modes and conditions; RED in reset and during the scan. -/
def refreshLights (d : Device) : Device :=
  if running d then
    { d with lsv := { d.lsv with greenIn := lightOut d.lsv.modeIn (entryAuto d), greenOut := lightOut d.lsv.modeOut (exitAuto d) } }
  else { d with lsv := { d.lsv with greenIn := false, greenOut := false } }

/-! ### How a meaning acts -/

/-- A command that reads the store and changes the part: the lights are evaluated again at its end. -/
def State.act (s : State) (f : NvStore → Device → Device) : Host.Outcome State Fault Refusal :=
  .next { s with dev := refreshLights (f s.nv s.dev) }

/-- A command that changes the store as well. -/
def State.actNv (s : State) (f : NvStore → Device → NvStore × Device) : Host.Outcome State Fault Refusal :=
  .next { s with nv := (f s.nv s.dev).1, dev := refreshLights (f s.nv s.dev).2 }

end Sys2Proof.Machine
end

