-- ==== Sys2Proof/Machine/Axle.lean ====
section
/-! DEFINITION. The Axle Unit (05_axle_checks.md): axles, intervals, the solve, groups and the axle check result. The functions act
on the AXU's state and the passage record together. -/

namespace Sys2Proof.Machine

/-- The AXU's state and the passage it fills. -/
structure Build where
  ax : Axu
  p : Passage

/-- The AXU starts afresh at a passage's opening (R86): B1 copied only when module 1 exists. -/
def axuStart (b1 : Option Int) (module1 : Bool) (d : Option Nat) : Axu :=
  ⟨false, [], [], if module1 then b1 else none, d, 0, 0, 0, 0, []⟩

/-! ### Intervals (R93 to R96) -/

/-- The open interval's place: the newest interval, while it has no end. -/
def openInterval (p : Passage) : Option Interval :=
  match p.intervals.getLast? with
  | some iv => if iv.stop.isNone then some iv else none
  | none => none

/-- The open interval, if any, ends at a time. -/
def endInterval (t : Nat) (p : Passage) : Passage :=
  { p with intervals := p.intervals.map fun iv => if iv.stop.isNone then { iv with stop := some t } else iv }

/-- A new interval opens with the axle set as it stands, unless it would be the 41st (R93) (DESIGN CHOICE, log entry 44; unsafe: its
usable count reads 0 until it is fixed, since R95 forms it only then). -/
def newInterval (t : Nat) (set : List Nat) (p : Passage) : Passage :=
  if p.intervals.length ≥ Config.intervalCap then { p with flags := { p.flags with intervalsFull := true } }
  else
    { p with intervals := p.intervals ++
        [⟨p.intervals.length + 1, set, t, none, none, none, 0, 0, .pending, none, .none⟩] }

/-- An occupancy change in BUILDING (R93). -/
def occupancyChange (t : Nat) (b : Build) : Build :=
  ⟨b.ax, newInterval t b.ax.onModule (endInterval t b.p)⟩

/-- The samples of an interval: latch instants at or after its start and before its end (R94). -/
def samplesOf (ax : Axu) (iv : Interval) : List IvSample :=
  ax.samples.filter fun s => iv.start ≤ s.latch && (match iv.stop with
    | some e => s.latch < e
    | none => true)

/-- The usable samples: the first g and the last g set aside (R95). -/
def usableSamples (g : Nat) (ss : List IvSample) : List IvSample := (ss.drop g).take (ss.length - 2 * g)

/-- A usable sample that spoils its interval: a line-1 slot not LIVE, or a load INVALID or CLAMPED (R95). -/
def spoils (s : IvSample) : Bool := !s.allLive || s.load.isNone || s.clamped

/-- Usability in the order of R95. -/
def judgeUsability (baseline : Option Int) (g nmin : Nat) (ss : List IvSample) : Usability :=
  if baseline.isNone then .absent
  else if ss.length - 2 * g < nmin then .short
  else if (usableSamples g ss).any spoils then .slot
  else .usable

/-- The mean M of a USABLE interval: round(S / n - B1) (R96). -/
def intervalMean (b1 : Int) (us : List IvSample) : Int :=
  roundDiv (sumInt (us.map fun s => s.load.getD 0) - us.length * b1) us.length

/-- The samples placed in an interval so far: the first, the last and their count (R94). -/
def placeSamples (ss : List IvSample) (iv : Interval) : Interval :=
  { iv with first := ss.head?.map (·.index), last := ss.getLast?.map (·.index), count := ss.length }

/-- An interval is fixed: its counts, usability and mean (R94 to R96). -/
def fixInterval (g nmin : Nat) (ax : Axu) (iv : Interval) : Interval :=
  let ss := samplesOf ax iv
  let u := judgeUsability ax.baseline g nmin ss
  { placeSamples ss iv with
    usable := ss.length - 2 * g
    usability := u
    mean := match u, ax.baseline with
      | .usable, some b1 => some (intervalMean b1 (usableSamples g ss))
      | _, _ => none }

/-- An ended interval is complete once a weight record at or after its end has been taken (R94) (DESIGN CHOICE, log entry 43; unsafe: R94
says so of an end by an occupancy change; the model takes it of the hit that begins COUNTING as well). -/
def isComplete (ax : Axu) (iv : Interval) : Bool :=
  match iv.stop with
  | some e => ax.samples.any fun s => e ≤ s.latch
  | none => false

/-- Every complete interval not yet fixed is fixed with the g and Nmin in force; one not complete holds the samples placed so far. -/
def fixComplete (g nmin : Nat) (b : Build) : Build :=
  ⟨b.ax, { b.p with intervals := b.p.intervals.map fun iv =>
    if iv.usability == .pending then
      (if isComplete b.ax iv then fixInterval g nmin b.ax iv else placeSamples (samplesOf b.ax iv) iv)
    else iv }⟩

/-- At the close every interval not yet fixed is fixed with the records taken by then (R94). -/
def fixAll (g nmin : Nat) (b : Build) : Build :=
  ⟨b.ax, { b.p with intervals := b.p.intervals.map fun iv =>
    if iv.usability == .pending then fixInterval g nmin b.ax iv else iv }⟩

/-! ### Strip hits (R87 to R92) -/

/-- R87. -/
def axuHitA (t : Nat) (b : Build) : Build :=
  let ax := { b.ax with hitsA := b.ax.hitsA + 1 }
  if ax.counting then ⟨ax, b.p⟩
  else if ax.pendingA.length ≥ Config.pendingACap then
    ⟨{ ax with pendingA := ax.pendingA.drop 1 ++ [t] }, { b.p with flags := { b.p.flags with order := true } }⟩
  else ⟨{ ax with pendingA := ax.pendingA ++ [t] }, b.p⟩

/-- The speed D_AB / (tB - tA); UNKNOWN at 0 ms and beyond 20,000 ms (R88). -/
def axleSpeed (dab tA tB : Nat) : Option Speed :=
  if tB - tA = 0 ∨ tB - tA > 20000 then none else some ⟨dab, tB - tA⟩

/-- round(mean of the two speeds × Δ), UNKNOWN with a speed UNKNOWN or Δ beyond 10,000 ms (R92). -/
def axleSpacing (v1 v2 : Option Speed) (delta : Nat) : Spacing :=
  match v1, v2 with
  | some a, some b =>
    if delta > 10000 then .unknown
    else .cm (roundDiv ((a.cm * b.ms + b.cm * a.ms) * delta) (2 * a.ms * b.ms))
  | _, _ => .unknown

/-- The two speeds differ by more than 25% of the larger (R92). -/
def speedsUneven (v1 v2 : Option Speed) : Bool :=
  match v1, v2 with
  | some a, some b =>
    let x := a.cm * b.ms
    let y := b.cm * a.ms
    (max x y - min x y) * 4 > max x y
  | _, _ => false

/-- A paired strip B hit while the list has room (R88, R92). -/
def enterAxle (dab tA tB : Nat) (b : Build) : Build :=
  let speed := axleSpeed dab tA tB
  let n := b.p.axles.length + 1
  let (spacing, uneven) := match b.p.axles.getLast? with
    | none => (Spacing.first, false)
    | some prev => (axleSpacing prev.speed speed (tB - prev.tB), speedsUneven prev.speed speed)
  let p := { b.p with
    axles := b.p.axles ++ [⟨n, tA, tB, speed, spacing, none, .unset⟩]
    flags := { b.p.flags with uneven := b.p.flags.uneven || uneven } }
  occupancyChange tB ⟨{ b.ax with onModule := b.ax.onModule ++ [n] }, p⟩

/-- R88 to R90 (DESIGN CHOICE, log entry 39; unsafe: in COUNTING a hit raises the strip B count and not the count of axles, since
R89 has it counted only; table 5.1 and R97 can be read to count it as an axle not entered). -/
def axuHitB (dab t : Nat) (b : Build) : Build :=
  if b.ax.counting then ⟨{ b.ax with hitsB := b.ax.hitsB + 1 }, b.p⟩
  else
    let ax := { b.ax with hitsB := b.ax.hitsB + 1, axles := b.ax.axles + 1 }
    let p := { b.p with counted := b.ax.axles + 1 }
    match ax.pendingA with
    | [] =>
      ⟨{ ax with counting := true }, endInterval t { p with flags := { p.flags with reversed := true } }⟩
    | tA :: rest =>
      if p.axles.length ≥ Config.axleCap then
        ⟨{ ax with pendingA := rest, counting := true },
          endInterval t { p with flags := { p.flags with axlesFull := true } }⟩
      else enterAxle dab tA t ⟨{ ax with pendingA := rest }, p⟩

/-- R91. -/
def axuHitC (t : Nat) (b : Build) : Build :=
  let ax := { b.ax with hitsC := b.ax.hitsC + 1 }
  if ax.counting then ⟨ax, b.p⟩
  else match ax.onModule with
    | [] => ⟨ax, { b.p with flags := { b.p.flags with order := true } }⟩
    | n :: rest =>
      occupancyChange t ⟨{ ax with onModule := rest },
        { b.p with axles := b.p.axles.map fun a => if a.number = n then { a with tC := some t } else a }⟩

/-- A strip hit handed to the AXU for the current passage, in the order of acceptance. -/
def axuHit (s : Settings) (strip : Strip) (t : Nat) (b : Build) : Build :=
  fixComplete s.grd s.nmin (match strip with
    | .a => axuHitA t b
    | .b => axuHitB s.dab t b
    | .c => axuHitC t b)

/-- A weight record taken for the current passage (R94). -/
def axuSample (s : Settings) (x : IvSample) (b : Build) : Build :=
  fixComplete s.grd s.nmin ⟨{ b.ax with samples := b.ax.samples ++ [x] }, b.p⟩

/-! ### The solve (R97 to R100) -/

/-- The load of a solved axle. -/
def solvedLoad (axles : List Axle) (n : Nat) : Option Int :=
  match axles.find? fun a => a.number == n with
  | some a => match a.load with
    | .fine w => some w
    | _ => none
  | none => none

def unsolvedOf (axles : List Axle) (set : List Nat) : List Nat := set.filter fun n => (solvedLoad axles n).isNone

def solvedSum (axles : List Axle) (set : List Nat) : Int := sumInt (set.filterMap (solvedLoad axles))

def setLoad (axles : List Axle) (n : Nat) (l : AxleLoad) : List Axle :=
  axles.map fun a => if a.number = n then { a with load := l } else a

/-- One substitution pass: intervals done so far (newest first), axles, and whether an axle was solved (R98). -/
def solvePass (axles : List Axle) (done : List Interval) (progress : Bool) :
    List Interval → List Axle × List Interval × Bool
  | [] => (axles, done.reverse, progress)
  | iv :: rest =>
    match iv.mean, unsolvedOf axles iv.axles with
    | some m, [n] =>
      let w := m - solvedSum axles iv.axles
      solvePass (setLoad axles n (.fine w)) ({ iv with outcome := .solves n } :: done) true rest
    | _, _ => solvePass axles (iv :: done) progress rest

/-- Passes until one solves nothing; at most 16 axles can be solved. -/
def solvePasses : Nat → List Axle → List Interval → List Axle × List Interval
  | 0, axles, ivs => (axles, ivs)
  | f + 1, axles, ivs =>
    match solvePass axles [] false ivs with
    | (axles', ivs', true) => solvePasses f axles' ivs'
    | (axles', ivs', false) => (axles', ivs')

/-- |residual| beyond the larger of 1% of |M| and 2 d_fine (R99). -/
def residualFails (d : Nat) (m residual : Int) : Bool := 100 * absInt residual > max (absInt m) (20000 * (d : Int))

/-- The outcome of an interval once the passes have ended (R99, R100). -/
def judgeInterval (d : Nat) (axles : List Axle) (iv : Interval) : Interval :=
  match iv.usability, iv.mean with
  | .usable, some m =>
    match iv.outcome with
    | .solves _ => iv
    | _ =>
      if (unsolvedOf axles iv.axles).isEmpty then
        let r := m - solvedSum axles iv.axles
        { iv with outcome := if residualFails d m r then .checkFail r else .checkOk r }
      else { iv with outcome := .open }
  | _, _ => { iv with outcome := .unused }

def isCheckFail (iv : Interval) : Bool :=
  match iv.outcome with
  | .checkFail _ => true
  | _ => false

/-- Axles still unsolved are UNRESOLVED (R100). -/
def markUnresolved (axles : List Axle) : List Axle :=
  axles.map fun a => match a.load with
    | .fine _ => a
    | _ => { a with load := .unresolved }

/-! ### Groups (R101 to R103) -/

/-- Does an axle join the group of the axle before it (R101)? -/
def joins (gsp : Nat) (a : Axle) : Bool :=
  match a.spacing with
  | .cm n => n ≤ gsp
  | _ => false

/-- The axle numbers of each group, in order; at most 8 groups, and whether a ninth would have started. -/
def formGroups (gsp : Nat) : List Axle → List (List Nat) → List (List Nat) × Bool
  | [], acc => (acc, false)
  | a :: rest, acc =>
    match acc.getLast? with
    | some g =>
      if joins gsp a then formGroups gsp rest (acc.dropLast ++ [g ++ [a.number]])
      else if acc.length ≥ Config.groupCap then (acc, true)
      else formGroups gsp rest (acc ++ [[a.number]])
    | none => formGroups gsp rest [[a.number]]

def groupKind (first : Bool) (n : Nat) : GroupKind :=
  if n = 1 then (if first then .steer else .single)
  else if n = 2 then .tandem
  else if n = 3 then .triaxle
  else .multi

def groupLimit (s : Settings) : GroupKind → Nat
  | .steer => s.lstr
  | .single => s.lsgl
  | .tandem => s.ltan
  | .triaxle => s.ltri
  | .multi => s.lmul

/-- d × round(fine / d_fine) kg (R102, R104). -/
def roundToDivision (d : Nat) (fine : Int) : Int := (d : Int) * roundDiv fine (100 * d)

/-- The fine sum of a group (R102, steps 2 and 3). -/
def groupFine (axles : List Axle) (ivs : List Interval) (g : List Nat) : Option Int :=
  let open' := unsolvedOf axles g
  if open'.isEmpty then some (solvedSum axles g)
  else if open'.length ≥ 2 then
    match ivs.find? fun iv => iv.outcome == .open && unsolvedOf axles iv.axles == open' with
    | some iv => iv.mean.map fun m => m - solvedSum axles iv.axles + solvedSum axles g
    | none => none
  else none

/-- Verdict and excess of a group (R103). -/
def groupVerdict (load : GroupLoad) (limit : Nat) : Verdict × Option Int :=
  match load with
  | .absent => (.absent, none)
  | .unresolved => (.unresolved, none)
  | .kg w => if limit = 0 then (.unchecked, none) else if w > limit then (.over, some (w - limit)) else (.ok, none)

/-- A group with its load found and judged; `absent` when every load of the passage is ABSENT. -/
def makeGroup (s : Settings) (d : Nat) (absent : Bool) (axles : List Axle) (ivs : List Interval) (n : Nat)
    (g : List Nat) : Group :=
  let kind := groupKind (n == 1) g.length
  let load : GroupLoad :=
    if absent then .absent
    else match groupFine axles ivs g with
      | some f => .kg (roundToDivision d f)
      | none => .unresolved
  let v := groupVerdict load (groupLimit s kind)
  ⟨n, kind, g, load, groupLimit s kind, v.2, v.1⟩

def makeGroups (s : Settings) (d : Nat) (absent : Bool) (axles : List Axle) (ivs : List Interval) :
    Nat → List (List Nat) → List Group
  | _, [] => []
  | n, g :: rest => makeGroup s d absent axles ivs n g :: makeGroups s d absent axles ivs (n + 1) rest

/-! ### The result (R104 to R106) -/

def isSolved (a : Axle) : Bool :=
  match a.load with
  | .fine _ => true
  | _ => false

/-- The axle gross in fine units, absent when no axle is solved (R104). -/
def axleGrossOf (axles : List Axle) : Option Int :=
  if axles.any isSolved then some (solvedSum axles (axles.map (·.number))) else none

/-- The passage is gross-over (R104). -/
def grossOver (s : Settings) (d : Nat) (gross : Option Int) : Bool :=
  match gross with
  | some g => s.lgrs != 0 && roundToDivision d g > s.lgrs
  | none => false

/-- The axle check result, first condition that holds (R105). -/
def judgeResult (s : Settings) (d : Nat) (p : Passage) : AxleResult :=
  if p.flags.reversed then .void
  else if p.axles.isEmpty || p.axles.all (fun a => a.load == .absent) then .absent
  else if p.groups.any (fun g => g.verdict == .over) || grossOver s d p.axleGross then .over
  else if p.groups.any (fun g => g.verdict == .unresolved) || p.flags.axlesFull || p.flags.intervalsFull ||
      p.flags.groupsFull || (s.lgrs != 0 && p.axles.any (fun a => a.load == .unresolved)) then .incomplete
  else .pass

/-- |weighing - axle gross| beyond the larger of 3% of the weighing and 5 d, in fine units (R106). -/
def grossDiffers (d : Nat) (w gross : Int) : Bool :=
  absInt (100 * w - gross) > max (3 * w) (500 * (d : Int))

/-- The comparison of R106 sets AXLE-GROSS. -/
def axleGrossFlag (d : Nat) (result : AxleResult) (p : Passage) : Bool :=
  match p.ring.getLast?, p.axleGross with
  | some w, some g =>
    result != .void && result != .absent && p.axles.all isSolved && !p.flags.axlesFull && grossDiffers d w.weight g
  | _, _ => false

/-- Loads and interval outcomes of the solve (R97 to R100), with INCONSISTENT set by a failing check. -/
def solveLoads (d : Nat) (p : Passage) : Passage :=
  if p.flags.reversed then p
  else if p.axles.isEmpty || p.intervals.all (fun iv => iv.usability == .absent) then
    { p with
      axles := p.axles.map fun a => { a with load := .absent }
      intervals := p.intervals.map fun iv => { iv with outcome := .unused } }
  else
    let r := solvePasses (Config.axleCap + 1) p.axles p.intervals
    let ivs := r.2.map (judgeInterval d r.1)
    { p with
      axles := markUnresolved r.1
      intervals := ivs
      flags := { p.flags with inconsistent := p.flags.inconsistent || ivs.any isCheckFail } }

/-- Groups and axle gross after the loads (R101 to R104); none for a REVERSED passage. -/
def solveGroups (s : Settings) (d : Nat) (p : Passage) : Passage :=
  if p.flags.reversed then p
  else
    let fg := formGroups s.gsp p.axles []
    let absent := p.axles.all fun a => a.load == .absent
    { p with
      groups := makeGroups s d absent p.axles p.intervals 1 fg.1
      axleGross := axleGrossOf p.axles
      flags := { p.flags with groupsFull := p.flags.groupsFull || fg.2 } }

/-- The result and the AXLE-GROSS comparison (R105, R106). -/
def solveResult (s : Settings) (d : Nat) (p : Passage) : Passage :=
  let result := judgeResult s d p
  { p with
    result := some result
    flags := { p.flags with axleGross := p.flags.axleGross || axleGrossFlag d result p } }

/-- The AXU ends a passage at its close instant and solves it (R76 step 1, R97). -/
def axuSolve (s : Settings) (t : Nat) (b : Build) : Passage :=
  let b := fixAll s.grd s.nmin ⟨b.ax, endInterval t b.p⟩
  let d := b.ax.division.getD 1
  let order := !(b.ax.hitsA == b.ax.hitsB && b.ax.hitsB == b.ax.hitsC)
  let p := { b.p with flags := { b.p.flags with order := b.p.flags.order || order } }
  solveResult s d (solveGroups s d (solveLoads d p))

/-- The axle summary of a closed passage (R107). -/
def passageSummary (p : Passage) : Summary := ⟨p.groups.map Group.entry, p.result.getD .absent, p.flags⟩

end Sys2Proof.Machine
end

