-- ==== Sys2Proof/Machine/Flags.lean ====
section
/-! DEFINITION. Marks and flags computed from data: the frame check and status flags (R7, R8), the weight state and ZERO-CENTRE
(R38, R39), the ticket flags (R136, R137). -/

namespace Sys2Proof.Machine

/-! ### Frames (R6 to R8) -/

/-- The reference lies from 38.4 to 57.6 part ticks inclusive; lengths are in 1/64 part ticks (R6). -/
def refOk (ref : Nat) : Bool := 12288 ≤ 5 * ref && 5 * ref ≤ 18432

/-- The value of a symbol of length t: with r = 48 t / R and n the nearest integer, good when |r - n| ≤ 0.25 and n is 10 to 25
(R7). -/
def symbolValue (ref t : Nat) : Option Nat :=
  let n := (96 * t + ref) / (2 * ref)
  let off := max (48 * t) (n * ref) - min (48 * t) (n * ref)
  if 4 * off ≤ ref ∧ 10 ≤ n ∧ n ≤ 25 then some (n - 10) else none

/-- The values of the symbols, none when one is bad. -/
def symbolValues (ref : Nat) : List Nat → Option (List Nat)
  | [] => some []
  | t :: ts =>
    match symbolValue ref t, symbolValues ref ts with
    | some v, some vs => some (v :: vs)
    | _, _ => none

/-- The edges so far make the frame BAD: reference out of range, or a symbol that fails its test (R6, R7). -/
def edgesBad (ref : Nat) (syms : List Nat) : Bool := !refOk ref || (symbolValues ref syms).isNone

/-- The fields a valid frame carries (R8). -/
structure Frame where
  count : Nat
  sideStart : Bool
  sideData : Bool
  raw : Int
  flags : StatusFlags
  deriving DecidableEq, Repr

/-- The check of a frame (R8). -/
def frameCheck (v1 v2 v3 v4 v5 v6 v7 : Nat) : Nat := (v1 + 2 * v2 + 3 * v3 + 4 * v4 + 5 * v5 + 6 * v6 + 7 * v7) % 16

/-- The raw count of five symbols: U, less 1,048,576 above 524,287 (R8). -/
def rawOfSymbols (v2 v3 v4 v5 v6 : Nat) : Int :=
  let u := v2 * 65536 + v3 * 4096 + v4 * 256 + v5 * 16 + v6
  if u ≤ 524287 then (u : Int) else (u : Int) - 1048576

def bitSet (n k : Nat) : Bool := n / k % 2 == 1

/-- A valid frame: reference in range, eight good symbols, a right check (R8). -/
def decodeFrame (ref : Nat) (syms : List Nat) : Option Frame :=
  if refOk ref then
    match symbolValues ref syms with
    | some [v1, v2, v3, v4, v5, v6, v7, v8] =>
      if v8 = frameCheck v1 v2 v3 v4 v5 v6 v7 then
        some ⟨v1 / 4, bitSet v1 2, bitSet v1 1, rawOfSymbols v2 v3 v4 v5 v6,
          ⟨bitSet v7 8, bitSet v7 4, bitSet v7 2, bitSet v7 1⟩⟩
      else none
    | _ => none
  else none

/-- The warm-up marker (R11). -/
def warmUpRaw : Int := -524288

/-- The class of a valid frame: the first test it meets (R10, R11). -/
def classify (last : Option Nat) (f : Frame) : SlotOutcome :=
  if last = some f.count then .stale
  else if f.raw = warmUpRaw then .warmUp
  else if f.flags.err then .cellErr
  else if f.flags.sup then .sup
  else .good

/-- A valid frame's outcome is STALE, WARM-UP, CELL-ERR, SUP or GOOD (R11). -/
def SlotOutcome.isValid : SlotOutcome → Bool
  | .stale | .warmUp | .cellErr | .sup | .good => true
  | _ => false

/-- The misses: SILENT, LATE, BAD, STALE and SUP (R11). -/
def SlotOutcome.isMiss : SlotOutcome → Bool
  | .stale | .sup | .bad | .silent | .late => true
  | _ => false

/-! ### Weight (R37 to R39) -/

/-- OVER above (Max + 9 d) × 100, UNDER below -20 d_fine, in fine units (R38). -/
def weightState (max d : Nat) : Option Int → WeightState
  | none => .invalid
  | some g =>
    if g > ((max + 9 * d) * 100 : Nat) then .over
    else if g < -((2000 * d : Nat) : Int) then .under
    else .normal

/-- W = d × round(G / d_fine) (R37). -/
def weightOf (d : Nat) (g : Int) : Int := roundToDivision d g

/-- ZERO-CENTRE: NORMAL, zero SET, |G| ≤ 25 d fine units (R39). -/
def zeroCentre (d : Nat) (set : Bool) (ws : WeightState) : Option Int → Bool
  | none => false
  | some g => ws == .normal && set && absInt g ≤ ((25 * d : Nat) : Int)

/-! ### Tickets (R136 to R138) -/

/-- Weighing A is the heavier one: the greater weight, or on equal weights the expected one (R136). -/
def heavyIsA (expectA : Bool) (a b : Weighing) : Bool :=
  if a.weight > b.weight then true else if a.weight < b.weight then false else expectA

/-- The heavier weight less the lighter (R136). -/
def netOf (a b : Weighing) : Int := max a.weight b.weight - min a.weight b.weight

/-- Both weighings carry a counter and the counters differ (R137). -/
def calSplit (a b : Weighing) : Bool :=
  match a.counter, b.counter with
  | some x, some y => x != y
  | _, _ => false

/-- The flags a summary, or its want, sets on a record (R137, R138). -/
def summaryFlags (unverified : Bool) (summary : Option Summary) (tailgate : Bool) (f : TicketFlags) : TicketFlags :=
  match summary with
  | some s => { f with
      unverified := unverified
      axleOver := s.result == .over
      axleIncomplete := s.result == .incomplete || s.result == .void
      axleAbsent := s.result == .absent
      tailgate := s.flags.tailgateIn || s.flags.tailgateOut }
  | none => { f with unverified := unverified, axleAbsent := true, tailgate := tailgate }

def TicketFlags.none : TicketFlags := ⟨false, false, false, false, false, false, false, false⟩

/-- The expected heavy weighing of a TICKET (R136). -/
def expectA (dir : Direction) : Bool := dir == .receival

/-- The body of a record when it is made, with its net and flags (R132, R136, R137). -/
def recordBody (unverified : Bool) (x : Draft) : JournalBody :=
  match x.body with
  | .ticket visit ref dir a b =>
    .ticket visit ref dir a b (netOf a b) x.summary
      (summaryFlags unverified x.summary x.tailgate
        { TicketFlags.none with calSplit := calSplit a b, dirMismatch := heavyIsA (expectA dir) a b != expectA dir })
  | .onepass ref a b =>
    .onepass ref a b (netOf a b) x.summary
      (summaryFlags unverified x.summary x.tailgate
        { TicketFlags.none with calSplit := calSplit a b, presetTare := b.source == .keyed, dirMismatch := !heavyIsA true a b })
  | .gross ref a => .gross ref a x.summary (summaryFlags unverified x.summary x.tailgate TicketFlags.none)
  | .void n => .void n
  | .cancel visit ref => .cancel visit ref

end Sys2Proof.Machine
end

