-- ==== Sys2Proof/Machine/Transactions.lean ====
section
/-! DEFINITION. The Transaction Unit's shared operations (06, 07): the visit and tare tables, attachment of axle summaries, the
journal's numbering and writes, the axle wait, and the freeing of a visit. -/

namespace Sys2Proof.Machine

/-! ### Tables (R110 to R112) -/

def visitsOf (d : Device) : List VisitRec := d.txu.visits.map (·.2)
def taresOf (d : Device) : List TareEntry := d.txu.tares.map (·.2)

/-- The table entry of an open visit's number, with its slot. -/
def findVisit (d : Device) (n : Nat) : Option (Nat × VisitRec) := d.txu.visits.find? fun e => e.2.number == n

def findVisitRef (d : Device) (ref : Text) : Option (Nat × VisitRec) := d.txu.visits.find? fun e => e.2.ref == ref

def findTare (d : Device) (ref : Text) : Option (Nat × TareEntry) := d.txu.tares.find? fun e => e.2.ref == ref

/-- A slot whose working image is FREE, and for which no start-up freeing write is held or outstanding (R111, R115). -/
def visitSlotFree (d : Device) (slot : Nat) : Bool :=
  (nvGet d.txu.visits slot).isNone && !visitBusy d slot && !d.txu.freeHeld.any (fun r => r.isVisit && r.slot == slot)

def tareSlotFree (d : Device) (slot : Nat) : Bool :=
  (nvGet d.txu.tares slot).isNone && !tareBusy d slot && !d.txu.freeHeld.any (fun r => !r.isVisit && r.slot == slot)

/-- The first number from `n` on, wrapping at 65,535, that no open visit holds (R112). -/
def freeVisitNumber (d : Device) : Nat → Nat → Nat
  | 0, n => n
  | f + 1, n => if (findVisit d n).isSome then freeVisitNumber d f (nextNumber n) else n

/-! ### Attachment (R116 to R119) -/

/-- The summary an outstanding attachment write of a visit carries (R119). -/
def attachmentInWrite (d : Device) (visit : Nat) : Option Summary :=
  (outstanding d).findSome? fun r => match r.source, r.write with
    | .attach v _, .visit _ _ c => if v = visit then c.content.bind (·.summary) else none
    | _, _ => none

/-- The summary of a closed passage: from the history, or from the copy handed over (R117, R119). -/
def summaryOfPassage (d : Device) (n : Nat) : Option Summary :=
  match d.lsv.history.find? fun p => p.number == n with
  | some p => some (passageSummary p)
  | none => (d.txu.copies.find? fun c => c.1 == n).map (·.2)

inductive Attachment where
  | awaiting | owed | attached | none
  deriving DecidableEq, Repr

/-- The attachment state of an open visit (section 6.2). -/
def attachmentOf (d : Device) (v : VisitRec) : Attachment :=
  if v.summary.isSome then .attached
  else if d.txu.awaiting.any (·.visit == v.number) then .awaiting
  else if d.txu.owed.any (·.visit == v.number) || (attachmentInWrite d v.number).isSome then .owed
  else .none

/-- The summary an open visit gives (R119). -/
def visitSummary (d : Device) (v : VisitRec) : Option Summary :=
  match attachmentOf d v with
  | .attached => v.summary
  | .owed =>
    match d.txu.owed.find? (·.visit == v.number) with
    | some e => summaryOfPassage d e.passage
    | none => attachmentInWrite d v.number
  | _ => none

/-- The attachment-owed marks of the history and the handed-over copies follow the owed list (R78, R117). -/
def syncOwed (d : Device) : Device :=
  let owes (n : Nat) : Bool := d.txu.owed.any (·.passage == n)
  { d with
    lsv := { d.lsv with history := d.lsv.history.map fun p => { p with owedMark := owes p.number } }
    txu := { d.txu with copies := d.txu.copies.filter fun c => owes c.1 } }

/-- Held start-up freeing writes are requested while the share has room, in increasing slot order (R187). -/
def requestFreeing (nv : NvStore) : Nat → Device → Device
  | 0, d => d
  | f + 1, d =>
    match d.txu.freeHeld with
    | [] => d
    | r :: rest =>
      if shareCount .attach d < Config.attachCap then
        let d1 := { d with txu := { d.txu with freeHeld := rest } }
        requestFreeing nv f (if r.isVisit then request ⟨.freeVisit r.slot r.second, visitWrite nv r.slot none⟩ d1
          else request ⟨.freeTare r.slot r.second, tareWrite nv r.slot none⟩ d1)
      else d

/-- An owed entry whose visit is in the table and whose slot has no write outstanding. -/
def eligible (d : Device) (e : AttachEntry) : Bool :=
  match findVisit d e.visit with
  | some (slot, _) => !visitBusy d slot
  | none => false

/-- Attachment writes are requested from the owed list, in list order, while the share has room (R117). -/
def requestOwed (nv : NvStore) : Nat → Device → Device
  | 0, d => d
  | f + 1, d =>
    if shareCount .attach d < Config.attachCap then
      match d.txu.owed.find? (eligible d) with
      | none => d
      | some e =>
        match findVisit d e.visit with
        | none => d
        | some (slot, v) =>
          let s := summaryOfPassage d e.passage
          let d1 := { d with txu := { d.txu with owed := d.txu.owed.filter (· != e) } }
          requestOwed nv f (request ⟨.attach e.visit slot, visitWrite nv slot (some { v with summary := s })⟩ d1)
    else d

/-- The TXU's requests at each event R117 names: start-up freeing first, then attachments; marks and copies follow. -/
def requestAttachments (nv : NvStore) (d : Device) : Device :=
  syncOwed (requestOwed nv Config.attachCap (requestFreeing nv Config.attachCap d))

/-- The owed or awaiting entry of a visit is removed (R115, R121). -/
def dropAttachment (visit : Nat) (d : Device) : Device :=
  syncOwed { d with txu := { d.txu with awaiting := d.txu.awaiting.filter (·.visit != visit),
                                        owed := d.txu.owed.filter (·.visit != visit) } }

/-! ### Journal (R130 to R135) -/

/-- The journal is full (R133), or was left so by a head repair until E moves (R149). -/
def journalFull (nv : NvStore) (d : Device) : Bool :=
  d.txu.fullUntilE ||
    !nv.freeRun d.txu.exportMark ((if d.txu.owedTorn.isSome then 1 else 0) + 2) d.txu.writePos

/-- A journal write is requested at the write position, which moves on when the write has ended (R130, `journalEnded`). -/
def requestJournal (rec : JournalRec) (d : Device) : Device := request ⟨.longOp, .journal d.txu.writePos rec⟩ d

/-- A journal write has ended, passed or failed: the write position is the slot after it (R130). -/
def journalEnded (w : NvWrite) (d : Device) : Device :=
  match w with
  | .journal slot _ => { d with txu := { d.txu with writePos := nextPlace Config.journalSlots slot } }
  | _ => d

/-- A TORN record of a number (R135): time absent while the clock is UNSET, counter absent with no active record (R131). -/
def tornRecord (n : Nat) (d : Device) : JournalRec :=
  JournalRec.make n .torn d.nvc.clock (d.mst.active.map (·.counter))

/-- The command's own record is made and its write requested (R134, R142) (DESIGN CHOICE, log entry 45; unsafe: a clock that became UNSET
since the command was taken leaves the time absent, which R131 has in a TORN record alone). -/
def makeOwn (nv : NvStore) (x : Draft) (d : Device) : Device :=
  let rec' := JournalRec.make (nv.nextTicket d.txu.owedTorn) (recordBody (d.mst.state == .suspect) x) d.nvc.clock
    (d.mst.active.map (·.counter))
  setStage (.record x rec') (requestJournal rec' d)

/-- The record is made, after the owed TORN when one is owed (R135, R142). -/
def makeRecord (nv : NvStore) (x : Draft) (d : Device) : Device :=
  match d.txu.owedTorn with
  | some n => setStage (.owedTorn x) (requestJournal (tornRecord n d) d)
  | none => makeOwn nv x d

/-- TAILGATE as the flags of the current passage stand (R138). -/
def currentTailgate (d : Device) : Bool :=
  match d.lsv.current with
  | some p => p.flags.tailgateIn || p.flags.tailgateOut
  | none => false

/-- The heavy passage's axle wait begins (R141). -/
def beginAxleWait (x : Draft) (passage : Nat) (d : Device) : Device :=
  setStage (.axleWait x passage (d.now + d.nvc.settings.axw * 1000)) d

/-- The axle wait ends without the close, by expiry or ABT: no summary (R141). -/
def endAxleWait (nv : NvStore) (d : Device) : Device :=
  match d.exe.stage with
  | .axleWait x _ _ => makeRecord nv { x with summary := none, tailgate := currentTailgate d } d
  | _ => d

/-- The weighing a stored tare stands for (R132). -/
def tareWeighing (t : TareEntry) : Weighing := ⟨t.tare, t.d, t.counter, t.wtime, none, t.source⟩

/-- The record waits for the current passage when its heavy weighing was captured there, else it is made at once (R140). -/
def issue (nv : NvStore) (x : Draft) (passage : Option Nat) (d : Device) : Device :=
  match passage with
  | some n => beginAxleWait x n d
  | none => makeRecord nv x d

/-- WG2 after its weighing (R138, R140). -/
def issueTicket (nv : NvStore) (v : VisitRec) (w : Weighing) (d : Device) : Device :=
  let body := DraftBody.ticket v.number v.ref v.dir v.first w
  if heavyIsA (expectA v.dir) v.first w then
    if attachmentOf d v = .awaiting then issue nv ⟨body, none, false⟩ v.first.passage d
    else issue nv ⟨body, visitSummary d v, false⟩ none d
  else issue nv ⟨body, none, false⟩ w.passage d

/-- WGS after its weighing (R138, R140): a tare has no passage. -/
def issueOnePass (nv : NvStore) (ref : Text) (t : TareEntry) (w : Weighing) (d : Device) : Device :=
  let b := tareWeighing t
  issue nv ⟨.onepass ref w b, none, false⟩ (if heavyIsA true w b then w.passage else none) d

/-- WGG after its weighing. -/
def issueGross (nv : NvStore) (ref : Text) (w : Weighing) (d : Device) : Device :=
  issue nv ⟨.gross ref w, none, false⟩ w.passage d

/-- The TXU is told that a passage has closed (R116, R141): awaiting entries become owed, in increasing visit number, and a
ticket waiting on the passage is released. -/
def passageClosed (nv : NvStore) (n : Nat) (d : Device) : Device :=
  let moved := sortBy (fun a b => decide (a.visit < b.visit)) (d.txu.awaiting.filter (·.passage == n))
  let d1 := requestAttachments nv
    { d with txu := { d.txu with awaiting := d.txu.awaiting.filter (·.passage != n), owed := d.txu.owed ++ moved } }
  match d1.exe.stage with
  | .axleWait x k _ => if k = n then makeRecord nv { x with summary := summaryOfPassage d1 n } d1 else d1
  | _ => d1

/-! ### Freeing a visit (R121) -/

/-- The freeing write of a visit is requested, or held back behind another write of its slot (R110). -/
def requestFree (nv : NvStore) (x : Draft) (rec : JournalRec) (slot : Nat) (second : Bool) (d : Device) : Device :=
  if visitBusy d slot then setStage (.freeing x rec slot second true) d
  else setStage (.freeing x rec slot second false) (request ⟨.longOp, visitWrite nv slot none⟩ d)

/-- A freeing write held back goes on once its slot has no write outstanding. -/
def releaseFree (nv : NvStore) (d : Device) : Device :=
  match d.exe.stage with
  | .freeing x rec slot second true => requestFree nv x rec slot second d
  | _ => d

/-- The completion of a command that made a record (R142, R143, R120) (DESIGN CHOICE, log entry 36; unsafe: =WGG carries its want of a net
as an absent field). -/
def recordReply (rec : JournalRec) : List Text :=
  match rec.body with
  | .ticket _ ref _ a b net summary flags =>
    [tNat rec.number, rec.body.kindText, ref, tInt a.weight, tInt b.weight, tInt net,
      tOpt AxleResult.text (summary.map (·.result)), flags.text]
  | .onepass ref a b net summary flags =>
    [tNat rec.number, rec.body.kindText, ref, tInt a.weight, tInt b.weight, tInt net,
      tOpt AxleResult.text (summary.map (·.result)), flags.text]
  | .gross ref a summary flags =>
    [tNat rec.number, rec.body.kindText, ref, tInt a.weight, tAbsent, tOpt AxleResult.text (summary.map (·.result)),
      flags.text]
  | .void n => [tNat rec.number, tNat n]
  | .cancel visit _ => [tNat visit, tNat rec.number]
  | .torn => [tNat rec.number]

/-- The visit of a TICKET or CANCEL record is freed once the record is held. -/
def freeVisitOf (nv : NvStore) (x : Draft) (rec : JournalRec) (d : Device) : Device :=
  let go (visit : Nat) : Device :=
    match findVisit d visit with
    | some (slot, _) => requestFree nv x rec slot false (dropAttachment visit d)
    | none => complete (recordReply rec) d
  match rec.body with
  | .ticket visit .. => go visit
  | .cancel visit _ => go visit
  | _ => complete (recordReply rec) d

/-- JRN is raised when the unexported count becomes 3,584 or the journal becomes full (R145), also where it was full before the write
(DESIGN CHOICE, log entry 51; unsafe). -/
def raiseJournal (nv nv' : NvStore) (d : Device) : Device :=
  let e := d.txu.exportMark
  if (nv'.unexported e = Config.jrnLevel ∧ nv.unexported e ≠ Config.jrnLevel) ∨ journalFull nv' d then raise .jrn d else d

/-! ### Results of a capture (R115, R125, R140, R173) -/

/-- WG1 after its weighing: number, record, slot, awaiting entry and write request, in this order; the number stays given when no slot is
free (R112, R115) (DEDUCED, log entry 26; unsafe). With the clock become UNSET the opened time is absent (DESIGN CHOICE, log entry 45;
unsafe). -/
def openVisit (nv : NvStore) (ref : Text) (dir : Direction) (w : Weighing) (d : Device) : Device :=
  let n := freeVisitNumber d (Config.visitSlots + 1) d.txu.nextVisit
  let v : VisitRec := ⟨n, ref, dir, w.time, w, none⟩
  let d1 := { d with txu := { d.txu with nextVisit := nextNumber n } }
  match firstPlace (visitSlotFree d) Config.visitSlots with
  | none => failWith .tbl [] d1
  | some slot =>
    let d2 := { d1 with txu := { d1.txu with awaiting := d.txu.awaiting ++ [⟨n, w.passage.getD 0⟩] } }
    setStage (.wg1Write slot v) (request ⟨.longOp, visitWrite nv slot (some v)⟩ d2)

/-- The slot a tare is written to: the one that holds its reference, else the lowest-numbered FREE slot (R125). -/
def tareSlotFor (d : Device) (ref : Text) : Option Nat :=
  match findTare d ref with
  | some (slot, _) => some slot
  | none => firstPlace (tareSlotFree d) Config.tareSlots

/-- A tare entry's write is requested (R125, R126); with no slot free, though fewer than 64 entries are held, the command ends TBL: TRS
after its weighing, TRK after its acceptance (DEDUCED, log entry 26; unsafe). -/
def storeTare (nv : NvStore) (t : Tag) (e : TareEntry) (d : Device) : Device :=
  match tareSlotFor d e.ref with
  | none => failWith .tbl [] d
  | some slot =>
    setStage (.tareWrite t slot (some e) e.ref (findTare d e.ref).isSome)
      (request ⟨.longOp, tareWrite nv slot (some e)⟩ d)

/-- TRS after its weighing (R125); with the clock become UNSET its stored time is absent (DESIGN CHOICE, log entry 45; unsafe). -/
def storeStaticTare (nv : NvStore) (ref : Text) (days : Nat) (w : Weighing) (d : Device) : Device :=
  if w.weight < 0 then failWith .rng [] d
  else storeTare nv .trs ⟨ref, w.weight, .static, w.d, w.counter, w.time, d.nvc.clock, days⟩ d

/-- The maximum permissible error of a test load (R173). -/
def permissibleError (x d : Nat) : Nat := if x ≤ 500 * d then d else if x ≤ 2000 * d then 2 * d else 3 * d

/-- The point a weighing makes of a test load (R173). -/
def makePoint (x : Nat) (w : Weighing) : Point :=
  let e := w.weight - x
  let mpe := permissibleError x w.d
  ⟨x, w, e, mpe, absInt e ≤ (mpe : Int)⟩

def passText (b : Bool) : Text := if b then tPass else tFail

/-- VPT after its weighing: the point joins the list (R173); W in =VPT is the weight alone (DESIGN CHOICE, log entry 36; unsafe). -/
def addPoint (x : Nat) (w : Weighing) (d : Device) : Device :=
  match d.mst.verif with
  | none => failWith .ses [] d
  | some points =>
    let p := makePoint x w
    complete [tNat (points.length + 1), tNat p.x, tInt w.weight, tInt p.e, tNat p.mpe, passText p.pass]
      { d with mst := { d.mst with verif := some (points ++ [p]) } }

/-- A capture has yielded its weighing, already entered in the ring for a trade capture; the command goes on. -/
def captureYields (nv : NvStore) (cmd : CapCmd) (w : Weighing) (d : Device) : Device :=
  match cmd with
  | .wg1 ref dir => openVisit nv ref dir w d
  | .wg2 visit =>
    match findVisit d visit with
    | some (_, v) => issueTicket nv v w d
    | none => failWith .vnf [] d
  | .wgs ref t => issueOnePass nv ref t w d
  | .wgg ref => issueGross nv ref w d
  | .trs ref days => storeStaticTare nv ref days w d
  | .vpt x => addPoint x w d

end Sys2Proof.Machine
end

