-- ==== Sys2Proof/Machine/LaneOps.lean ====
section
/-! DEFINITION. The Lane Supervisor's shared operations (04): lane changes and the waits they end, passages opened and closed,
timers, occupancy, and what accepted hits and beam changes do to the lane. -/

namespace Sys2Proof.Machine

/-! ### Lane changes -/

/-- A long command waiting on the lane ends LAN when the lane leaves the states its wait allows (R51, R58, R158). -/
def laneWaits (d : Device) : Device :=
  let l := d.lsv.lane
  match d.exe.stage with
  | .zerWait _ => if l = .init ∨ l = .clear then d else failWith .lan [] d
  | .capWait (.vpt _) _ => if l = .clear ∨ l = .onDeck then d else failWith .lan [] d
  | .capWait _ _ => if l = .onDeck then d else failWith .lan [] d
  | .runWait .cze _ _ => if l = .clear ∨ l = .init then d else failWith .lan [] d
  | _ => d

/-- The lane changes state: LNE is raised and waits end (R84). -/
def setLane (l : Lane) (d : Device) : Device :=
  if d.lsv.lane = l then d
  else laneWaits (raise .lne { d with lsv := { d.lsv with lane := l } })

/-! ### Timers (R68, R70) -/

def settleHolds (d : Device) : Bool :=
  d.lsv.lane == .entering && beamsClear d && d.lsv.occupancy == .occupied

def inPassage (l : Lane) : Bool := l == .entering || l == .onDeck || l == .leaving

def clearHolds (d : Device) : Bool :=
  inPassage d.lsv.lane && beamsClear d && d.lsv.occupancy == .empty

/-- A timer keeps running while its condition holds, starts when it comes to hold, and stops when it ceases. -/
def timerNext (holds : Bool) (t : Nat) (cur : Option Nat) : Option Nat := if holds then some (cur.getD t) else none

/-- Both timers follow their conditions at an event's time. -/
def evalTimers (t : Nat) (d : Device) : Device :=
  { d with lsv := { d.lsv with settle := timerNext (settleHolds d) t d.lsv.settle,
                               clear := timerNext (clearHolds d) t d.lsv.clear } }

/-- An accepted hit restarts a running timer, and starts a stopped one whose other conditions hold, from its time. -/
def hitTimers (t : Nat) (d : Device) : Device :=
  { d with lsv := { d.lsv with settle := if settleHolds d then some t else none,
                               clear := if clearHolds d then some t else none } }

/-- On a return to ENTERING the settle timer starts afresh (R69). -/
def stopSettle (d : Device) : Device := { d with lsv := { d.lsv with settle := none } }

/-! ### Passages (R73 to R80) -/

/-- Module 1 exists: line 1 has a configured slot (R32). -/
def moduleExists (d : Device) (m : Ix) : Bool := (SlotId.ofLine m).any (configured d)

/-- A new current passage, and the AXU started for it (R73, R86). -/
def openPassage (cause : OpenCause) (t : Nat) (d : Device) : Device :=
  let div := division d
  let p : Passage := ⟨d.lsv.nextPassage, cause, d.nvc.clock, t, none, none, none,
    { PassFlags.none with tailgateIn := cause == .tailgate }, [], [], [], [], none, none, false, 0, div⟩
  { d with
    lsv := { d.lsv with current := some p, nextPassage := nextNumber d.lsv.nextPassage }
    axu := axuStart d.zsu.b1 (moduleExists d .i0) div }

/-- A closed record goes to the newest place of the history; the oldest of four is removed, handed over first when it carries
the attachment-owed mark (R77, R78). -/
def pushHistory (p : Passage) (d : Device) : Device :=
  let full := d.lsv.history.length ≥ Config.historyCap
  let handed : List (Nat × Summary) :=
    match d.lsv.history with
    | old :: _ => if full ∧ old.owedMark then [(old.number, passageSummary old)] else []
    | [] => []
  { d with
    lsv := { d.lsv with history := (if full then d.lsv.history.drop 1 else d.lsv.history) ++ [p], current := none }
    txu := { d.txu with copies := d.txu.copies ++ handed } }

/-- The current passage closes: solve, history, AXL, TXU, in this order (R76). The lane change that accompanies it follows. -/
def closePassage (nv : NvStore) (cause : CloseCause) (t : Nat) (d : Device) : Device :=
  match d.lsv.current with
  | none => d
  | some p =>
    let p1 := { p with closeCause := some cause, closeTime := d.nvc.clock, closeAt := some t,
                       flags := { p.flags with tailgateOut := p.flags.tailgateOut || cause == .tailgate } }
    let p2 := axuSolve d.nvc.settings t ⟨d.axu, p1⟩
    let d1 := { pushHistory p2 d with axu := Axu.reset }
    passageClosed nv p2.number (raise .axl d1)

/-- A passage opens and the lane goes to ENTERING (R66, R67, R79). -/
def enterPassage (cause : OpenCause) (t : Nat) (d : Device) : Device :=
  setLane .entering (stopSettle (openPassage cause t d))

/-- A tailgate at the time of its strip A hit (R79): the current passage closes and a new one opens; the samples whose latch instants
have reached that time belong to the new passage, though their records were taken before the hit (R94, R108). -/
def tailgate (nv : NvStore) (t : Nat) (d : Device) : Device :=
  let d1 := enterPassage .tailgate t (closePassage nv .tailgate t d)
  { d1 with axu := { d1.axu with samples := d.axu.samples.filter fun s => t ≤ s.latch } }

/-- The lane leaves INIT when zero becomes SET; with the entry beam BLOCKED a passage opens at once (R66) (DESIGN CHOICE, log entry 42;
unsafe: R73 names no open instant for it; the model takes the reading reached). -/
def laneZeroSet (d : Device) : Device :=
  if d.lsv.lane = .init then
    let d1 := setLane .clear d
    if d1.lsv.beamIn.state then evalTimers d1.now (enterPassage .beamIn d1.now d1) else d1
  else d

/-- A weighing of a trade capture enters the current passage's ring, the newest four kept (R60, R74). -/
def pushRing (w : Weighing) (d : Device) : Device :=
  match d.lsv.current with
  | some p => { d with lsv := { d.lsv with current := some { p with ring := pushCapped Config.ringCap p.ring w } } }
  | none => d

/-! ### Events of the lane -/

/-- A hit is handed to the AXU for the current passage (R64). -/
def handHit (strip : Strip) (t : Nat) (d : Device) : Device :=
  match d.lsv.current with
  | some p =>
    let b := axuHit d.nvc.settings strip t ⟨d.axu, p⟩
    { d with axu := b.ax, lsv := { d.lsv with current := some b.p } }
  | none => d

/-- An accepted strip hit acts on the lane and then goes to the AXU (R64, R67 to R71, R79). -/
def laneHit (nv : NvStore) (strip : Strip) (t : Nat) (d : Device) : Device :=
  match d.lsv.lane, strip with
  | .init, _ => d
  | .clear, .a => hitTimers t (handHit .a t (enterPassage .aHit t d))
  | .clear, _ => d
  | .entering, s => hitTimers t (handHit s t d)
  | .onDeck, .a => hitTimers t (handHit .a t d)
  | .onDeck, s => hitTimers t (handHit s t (setLane .entering (stopSettle d)))
  | .leaving, .a => hitTimers t (handHit .a t (tailgate nv t d))
  | .leaving, s => hitTimers t (handHit s t d)

/-- A beam becoming BLOCKED ends a static capture BEM (R58). -/
def beamEndsCapture (d : Device) : Device :=
  match d.exe.stage with
  | .capWait _ _ => failWith .bem [] d
  | _ => d

/-- What a beam change does to the lane, at its time; the debounced state is already the new one (R67 to R71). -/
def laneBeam (beam : Beam) (blocked : Bool) (t : Nat) (d : Device) : Device :=
  if blocked then
    let d1 := beamEndsCapture d
    match d1.lsv.lane, beam with
    | .clear, .entry => evalTimers t (enterPassage .beamIn t d1)
    | .onDeck, .entry => evalTimers t (setLane .entering (stopSettle d1))
    | .entering, .exit => evalTimers t (setLane .leaving d1)
    | .onDeck, .exit => evalTimers t (setLane .leaving d1)
    | _, _ => evalTimers t d1
  else evalTimers t d

/-- Occupancy of a weight record against the threshold setting (R65). -/
def judgeOccupancy (threshold d : Nat) : Option Int → Occupancy
  | none => .unknown
  | some g => if g ≥ ((threshold * (100 * d) : Nat) : Int) then .occupied else .empty

/-- The LSV takes a weight record: it holds the occupancy, and, unless the lane was INIT when the record reached the part, acts on
it (R65 to R70) (DEDUCED, log entry 11; unsafe). A timer whose condition it makes hold starts at the reading reached (DESIGN CHOICE, log
entry 46; unsafe). -/
def laneRecord (wasInit : Bool) (wr : WeightRecord) (d : Device) : Device :=
  let occ := judgeOccupancy d.nvc.settings.occ ((division d).getD 1) wr.g
  let d1 := { d with lsv := { d.lsv with occupancy := occ } }
  if wasInit then d1
  else if d1.lsv.lane = .clear ∧ occ = .occupied then evalTimers d1.now (enterPassage .load wr.latch d1)
  else evalTimers d1.now d1

/-- The settle timer expires: ON_DECK (R68). -/
def settleExpires (d : Device) : Device := stopSettle (setLane .onDeck d)

/-- The clear timer expires at a time: the passage closes and the lane is CLEAR (R70). -/
def clearExpires (nv : NvStore) (t : Nat) (d : Device) : Device :=
  let d1 := closePassage nv .clear t d
  setLane .clear { d1 with lsv := { d1.lsv with settle := none, clear := none } }

/-- The moments at which the running timers expire under the settings in force. -/
def settleDue (d : Device) : Option Nat := d.lsv.settle.map fun t => t + d.nvc.settings.setl * 100
def clearDue (d : Device) : Option Nat := d.lsv.clear.map fun t => t + d.nvc.settings.clrt * 1000

/-- The close instant of a passage that the report of a write closes, by a commit or by new settings that end the clear timer: the
present, and past the latch of every weight record taken, so that its interval holds them (R72, R80, R94) (DEDUCED, log entry 41;
unsafe: a report carries no time of its own). -/
def reportInstant (d : Device) : Nat :=
  match d.csu.newest with
  | some wr => max d.now (wr.latch + 1)
  | none => d.now

/-- A commit, or a calibration write that failed: the current passage closes COMMIT, the lane goes to INIT, the timers stop
(R80, R166). -/
def laneCommit (nv : NvStore) (d : Device) : Device :=
  let d1 := closePassage nv .commit (reportInstant d) d
  setLane .init { d1 with lsv := { d1.lsv with settle := none, clear := none } }

/-- New settings in force: a running timer that has already run its new length expires at that moment (R72). -/
def timersUnderNewSettings (nv : NvStore) (d : Device) : Device :=
  let d1 := match settleDue d with
    | some due => if d.lsv.lane = .entering ∧ due ≤ d.now then evalTimers d.now (settleExpires d) else d
    | none => d
  match clearDue d1 with
  | some due => if inPassage d1.lsv.lane ∧ due ≤ d1.now then clearExpires nv (reportInstant d1) d1 else d1
  | none => d1

end Sys2Proof.Machine
end

