-- ==== Sys2Proof/Machine/ZeroOps.lean ====
section
/-! DEFINITION. The Zero and Stability Unit's shared operations (03): the window, the stability judgement, zero-sets, tracking, the
baseline, and the end of ZER and capture waits at a weight record. -/

namespace Sys2Proof.Machine

/-- K: the stability window divided by P, rounded down, at least 2 (R45). -/
def windowLength (r : CalRecord) : Nat := max 2 (r.window / r.p)

/-- A sample qualifies when its total is valid and neither CLAMPED nor CELL-HELD (R45). -/
def qualifies (wr : WeightRecord) : Bool := wr.total.isSome && !wr.clamped && !wr.held

/-- The window after a weight record (R45). -/
def windowAfter (k : Nat) (wr : WeightRecord) (w : List WinEntry) : List WinEntry :=
  match wr.f with
  | some f =>
    if qualifies wr then pushCapped k w ⟨f, ((wr.modules.get .i0).map (·.load)).getD none⟩ else []
  | none => []

/-- STABLE: K entries and a spread of F of at most band × d_fine / 2 (R46). -/
def isStable (r : CalRecord) (w : List WinEntry) : Bool :=
  w.length == windowLength r &&
    (match spread (w.map (·.f)) with
    | some s => 2 * s ≤ ((r.band * (100 * r.d) : Nat) : Int)
    | none => false)

/-- |F - ref| ≤ limit. -/
def within (f ref : Int) (limit : Nat) : Bool := absInt (f - ref) ≤ (limit : Int)

/-- A zero-set in INIT: Z_init and Z become F, zero SET, TRACK-LIMIT cleared (R49). -/
def setInitialZero (f : Int) (d : Device) : Device :=
  { d with zsu := { d.zsu with set := true, z := some f, zInit := some f, trackLimit := false } }

/-- A zero-set in CLEAR: Z becomes F, TRACK-LIMIT cleared (R52). -/
def setOperatingZero (f : Int) (d : Device) : Device := { d with zsu := { d.zsu with z := some f, trackLimit := false } }

/-- The reply of a completing ZER: zero state and the amount by which Z moved (R52). -/
def zerFields (old new : Int) : List Text := [tSetWord, tHundredths (new - old)]

/-- The tracking step round(d_fine × P / 2000) (R53). -/
def trackStep (r : CalRecord) : Int := roundDiv ((100 * r.d * r.p : Nat) : Int) 2000

/-- Z after a step toward F, stopped at the edges of the operating range, and whether an edge stopped it (R53, R54). -/
def trackedZ (step z f zInit : Int) (span : Nat) : Int × Bool :=
  let z' := if f > z then z + min step (f - z) else z - min step (z - f)
  let lo := zInit - (span : Int)
  let hi := zInit + (span : Int)
  if z' > hi then (hi, true) else if z' < lo then (lo, true) else (z', false)

/-- A tracking step at a STABLE sample with the lane CLEAR, zero SET, |G| within half a division and no run open (R53). -/
def track (r : CalRecord) (f : Int) (g : Option Int) (d : Device) : Device :=
  match d.zsu.z, d.zsu.zInit, g with
  | some z, some zi, some g =>
    if d.zsu.set ∧ runOpen d = false ∧ 2 * absInt g ≤ ((100 * r.d : Nat) : Int) then
      let t := trackedZ (trackStep r) z f zi (4 * r.max)
      { d with zsu := { d.zsu with z := some t.1, trackLimit := d.zsu.trackLimit || t.2 } }
    else d
  | _, _, _ => d

/-- B1 becomes the mean of the module-1 loads of the window (R55). -/
def updateBaseline (w : List WinEntry) (d : Device) : Device :=
  if moduleExists d .i0 then
    { d with zsu := { d.zsu with b1 := some (roundDiv (sumInt (w.map fun e => e.m1.getD 0)) w.length) } }
  else d

/-- A zero-set empties the window after every action on the sample (R47). -/
def emptyWindow (d : Device) : Device := { d with zsu := { d.zsu with window := [] } }

/-- A ZER wait is in flight. -/
def zerWaiting (d : Device) : Bool :=
  match d.exe.stage with
  | .zerWait _ => true
  | _ => false

/-- Zero UNSET at a STABLE sample: initial zero, and the end of a ZER wait by the same test (R49, R52). The ZER completes before
the lane leaves INIT, so that a passage opening at once ends no command (R51, R66). -/
def stableUnset (r : CalRecord) (f : Int) (d : Device) : Device :=
  if runOpen d then d
  else if within f r.zcal (10 * r.max) then
    let old := d.zsu.z.getD r.zcal
    let d1 := setInitialZero f d
    emptyWindow (laneZeroSet (if zerWaiting d then complete (zerFields old f) d1 else d1))
  else if zerWaiting d then failWith .zrg [] d
  else d

/-- Zero SET at a STABLE sample with the lane CLEAR: a ZER wait ends, or a tracking step is taken; the baseline is updated from
the window before a zero-set empties it (R52 to R55) (DESIGN CHOICE, log entry 38; unsafe: a sample that ends a ZER ZRG leaves Z
as it was by R52 and may meet R53 as well; the model then takes the tracking step of R53). -/
def stableClear (r : CalRecord) (f : Int) (g : Option Int) (d : Device) : Device :=
  let w := d.zsu.window
  if zerWaiting d then
    match d.zsu.zInit with
    | some zi =>
      if within f zi (4 * r.max) then
        emptyWindow (updateBaseline w (complete (zerFields (d.zsu.z.getD zi) f) (setOperatingZero f d)))
      else updateBaseline w (track r f g (failWith .zrg [] d))
    | none => updateBaseline w (failWith .zrg [] d)
  else updateBaseline w (track r f g d)

/-- A slot that was LIVE or HOLDING in the previous record and is neither now (R58). -/
def slotLeft (d : Device) (before after : WeightRecord) : Bool :=
  let ok (s : SlotState) : Bool := s == .live || s == .holding
  SlotId.all.any fun i => configured d i && ok (before.states.sel i) && !ok (after.states.sel i)

/-- A capture wait ends CEL when a slot leaves LIVE and HOLDING (R58) (DESIGN CHOICE, log entry 37; unsafe: a slot that left after
the last record but before the capture was accepted is LIVE in the previous record, by R58's table, and already outside when
accepted, by its text; the model compares the two records, and the capture ends CEL). -/
def captureSlots (before : Option WeightRecord) (wr : WeightRecord) (d : Device) : Device :=
  match d.exe.stage, before with
  | .capWait _ _, some b => if slotLeft d b wr then failWith .cel [] d else d
  | _, _ => d

/-- A capture of a vehicle for trade, not a verification point. -/
def CapCmd.isTrade : CapCmd → Bool
  | .vpt _ => false
  | _ => true

/-- The weighing a NORMAL STABLE sample yields (R59). -/
def weighingOf (r : CalRecord) (w : Int) (d : Device) : Weighing :=
  ⟨w, r.d, some r.counter, d.nvc.clock, d.lsv.current.map (·.number), .static⟩

/-- The STABLE sample ends a capture wait with OVR, UND or a weighing (R57, R59, R60). -/
def captureStable (nv : NvStore) (r : CalRecord) (wr : WeightRecord) (d : Device) : Device :=
  match d.exe.stage with
  | .capWait cmd _ =>
    match wr.wstate, wr.w with
    | .over, _ => failWith .ovr [] d
    | .under, _ => failWith .und [] d
    | .normal, some w =>
      let x := weighingOf r w d
      captureYields nv cmd x (if cmd.isTrade then pushRing x d else d)
    | _, _ => d
  | _ => d

/-- The ZSU takes a weight record: window, judgement, then the actions on the judgement (R45 to R59). -/
def zsuRecord (nv : NvStore) (before : Option WeightRecord) (wr : WeightRecord) (d : Device) : Device :=
  let d0 := captureSlots before wr d
  match d0.mst.active with
  | none => { emptyWindow d0 with csu := { d0.csu with newest := some { wr with stable := false } } }
  | some r =>
    let w := windowAfter (windowLength r) wr d0.zsu.window
    let stable := isStable r w
    let d1 := { d0 with zsu := { d0.zsu with window := w }, csu := { d0.csu with newest := some { wr with stable := stable } } }
    match stable, wr.f with
    | true, some f =>
      let lane := d1.lsv.lane
      let d2 := captureStable nv r wr d1
      if d2.zsu.set then (if lane = .clear then stableClear r f wr.g d2 else d2)
      else stableUnset r f d2
    | _, _ => d1

end Sys2Proof.Machine
end

