-- ==== Sys2Proof/Machine/Conditioning.lean ====
section
/-! DEFINITION. The Conditioning and Summation Unit (02): from a slot's raw count to its cell weight, sums, filter, gross and the
weight record. -/

namespace Sys2Proof.Machine

/-! ### Cell weight (R28 to R30) -/

/-- o = round(k × (T - Tcal) / 100) (R28). -/
def tempOffset (k t tcal : Int) : Int := roundDiv (k * (t - tcal)) 100

/-- w = round(c' × Lref / s) (R29). -/
def rawWeight (c lref : Int) (s : Nat) : Int := roundDiv (c * lref) s

/-- Bounds of a cell weight: round(-Lcell / 8) and round(3 × Lcell / 2) (R30). -/
def clampLow (lcell : Nat) : Int := roundDiv (-(lcell : Int)) 8
def clampHigh (lcell : Nat) : Int := roundDiv (3 * (lcell : Int)) 2

/-- The weight limited to its bounds, and whether it was limited (R30). -/
def clampWeight (lcell : Nat) (w : Int) : Int × Bool :=
  if w < clampLow lcell then (clampLow lcell, true)
  else if w > clampHigh lcell then (clampHigh lcell, true)
  else (w, false)

/-- The cell weight of a raw count with its CLAMPED mark; OVL gives the upper bound (R28 to R30). -/
def cellWeight (c : SlotCal) (raw temp : Int) (ovl : Bool) : Int × Bool :=
  let lcell := c.lcell.getD 0
  if ovl then (clampHigh lcell, true)
  else
    let c' := raw - c.z.getD 0 - tempOffset c.k temp (c.tcal.getD 0)
    clampWeight lcell (rawWeight c' (c.lref.getD 0) (c.s.getD 1))

/-- A last-good record from a slot's sample (R31). -/
def lastGoodOf (c : SlotCal) (raw temp : Int) (ovl : Bool) : LastGood :=
  let w := cellWeight c raw temp ovl
  ⟨raw, temp, ovl, w.1, w.2⟩

/-! ### Contributions (R31) -/

/-- A slot's last-good record after a sample: refilled by a fresh weight, emptied outside LIVE and HOLDING, kept otherwise. -/
def lastGoodAfter (cal : Option SlotCal) (x : SlotSample) (old : Option LastGood) : Option LastGood :=
  match cal, x.state with
  | some c, .live =>
    if c.configured ∧ x.outcome = .good then
      some (lastGoodOf c (x.raw.getD 0) (x.temp.getD 0) ((x.flags.map (·.ovl)).getD false))
    else old
  | _, .live => old
  | _, .holding => old
  | _, _ => none

/-- What a configured slot contributes: the weight with its CLAMPED mark, and its kind (R31). -/
def contribution (x : SlotSample) (lg : Option LastGood) : ContribKind × Option LastGood :=
  match x.state with
  | .live => if x.outcome = .good then (.fresh, lg) else (.none, none)
  | .holding =>
    match lg with
    | some l => (.held, some l)
    | none => (.none, none)
  | _ => (.none, none)

/-- The sum of a set of contributions with its marks; no load when any contributes none (R32, R33). -/
def sumLoads (l : List (ContribKind × Option LastGood)) : ModuleLoad :=
  if l.any (fun c => c.2.isNone) then ⟨none, l.any (fun c => c.1 == .held), l.any (fun c => (c.2.map (·.clamped)).getD false)⟩
  else ⟨some (sumInt (l.map fun c => (c.2.map (·.weight)).getD 0)), l.any (fun c => c.1 == .held),
    l.any (fun c => (c.2.map (·.clamped)).getD false)⟩

/-! ### The filter (R34) -/

/-- The history after a total: appended and kept to N entries, or emptied by an INVALID one. -/
def historyAfter (n : Nat) (total : Option Int) (h : List Int) : List Int :=
  match total with
  | some t => pushCapped n h t
  | none => []

/-- F: the rounded mean of the totals held; none without a valid total (R34). -/
def filtered (total : Option Int) (h : List Int) : Option Int :=
  match total with
  | some _ => if h.isEmpty then none else some (roundDiv (sumInt h) h.length)
  | none => none

/-! ### The weight record (R40) -/

/-- The CSU takes a sample record: the weight record, not yet judged, and its own new history and last-good records. -/
def csuRecord (sr : SampleRecord) (d : Device) : WeightRecord × Csu :=
  let lg := Slots.tab fun i => lastGoodAfter (slotCal d i) (sr.slots.sel i) (d.csu.lastGood.sel i)
  let part (i : SlotId) := contribution (sr.slots.sel i) (lg.sel i)
  let used := SlotId.all.filter (configured d)
  let deck : ModuleLoad := if used.isEmpty then ⟨none, false, false⟩ else sumLoads (used.map part)
  let n := (d.mst.active.map (·.n)).getD 1
  let history := historyAfter n deck.load d.csu.history
  let f := filtered deck.load history
  let div := (division d).getD 1
  let mx := (d.mst.active.map (·.max)).getD 0
  let g := match f, d.zsu.z with
    | some f, some z => some (f - z)
    | _, _ => none
  let ws := weightState mx div g
  let wr : WeightRecord := {
    index := sr.index
    latch := sr.latch
    total := deck.load
    held := deck.load.isSome && deck.held
    clamped := deck.load.isSome && deck.clamped
    f := f
    g := g
    w := g.map (weightOf div)
    wstate := ws
    zeroCentre := zeroCentre div d.zsu.set ws g
    modules := Quad.tab fun m =>
      let us := (SlotId.ofLine m).filter (configured d)
      if us.isEmpty then none else some (sumLoads (us.map part))
    kinds := Slots.tab fun i => if configured d i then (part i).1 else .none
    states := Slots.tab fun i => (sr.slots.sel i).state
    stable := false }
  (wr, ⟨history, lg, d.csu.newest⟩)

/-- What the AXU takes of a weight record (R94, R95). -/
def intervalSample (wr : WeightRecord) (d : Device) : IvSample :=
  let m := wr.modules.get .i0
  ⟨wr.index, wr.latch, (m.map (·.load)).getD none, (m.map (·.clamped)).getD false,
    (SlotId.ofLine .i0).all fun i => !configured d i || wr.states.sel i == .live⟩

/-- The AXU places the sample in the current passage's intervals (R94). -/
def axuRecord (wr : WeightRecord) (d : Device) : Device :=
  match d.lsv.current with
  | some p =>
    let b := axuSample d.nvc.settings (intervalSample wr d) ⟨d.axu, p⟩
    { d with axu := b.ax, lsv := { d.lsv with current := some b.p } }
  | none => d

/-- A weight record is formed and goes to the ZSU, the LSV and the AXU (R40); the ZSU reads the lane as it stood before the record
reached the LSV (R48), being first of the three (DESIGN CHOICE, log entry 56; unsafe). -/
def weightRecord (nv : NvStore) (sr : SampleRecord) (d : Device) : Device :=
  let r := csuRecord sr d
  let before := d.csu.newest
  let wasInit := d.lsv.lane == .init
  axuRecord r.1 (laneRecord wasInit r.1 (zsuRecord nv before r.1 { d with csu := r.2 }))

/-- The CSU at a commit (R43): history emptied; last-good records recomputed with the new fields, or emptied. -/
def csuCommit (d : Device) : Device :=
  { d with csu := { d.csu with
      history := []
      lastGood := Slots.tab fun i =>
        match d.csu.lastGood.sel i, slotCal d i with
        | some l, some c => if c.configured then some (lastGoodOf c l.raw l.temp l.ovl) else none
        | _, _ => none } }

/-- The ZSU at a commit (R61). -/
def zsuCommit (d : Device) : Device :=
  { d with zsu := ⟨[], false, d.mst.active.map (·.zcal), none, false, none⟩ }

end Sys2Proof.Machine
end

