-- ==== Sys2Proof/Machine/SlotOps.lean ====
section
/-! DEFINITION. Slot records of the Cell Line Controller (01): outcomes, state changes, side messages, the identity check, and what
a commit or a new hold limit does to the slots. -/

namespace Sys2Proof.Machine

/-! ### State changes (R16 to R18) -/

/-- Entry into VERIFYING (R16). -/
def toVerifying (s : Slot) : Slot :=
  { s with state := .verifying, serialLow := none, serialHigh := none, tempReceived := false, hold := 0 }

/-- Entry into FAULTED (R18) (DESIGN CHOICE, log entry 35; unsafe: the spec gives no hold count in FAULTED, SEEKING and MISMATCH;
the model keeps the count the slot had, here and in `toSeeking`). -/
def toFaulted (s : Slot) : Slot := { s with state := .faulted, run := 0 }

/-- Entry into SEEKING: the last rolling count is emptied (R10); the hold count is kept (DESIGN CHOICE, log entry 35; unsafe). -/
def toSeeking (s : Slot) : Slot := { s with state := .seeking, lastCount := none }

/-- A miss in HOLDING or VERIFYING: counted against the hold limit, FAULTED beyond it (R16, R17). -/
def countMiss (h : Nat) (s : Slot) : Slot := if s.hold + 1 > h then toFaulted s else { s with hold := s.hold + 1 }

/-- A GOOD outcome in FAULTED adds to the run, which takes the slot to VERIFYING at 8 (R18). -/
def countGood (s : Slot) : Slot :=
  if s.run + 1 ≥ Config.goodRun then toVerifying { s with run := s.run + 1 } else { s with run := s.run + 1 }

/-- WARM-UP and CELL-ERR (R11). -/
def SlotOutcome.isUnfit (o : SlotOutcome) : Bool := o == .warmUp || o == .cellErr

/-- The state change of an outcome (R16 to R18, R20), under hold limit h; an unpolled slot's does nothing. -/
def stepSlot (h : Nat) (o : SlotOutcome) (s : Slot) : Slot :=
  match s.state with
  | .unused => s
  | .mismatch => s
  | .seeking => if o = .good then toVerifying s else if o = .cellErr then toFaulted s else s
  | .verifying =>
    if o = .good then { s with hold := 0 } else if o.isUnfit then toFaulted s else if o.isMiss then countMiss h s else s
  | .live =>
    if o = .good then { s with hold := 0 } else if o.isUnfit then toFaulted s
    else if o.isMiss then { s with state := .holding, hold := 1 } else s
  | .holding =>
    if o = .good then { s with state := .live, hold := 0 } else if o.isUnfit then toFaulted s
    else if o.isMiss then countMiss h s else s
  | .faulted => if o = .good then countGood s else { s with run := 0 }

/-- The error counts, the last outcome and the cycle's outcome (R11). -/
def recordOutcome (o : SlotOutcome) (s : Slot) : Slot :=
  { s with
    cycle := some o
    lastOutcome := some o
    nBad := if o = .bad then bump s.nBad else s.nBad
    nSilent := if o = .silent then bump s.nSilent else s.nSilent
    nLate := if o = .late then bump s.nLate else s.nLate
    nStale := if o = .stale then bump s.nStale else s.nStale }

/-- An outcome that breaks side-message assembly (R13). -/
def breaksAssembly : SlotOutcome → Bool
  | .bad | .stale | .silent | .late => true
  | _ => false

/-- An outcome without a valid frame: BAD, SILENT or LATE. -/
def missSlot (h : Nat) (o : SlotOutcome) (s : Slot) : Slot :=
  { stepSlot h o (recordOutcome o s) with assembly := [] }

/-! ### Side messages (R13 to R15) -/

/-- The assembly after a valid frame other than STALE (R13). -/
def assemble (f : Frame) (a : List Bool) : List Bool :=
  if f.sideStart then [f.sideData] else if a.isEmpty then [] else a ++ [f.sideData]

def bitsNat (l : List Bool) : Nat := l.foldl (fun n b => 2 * n + (if b then 1 else 0)) 0

/-- The item code and value of a completed message with a right check (R13, R14). -/
def readMessage (bits : List Bool) : Option (Nat × Nat) :=
  let item := bitsNat (bits.take 4)
  let v := bitsNat ((bits.drop 4).take 12)
  if bitsNat (bits.drop 16) = (item + v / 256 + v / 16 % 16 + v % 16) % 16 then some (item, v) else none

/-- A 12-bit signed temperature clipped to -400 to 850 (R14). -/
def clipTemp (v : Nat) : Int := max (-400) (min 850 (if v < 2048 then (v : Int) else (v : Int) - 4096))

/-- An accepted message stored by its item code (R14, R15). -/
def storeMessage (item v : Nat) (s : Slot) : Slot :=
  match item with
  | 1 => { s with serialLow := some v }
  | 2 => { s with serialHigh := some v }
  | 3 => { s with lastTemp := some (clipTemp v), tempReceived := true,
                  tempInUse := if s.frozen then s.tempInUse else some (clipTemp v) }
  | 4 => { s with diag := some v }
  | _ => s

/-- The assembled serial, when both halves are present (R19). -/
def serialOf (s : Slot) : Option Nat :=
  match s.serialHigh, s.serialLow with
  | some h, some l => some (h * 4096 + l)
  | _, _ => none

/-- The identity check against the expected serial (R19). Entry into LIVE keeps the hold count of VERIFYING until the next outcome (DESIGN
CHOICE, log entry 35; unsafe). -/
def identityCheck (expected : Option Nat) (s : Slot) : Slot :=
  match s.state, serialOf s with
  | .verifying, some n =>
    if some n ≠ expected then { s with state := .mismatch }
    else if s.tempReceived ∧ s.tempInUse.isSome then { s with state := .live } else s
  | .live, some n => if some n ≠ expected then { s with state := .mismatch } else s
  | .holding, some n => if some n ≠ expected then { s with state := .mismatch } else s
  | _, _ => s

/-- The 20th bit completes a message, which is checked and acts on the state reached (R13, R14). -/
def sideMessage (expected : Option Nat) (s : Slot) : Slot :=
  if s.assembly.length ≥ 20 then
    let s1 := { s with assembly := [] }
    match readMessage s.assembly with
    | some (item, v) =>
      let s2 := storeMessage item v s1
      if item = 1 ∨ item = 2 ∨ item = 3 then identityCheck expected s2 else s2
    | none => s1
  else s

/-- TMP freezes the temperature in use; its end brings back the last received one (R15). -/
def freezeTemp (tmp : Bool) (s : Slot) : Slot :=
  { s with frozen := tmp, tempInUse := if tmp then s.tempInUse else s.lastTemp }

/-- A valid frame acts on its slot: rolling count, outcome, state, temperature, assembly, message (R10 to R19). -/
def frameSlot (h : Nat) (expected : Option Nat) (f : Frame) (s : Slot) : Slot :=
  let o := classify s.lastCount f
  let s1 := freezeTemp f.flags.tmp { recordOutcome o s with lastCount := some f.count, lastRaw := some f.raw, lastFlags := some f.flags }
  let s2 := stepSlot h o s1
  if o = .stale then { s2 with assembly := [] }
  else sideMessage expected { s2 with assembly := assemble f s2.assembly }

/-! ### Slots of the part -/

def slotOf (d : Device) (i : SlotId) : Slot := d.clc.slots.sel i

def expectedSerial (d : Device) (i : SlotId) : Option Nat := (slotCal d i).bind fun c => if c.configured then c.serial else none

def storeSlot (i : SlotId) (s : Slot) (d : Device) : Device := { d with clc := { d.clc with slots := d.clc.slots.put i s } }

/-- One CELL-MISMATCH append is requested for a slot, with the serials current now (R19); refused, none is outstanding
(DEDUCED, log entry 23; safe but for an owed request's serials). -/
def requestMismatch (nv : NvStore) (i : SlotId) (d : Device) : Device :=
  let body := AuditBody.cellMismatch i (expectedSerial d i) (serialOf (slotOf d i))
  let asked := d.auu.next.isSome
  append nv (.mismatch i) body (some d.mst.counter)
    (storeSlot i { slotOf d i with owed := false, requested := asked } d)

/-- Entry into MISMATCH: the request, or the mark while an earlier one is outstanding (R19). -/
def enterMismatch (nv : NvStore) (i : SlotId) (d : Device) : Device :=
  if (slotOf d i).requested then storeSlot i { slotOf d i with owed := true } d else requestMismatch nv i d

/-- A slot takes its new record; a change of state raises CEL, and an entry into MISMATCH is audited (R19, R23). -/
def putSlot (nv : NvStore) (i : SlotId) (s : Slot) (d : Device) : Device :=
  let old := slotOf d i
  let d1 := storeSlot i s d
  if s.state = old.state then d1
  else if s.state = .mismatch then enterMismatch nv i (raise .cel d1)
  else raise .cel d1

/-- Each slot in turn takes a new record. -/
def mapSlots (nv : NvStore) (f : SlotId → Slot → Slot) (is : List SlotId) (d : Device) : Device :=
  is.foldl (fun d i => putSlot nv i (f i (slotOf d i)) d) d

/-! ### Commits and settings (R21, R22) -/

/-- What a commit does to a slot (R21): configured and expected serial are those of the new record (DESIGN CHOICE, log entry 35; unsafe: a
slot that becomes UNUSED keeps its hold count, serial halves, temperatures and counts). -/
def commitSlot (conf : Bool) (expected : Option Nat) (s : Slot) : Slot :=
  if !conf then { s with state := .unused }
  else
    let s1 := match s.state with
      | .unused => toSeeking s
      | .mismatch => toVerifying s
      | _ => s
    match s1.state, serialOf s1 with
    | .verifying, some n => if some n ≠ expected then { s1 with state := .mismatch } else s1
    | .live, some n => if some n ≠ expected then { s1 with state := .mismatch } else s1
    | .holding, some n => if some n ≠ expected then { s1 with state := .mismatch } else s1
    | _, _ => s1

/-- A polled slot goes on being polled after a commit when it is configured still, in the record or a working copy (R4, R21). -/
def polledAfter (d : Device) (i : SlotId) : Bool := d.clc.polled.sel i && (configured d i || workConfigured d i)

/-- The CLC at a commit: slots, and polling of slots no longer configured ends, with NOT-POLLED (R11, R21) (DESIGN CHOICE, log
entry 34; unsafe: a sample record that this makes complete is handed over at the next line event or sample instant, not here). -/
def clcCommit (nv : NvStore) (d : Device) : Device :=
  let d1 := mapSlots nv (fun i s => commitSlot (configured d i) (expectedSerial d i) s) SlotId.all d
  { d1 with clc := { d1.clc with
    polled := Slots.tab fun i => polledAfter d1 i
    slots := Slots.tab fun i =>
      if d1.clc.polled.sel i && !polledAfter d1 i then { slotOf d1 i with lastOutcome := some .notPolled } else slotOf d1 i } }

/-- A new hold limit takes HOLDING and VERIFYING slots beyond it to FAULTED (R22). -/
def holdSlot (h : Nat) (s : Slot) : Slot :=
  if (s.state = .holding ∨ s.state = .verifying) ∧ s.hold > h then toFaulted s else s

def clcNewHold (nv : NvStore) (d : Device) : Device := mapSlots nv (fun _ s => holdSlot d.nvc.settings.hold s) SlotId.all d

end Sys2Proof.Machine
end

