-- ==== Sys2Proof/Machine/CalibrationOps.lean ====
section
/-! DEFINITION. The Metrology Store's shared operations (08, 09): the working copy, raw stability and run captures, the changed-item
list, installation and failure of a commit, discards, and overdue verification. -/

namespace Sys2Proof.Machine

/-! ### The working copy (R151, R155, R160) -/

def SlotCal.fresh : SlotCal := ⟨false, none, 0, none, none, none, none, none⟩
def SlotMarks.fresh : SlotMarks := ⟨false, false, none⟩

/-- The defaults of R151. -/
def WorkCopy.fresh : WorkCopy :=
  ⟨none, none, 10, 8, 1000, 2, 365, none, none, Quad.const (Quad.const SlotCal.fresh), Quad.const (Quad.const SlotMarks.fresh)⟩

/-- The active record copied, every capture mark cleared (R155). -/
def WorkCopy.ofActive (r : CalRecord) : WorkCopy :=
  ⟨some r.max, some r.d, r.p, r.n, r.window, r.band, r.vint, some r.zcal, some r.zcal, r.slots, Quad.const (Quad.const SlotMarks.fresh)⟩

/-- The calibration record a working copy makes (R165). -/
def WorkCopy.toRecord (w : WorkCopy) (counter time : Nat) : CalRecord :=
  ⟨w.max.getD 0, w.d.getD 0, w.p, w.n, w.window, w.band, w.vint, w.zcal.getD 0, w.slots, counter, time⟩

def WorkCopy.configuredSlots (w : WorkCopy) : List SlotId := SlotId.all.filter fun i => (w.slots.sel i).configured

/-- The run holds a zero capture: a slot's zero-captured mark stands. -/
def WorkCopy.holdsZero (w : WorkCopy) : Bool := SlotId.all.any fun i => (w.marks.sel i).zeroCaptured

/-- A slot's part of Zcal: its zero mean under the working fields, o being 0, clamped (R160). -/
def zeroPart (c : SlotCal) (m : SlotMarks) : Int :=
  match m.zeroMean, c.s, c.z with
  | some (sum, n), some s, some z =>
    (clampWeight (c.lcell.getD 0) (roundDiv ((sum - z * n) * (c.lref.getD 0)) (n * s))).1
  | _, _, _ => 0

/-- Zcal of the working copy, formed while the run holds a zero capture (R160). -/
def reformZero (w : WorkCopy) : WorkCopy :=
  if w.holdsZero then
    { w with zcal := some (sumInt (w.configuredSlots.map fun i => zeroPart (w.slots.sel i) (w.marks.sel i))) }
  else w

def setWork (w : WorkCopy) (d : Device) : Device := { d with mst := { d.mst with run := some w } }

/-! ### Raw stability (R157) -/

/-- Kr records fill the raw window (R157). -/
def rawLength (d : Device) : Nat := Config.rawWindowMs / periodMs d

/-- A sample of a slot qualifies: GOOD, OVL and TMP clear, both serial halves, a temperature in use (R157). -/
def slotQualifies (d : Device) (sr : SampleRecord) (i : SlotId) : Bool :=
  let x := sr.slots.sel i
  x.outcome == .good && ((x.flags.map fun f => !f.ovl && !f.tmp).getD false) && (serialOf (slotOf d i)).isSome && x.temp.isSome

/-- The raw counts a sample record brings. -/
def rawCounts (sr : SampleRecord) : Slots (Option Int) := Slots.tab fun i => (sr.slots.sel i).raw

/-- The raw window after a sample record (R157). -/
def rawWindowAfter (d : Device) (w : WorkCopy) (sr : SampleRecord) (win : List (Slots (Option Int))) : List (Slots (Option Int)) :=
  if w.configuredSlots.all (slotQualifies d sr) then pushCapped (rawLength d) win (rawCounts sr) else []

/-- A slot's raw counts in the window. -/
def slotRaws (win : List (Slots (Option Int))) (i : SlotId) : List Int := win.map fun r => (r.sel i).getD 0

/-- The capture is raw-stable: Kr records, and at most 24 counts of spread for every configured slot (R157). -/
def rawStable (k : Nat) (w : WorkCopy) (win : List (Slots (Option Int))) : Bool :=
  win.length == k && w.configuredSlots.all fun i => match spread (slotRaws win i) with
    | some s => s ≤ Config.rawSpread
    | none => false

/-! ### Zero capture (R159) -/

/-- A slot's fields and marks after a zero capture. -/
def zeroSlot (d : Device) (sr : SampleRecord) (win : List (Slots (Option Int))) (i : SlotId) (c : SlotCal) : SlotCal :=
  if c.configured then
    { c with z := some (roundDiv (sumInt (slotRaws win i)) win.length), tcal := (sr.slots.sel i).temp, serial := serialOf (slotOf d i) }
  else c

def zeroMarks (win : List (Slots (Option Int))) (i : SlotId) (c : SlotCal) (m : SlotMarks) : SlotMarks :=
  if c.configured then { m with zeroCaptured := true, zeroMean := some (sumInt (slotRaws win i), win.length) } else m

/-- The =CZE fields of a slot: z, Tcal, serial, and whether the serial differs from the one the active record expects (R159). The word DIFF
of the flag (log entry 47), and the flag of a slot for which the active record expects none (log entry 36), are the model's (DESIGN
CHOICE; unsafe), as is a slot without its name (log entry 54). -/
def zeroFields (d : Device) (w : WorkCopy) (i : SlotId) : List Text :=
  let c := w.slots.sel i
  [tOpt tInt c.z, tOpt tInt c.tcal, tOpt tNat c.serial, tFlag (c.serial != expectedSerial d i) tDiff]

/-- The zero of every configured slot is taken and CZE completes (R159). -/
def captureZero (sr : SampleRecord) (win : List (Slots (Option Int))) (w : WorkCopy) (d : Device) : Device :=
  let w1 := reformZero { w with
    slots := Slots.tab fun i => zeroSlot d sr win i (w.slots.sel i)
    marks := Slots.tab fun i => zeroMarks win i (w.slots.sel i) (w.marks.sel i) }
  complete (tHundredths (w1.zcal.getD 0) :: w1.configuredSlots.flatMap (zeroFields d w1)) (setWork w1 d)

/-! ### Span capture (R162) -/

/-- Δc of a slot as a numerator over the window's length: sum - (z + o) × n (R162). -/
def spanDelta (sr : SampleRecord) (win : List (Slots (Option Int))) (i : SlotId) (c : SlotCal) : Int :=
  let o := tempOffset c.k ((sr.slots.sel i).temp.getD 0) (c.tcal.getD 0)
  sumInt (slotRaws win i) - (c.z.getD 0 + o) * win.length

def spanSlot (s lref : Nat) (c : SlotCal) : SlotCal := if c.configured then { c with s := some s, lref := some lref } else c
def spanMarks (c : SlotCal) (m : SlotMarks) : SlotMarks := if c.configured then { m with spanCaptured := true } else m

/-- The span of a module is taken, or CSP ends RNG with S as detail (R162); =CSP gives the slots' Δc in address order without their names
(DESIGN CHOICE, log entry 54; unsafe). -/
def captureSpan (m : Ix) (x : Nat) (sr : SampleRecord) (win : List (Slots (Option Int))) (w : WorkCopy) (d : Device) : Device :=
  let is := (SlotId.ofLine m).filter fun i => (w.slots.sel i).configured
  let deltas := is.map fun i => spanDelta sr win i (w.slots.sel i)
  let s := roundDiv (sumInt deltas) win.length
  if s < 1000 ∨ s > 2000000 then failWith .rng [tInt s] d
  else
    let w1 := reformZero { w with
      slots := Slots.tab fun i => if i.line = m then spanSlot s.toNat (100 * x) (w.slots.sel i) else w.slots.sel i
      marks := Slots.tab fun i => if i.line = m then spanMarks (w.slots.sel i) (w.marks.sel i) else w.marks.sel i }
    complete ([tNat (m.toNat + 1), tNat x, tInt s] ++ deltas.map fun c => tHundredths (roundDiv (100 * c) win.length))
      (setWork w1 d)

/-- A sample record handed to the MST during a run: a run capture in flight updates its window and may end (R157). -/
def mstRecord (sr : SampleRecord) (d : Device) : Device :=
  match d.exe.stage, d.mst.run with
  | .runWait cmd deadline win, some w =>
    let win' := rawWindowAfter d w sr win
    if rawStable (rawLength d) w win' then
      match cmd with
      | .cze => captureZero sr win' w d
      | .csp m x => captureSpan m x sr win' w d
    else setStage (.runWait cmd deadline win') d
  | _, _ => d

/-! ### The changed-item list (R164) -/

def recordItems (a : Option WorkCopy) (w : WorkCopy) : List (RecordItem × Bool) :=
  match a with
  | some a =>
    [(.max, a.max != w.max), (.div, a.d != w.d), (.per, a.p != w.p), (.flt, a.n != w.n), (.win, a.window != w.window),
      (.band, a.band != w.band), (.vint, a.vint != w.vint), (.zcal, a.zcal != w.zcal)]
  | none =>
    [(.max, w.max.isSome), (.div, w.d.isSome), (.per, true), (.flt, true), (.win, true), (.band, true), (.vint, true),
      (.zcal, w.zcal.isSome)]

def slotItems (a : Option SlotCal) (c : SlotCal) : List (SlotItem × Bool) :=
  match a with
  | some a =>
    [(.cfg, a.configured != c.configured), (.lcel, a.lcell != c.lcell), (.tco, a.k != c.k), (.zcnt, a.z != c.z),
      (.tcal, a.tcal != c.tcal), (.span, a.s != c.s), (.lref, a.lref != c.lref), (.serl, a.serial != c.serial)]
  | none =>
    [(.cfg, true), (.lcel, c.lcell.isSome), (.tco, true), (.zcnt, c.z.isSome), (.tcal, c.tcal.isSome), (.span, c.s.isSome),
      (.lref, c.lref.isSome), (.serl, c.serial.isSome)]

/-- Every changed item, in the fixed order of R164. -/
def changedItems (active : Option CalRecord) (w : WorkCopy) : List ChangedItem :=
  let whole := (recordItems (active.map WorkCopy.ofActive) w).filterMap fun e => if e.2 then some (ChangedItem.whole e.1) else none
  let slots := SlotId.all.flatMap fun i =>
    (slotItems (active.map fun r => r.slots.sel i) (w.slots.sel i)).filterMap fun e =>
      if e.2 then some (ChangedItem.slot i e.1) else none
  whole ++ slots

/-! ### Closing a run (R165 to R168) -/

/-- The run ends and the working copy is dropped; the discard is audited or owed, and MET raised (R167). -/
def discardRun (nv : NvStore) (d : Device) : Device :=
  requestDiscard nv (raise .met { d with mst := { d.mst with run := none } })

/-- The blocks act on a new active record, or on its want, in the order of R165. -/
def blocksCommit (nv : NvStore) (d : Device) : Device := laneCommit nv (zsuCommit (csuCommit (clcCommit nv d)))

/-- The record becomes active: the run closes, CALIBRATED with its due date, the blocks act, the status write is requested
(R165 steps 3 and 4) (DEDUCED, log entries 17 and 24; unsafe). -/
def installRecord (nv : NvStore) (r : CalRecord) (d : Device) : Device :=
  let due := some (dayOf r.commitTime + r.vint)
  let d1 := { d with mst := { d.mst with active := some r, run := none, state := .calibrated, due := due } }
  let d2 := raise .met (blocksCommit nv d1)
  requestStatus nv ⟨.calibrated, due, r.counter⟩ true d2

/-- The calibration write has failed: no active record, UNCALIBRATED, the blocks act, the status write is requested (R166). The due date
stays, in the live state and in the status record (DESIGN CHOICE, log entry 49; unsafe). -/
def loseRecord (nv : NvStore) (d : Device) : Device :=
  let d1 := { d with mst := { d.mst with active := none, state := .uncalibrated } }
  let d2 := raise .met (blocksCommit nv d1)
  requestStatus nv ⟨.uncalibrated, d.mst.due, d.mst.counter⟩ false d2

/-! ### Overdue verification (R177) -/

/-- The clock has passed the due date: SUSPECT, MET raised, a status write requested. -/
def checkOverdue (nv : NvStore) (d : Device) : Device :=
  match d.mst.state, d.mst.due, d.nvc.clock with
  | .calibrated, some due, some t =>
    if dayOf t > due then
      let d1 := raise .met { d with mst := { d.mst with state := .suspect } }
      requestStatus nv (liveStatus d1) false d1
    else d
  | _, _, _ => d

end Sys2Proof.Machine
end

