-- ==== Sys2Proof/Machine/CellLines.lean ====
section
/-! DEFINITION. The cell-line events (01): sample instants, polls, replies, timeouts, shorts and recoveries, and the sample record
that follows when every polled slot has its outcome. -/

namespace Sys2Proof.Machine

/-! ### Lines and the sample record (R4, R12) -/

def lineOf (d : Device) (l : Ix) : Line := d.clc.lines.get l

def storeLine (l : Ix) (x : Line) (d : Device) : Device := { d with clc := { d.clc with lines := d.clc.lines.set l x } }

/-- The polled slots from the next sample instant on (R4, R21). -/
def pollSet (d : Device) : Slots Bool := Slots.tab fun i => configured d i || workConfigured d i

def isPolled (d : Device) (i : SlotId) : Bool := d.clc.polled.sel i

/-- The polled slots of a line that have no outcome yet, in address order. -/
def unpolled (d : Device) (l : Ix) : List SlotId :=
  (SlotId.ofLine l).filter fun i => isPolled d i && (slotOf d i).cycle.isNone

/-- What a line does next: the gap before its next poll, or nothing (R4). -/
def nextPhase (d : Device) (l : Ix) : LinePhase := if (unpolled d l).isEmpty then .idle else .gap

/-- Every polled slot has its outcome, and no quiet wait runs on (R12). -/
def cycleComplete (d : Device) : Bool :=
  Ix.all.all fun l => (unpolled d l).isEmpty && (lineOf d l).phase != .quiet

/-- A slot in the sample record (R12) (DESIGN CHOICE, log entry 34; unsafe: R12 does not say at which moment the state and the
hold count are read when one of them changes between the slot's outcome and the record; the model reads them at the hand-over). -/
def slotSample (d : Device) (i : SlotId) : SlotSample :=
  let s := slotOf d i
  let o := if isPolled d i then s.cycle.getD .notPolled else .notPolled
  ⟨o, if o.isValid then s.lastRaw else none, if o.isValid then s.lastFlags else none, s.tempInUse, s.state, s.hold⟩

/-- A complete sample record is handed to the CSU and, during a run, to the MST, once (R12); the MST takes it after
the readers of the weight record (DESIGN CHOICE, log entry 56; unsafe). -/
def handSample (nv : NvStore) (d : Device) : Device :=
  match d.clc.cycle with
  | some c =>
    if !c.handed && cycleComplete d then
      let sr : SampleRecord := ⟨c.index, c.latch, Slots.tab (slotSample d)⟩
      mstRecord sr (weightRecord nv sr { d with clc := { d.clc with cycle := some { c with handed := true } } })
    else d
  | none => d

/-- An outcome without a valid frame acts on its slot (R11, R13, R16 to R18). -/
def missOutcome (nv : NvStore) (o : SlotOutcome) (i : SlotId) (d : Device) : Device :=
  putSlot nv i (missSlot d.nvc.settings.hold o (slotOf d i)) d

/-! ### The sample instant (R2, R3, R5, R24) -/

/-- The slots of ACTIVE lines without an outcome get LATE (R5); lines that became SHORTED have their outcomes already. -/
def lateSlots (nv : NvStore) (d : Device) : Device :=
  (SlotId.all.filter fun i => isPolled d i && (slotOf d i).cycle.isNone).foldl (fun d i => missOutcome nv .late i d) d

/-- Quiet waits and everything else in progress on the lines end (R3, R7). -/
def idleLines (d : Device) : Device :=
  { d with clc := { d.clc with lines := Quad.tab fun l => { lineOf d l with phase := .idle } } }

/-- The ending cycle: LATE, and its record handed on (R5, R12). -/
def endCycle (nv : NvStore) (d : Device) : Device :=
  match d.clc.cycle with
  | some _ => handSample nv (idleLines (lateSlots nv d))
  | none => d

/-- A line at the start of a cycle: latch pulse and first gap on an ACTIVE line, nothing on a SHORTED one (R3, R4, R24). -/
def latchLine (polls : Bool) (x : Line) : Line :=
  match x.status with
  | .active => { x with pulse := some .latch, phase := if polls then .gap else .idle }
  | .shorted => { x with pulse := none, phase := .idle }

/-- Polled slots of SHORTED lines get SILENT without being polled (R24). -/
def silentSlots (nv : NvStore) (d : Device) : Device :=
  (SlotId.all.filter fun i => isPolled d i && (lineOf d i.line).status == .shorted && (slotOf d i).cycle.isNone).foldl
    (fun d i => missOutcome nv .silent i d) d

/-- A slot as a new cycle begins: no outcome yet, or NOT-POLLED when it is not among the polled slots (R11). -/
def newCycleSlot (polled : Bool) (s : Slot) : Slot :=
  { s with cycle := none, lastOutcome := if polled then s.lastOutcome else some .notPolled }

/-- The new cycle begins: next index and latch instant, polled slots, latch pulses (R2, R3, R21)
(PRESUMED, log entry 19; unsafe: the index wraps at 2^40). -/
def beginCycle (nv : NvStore) (d : Device) : Device :=
  let polled := pollSet d
  let d1 := advance d.clc.nextLatch { d with clc := { d.clc with
    cycle := some ⟨d.clc.nextIndex, d.clc.nextLatch, false⟩
    nextIndex := d.clc.nextIndex + 1
    nextLatch := d.clc.nextLatch + periodMs d
    polled := polled
    slots := Slots.tab fun i => newCycleSlot (polled.sel i) (slotOf d i)
    lines := Quad.tab fun l => latchLine ((SlotId.ofLine l).any fun i => polled.sel i) (lineOf d l) } }
  handSample nv (silentSlots nv d1)

def sampleInstant (nv : NvStore) (d : Device) : Device :=
  if running d then beginCycle nv (endCycle nv d) else d

/-- SAMPLE_INSTANT (R3, R5). -/
def execSampleInstant (s : State) : Host.Outcome State Fault Refusal := s.act sampleInstant

/-! ### Polls and replies (R4, R7, R9, R11) -/

/-- The poll pulse of the line's next polled slot (R1, R4). -/
def pollPulse (l : Ix) (_ : NvStore) (d : Device) : Device :=
  let x := lineOf d l
  match x.status, x.phase, unpolled d l with
  | .active, .gap, i :: _ => if running d then storeLine l { x with pulse := some (.poll i.addr), phase := .waiting i.addr } d else d
  | _, _, _ => d

/-- POLL_PULSE (R4). -/
def execPollPulse (l : Ix) (s : State) : Host.Outcome State Fault Refusal := s.act (pollPulse l)

/-- The line goes on: gap or idle, and the record may be complete. -/
def lineGoesOn (nv : NvStore) (l : Ix) (d : Device) : Device :=
  handSample nv (storeLine l { lineOf d l with phase := nextPhase d l } d)

/-- An outcome ends the slot the line is polling, when it is still polled. -/
def waitedMiss (nv : NvStore) (o : SlotOutcome) (i : SlotId) (d : Device) : Device :=
  if isPolled d i then missOutcome nv o i d else d

/-- No falling edge within the reply wait: SILENT (R4). -/
def replyWaitTimeout (l : Ix) (nv : NvStore) (d : Device) : Device :=
  match (lineOf d l).phase with
  | .waiting a => if running d then lineGoesOn nv l (waitedMiss nv .silent ⟨l, a⟩ d) else d
  | _ => d

/-- REPLY_WAIT_TIMEOUT (R4). -/
def execReplyWaitTimeout (l : Ix) (s : State) : Host.Outcome State Fault Refusal := s.act (replyWaitTimeout l)

/-- The frame is BAD: decoding stops and the quiet wait begins (R7). -/
def badFrame (l : Ix) (a : Ix) (nv : NvStore) (d : Device) : Device :=
  let d1 := waitedMiss nv .bad ⟨l, a⟩ d
  storeLine l { lineOf d1 l with phase := .quiet } d1

/-- A valid frame acts on its slot (R10 to R19). -/
def validFrame (nv : NvStore) (i : SlotId) (f : Frame) (d : Device) : Device :=
  if isPolled d i then putSlot nv i (frameSlot d.nvc.settings.hold (expectedSerial d i) f (slotOf d i)) d else d

/-- A reply frame ends at its closing edge (R9, R11). -/
def replyFrame (l : Ix) (ref : Nat) (syms : List Nat) (nv : NvStore) (d : Device) : Device :=
  match (lineOf d l).phase with
  | .waiting a =>
    if running d then
      match decodeFrame ref syms with
      | some f => lineGoesOn nv l (validFrame nv ⟨l, a⟩ f d)
      | none => badFrame l a nv d
    else d
  | _ => d

/-- REPLY_FRAME (R11). -/
def execReplyFrame (l : Ix) (ref : Nat) (syms : List Nat) (s : State) : Host.Outcome State Fault Refusal :=
  s.act (replyFrame l ref syms)

/-- An expected next edge does not come: BAD at that moment (R6, R7). -/
def frameEdgeTimeout (l : Ix) (nv : NvStore) (d : Device) : Device :=
  match (lineOf d l).phase with
  | .waiting a => if running d then badFrame l a nv d else d
  | _ => d

/-- FRAME_EDGE_TIMEOUT (R7). -/
def execFrameEdgeTimeout (l : Ix) (s : State) : Host.Outcome State Fault Refusal := s.act (frameEdgeTimeout l)

/-- A reference out of range or a bad symbol: BAD at that edge; edges that are all good leave the frame going on (R6, R7). -/
def badFrameEdge (l : Ix) (ref : Nat) (syms : List Nat) (nv : NvStore) (d : Device) : Device :=
  match (lineOf d l).phase with
  | .waiting a => if running d && edgesBad ref syms then badFrame l a nv d else d
  | _ => d

/-- BAD_FRAME (R7). -/
def execBadFrame (l : Ix) (ref : Nat) (syms : List Nat) (s : State) : Host.Outcome State Fault Refusal :=
  s.act (badFrameEdge l ref syms)

/-- The line has stayed high for the quiet wait: the next gap begins, or the line's outcomes are known (R7, R12). -/
def quietWaitEnd (l : Ix) (nv : NvStore) (d : Device) : Device :=
  if running d && (lineOf d l).phase == .quiet then lineGoesOn nv l d else d

/-- QUIET_WAIT_END (R7). -/
def execQuietWaitEnd (l : Ix) (s : State) : Host.Outcome State Fault Refusal := s.act (quietWaitEnd l)

/-! ### Line faults (R24, R25) -/

/-- The slot being polled gets BAD (R24). -/
def shortedSlot (nv : NvStore) (l : Ix) (d : Device) : Device :=
  match (lineOf d l).phase with
  | .waiting a => waitedMiss nv .bad ⟨l, a⟩ d
  | _ => d

/-- Every configured slot of the line but a MISMATCH one enters FAULTED (R24). -/
def faultLine (nv : NvStore) (l : Ix) (d : Device) : Device :=
  mapSlots nv (fun i s => if configured d i ∧ s.state ≠ .mismatch then toFaulted s else s) (SlotId.ofLine l) d

/-- A line becomes SHORTED (R24): its other polled slots of this sample get SILENT (DEDUCED, log entry 14; unsafe). -/
def lineShorted (l : Ix) (nv : NvStore) (d : Device) : Device :=
  if running d && (lineOf d l).status == .active then
    let d1 := faultLine nv l (shortedSlot nv l d)
    let d2 := raise .cel (storeLine l ⟨.shorted, .idle, none, false, d1.now + Config.retryMs⟩ d1)
    handSample nv (silentSlots nv d2)
  else d

/-- LINE_SHORTED (R24). -/
def execLineShorted (l : Ix) (s : State) : Host.Outcome State Fault Refusal := s.act (lineShorted l)

/-- The once-per-second retry: a latch pulse, and the line is watched (R25). -/
def shortRetry (l : Ix) (_ : NvStore) (d : Device) : Device :=
  let x := lineOf d l
  if running d && x.status == .shorted then
    advance x.nextRetry (storeLine l { x with pulse := some .latch, watching := true, nextRetry := x.nextRetry + Config.retryMs } d)
  else d

/-- SHORT_RETRY (R25). -/
def execShortRetry (l : Ix) (s : State) : Host.Outcome State Fault Refusal := s.act (shortRetry l)

/-- A retried line reads high long enough: ACTIVE, its configured slots but MISMATCH ones SEEKING; polling resumes at the next
sample instant (R25). A slot configured in the working copy alone is none of them: it stays UNUSED and keeps its last rolling count
(R21) (DESIGN CHOICE, log entry 35; unsafe). -/
def lineRecovery (l : Ix) (nv : NvStore) (d : Device) : Device :=
  let x := lineOf d l
  if running d && x.status == .shorted && x.watching then
    let d1 := raise .cel (storeLine l ⟨.active, .idle, x.pulse, false, 0⟩ d)
    mapSlots nv (fun i s => if configured d1 i ∧ s.state ≠ .mismatch then toSeeking s else s) (SlotId.ofLine l) d1
  else d

/-- LINE_RECOVERY (R25). -/
def execLineRecovery (l : Ix) (s : State) : Host.Outcome State Fault Refusal := s.act (lineRecovery l)

end Sys2Proof.Machine
end

