-- ==== Sys2Proof/Machine/LaneEvents.lean ====
section
/-! DEFINITION. The events of beams, strips, lane timers and the lock switch (04, R154), and the deadlines of waiting long commands
(R51, R58, R141, R158). -/

namespace Sys2Proof.Machine

/-! ### Debounced inputs (R63, R154) -/

/-- A raw level at a time: a debounce starts when it differs from the debounced state, and is abandoned when it returns. -/
def levelChange (level : Bool) (t : Nat) (x : Input) : Input :=
  if level = x.state then { x with raw := level, debounce := none }
  else { x with raw := level, debounce := some (x.debounce.getD t) }

/-- The debounce has run: the debounced state is the raw level. -/
def debounced (x : Input) : Input := { x with state := x.raw, debounce := none }

def beamOf (d : Device) : Beam → Input
  | .entry => d.lsv.beamIn
  | .exit => d.lsv.beamOut

def storeBeam (b : Beam) (x : Input) (d : Device) : Device :=
  match b with
  | .entry => { d with lsv := { d.lsv with beamIn := x } }
  | .exit => { d with lsv := { d.lsv with beamOut := x } }

/-- A beam's level changes: the pin is read at any time, debounced only while the part runs (R63, R85). -/
def beamLevelChange (b : Beam) (blocked : Bool) (t : Nat) (_ : NvStore) (d : Device) : Device :=
  if running d then advance t (storeBeam b (levelChange blocked t (beamOf d b)) d)
  else storeBeam b { beamOf d b with raw := blocked } d

/-- BEAM_LEVEL_CHANGE (R63). -/
def execBeamLevelChange (b : Beam) (blocked : Bool) (t : Nat) (s : State) : Host.Outcome State Fault Refusal :=
  s.act (beamLevelChange b blocked t)

/-- A beam's debounce has run 100 ms: the debounced state changes at that moment and acts (R63). -/
def beamChange (b : Beam) (_ : NvStore) (d : Device) : Device :=
  match (beamOf d b).debounce with
  | some t0 =>
    if running d then
      let t := t0 + Config.debounceMs
      laneBeam b (beamOf d b).raw t (storeBeam b (debounced (beamOf d b)) (advance t d))
    else d
  | none => d

/-- BEAM_CHANGE (R63). -/
def execBeamChange (b : Beam) (s : State) : Host.Outcome State Fault Refusal := s.act (beamChange b)

/-! ### Strips (R64) -/

def lastHitOf (d : Device) : Strip → Option Nat
  | .a => d.lsv.hitA
  | .b => d.lsv.hitB
  | .c => d.lsv.hitC

def storeHit (strip : Strip) (t : Nat) (d : Device) : Device :=
  match strip with
  | .a => { d with lsv := { d.lsv with hitA := some t } }
  | .b => { d with lsv := { d.lsv with hitB := some t } }
  | .c => { d with lsv := { d.lsv with hitC := some t } }

/-- An edge less than 40 ms after the strip's last accepted hit is ignored (R64). -/
def accepted (last : Option Nat) (t : Nat) : Bool :=
  match last with
  | some l => l + Config.blankingMs ≤ t
  | none => true

/-- A strip edge: accepted from the latch of sample 0 on, blanked, then acting on the lane (R64, R85). -/
def stripHit (strip : Strip) (t : Nat) (nv : NvStore) (d : Device) : Device :=
  if running d && d.clc.cycle.isSome then
    let d1 := advance t d
    if accepted (lastHitOf d strip) t then laneHit nv strip t (storeHit strip t d1) else d1
  else d

/-- STRIP_HIT (R64). -/
def execStripHit (strip : Strip) (t : Nat) (s : State) : Host.Outcome State Fault Refusal := s.act (stripHit strip t)

/-! ### Lane timers (R68, R70) -/

/-- The settle timer, running in ENTERING, has run the settle time. -/
def settleTimerExpires (_ : NvStore) (d : Device) : Device :=
  match settleDue d with
  | some due =>
    if running d ∧ d.lsv.lane = .entering then
      let d1 := advance due d
      evalTimers due (settleExpires d1)
    else d
  | none => d

/-- SETTLE_TIMER_EXPIRES (R68). -/
def execSettleTimerExpires (s : State) : Host.Outcome State Fault Refusal := s.act settleTimerExpires

/-- The clear timer, running in a passage, has run the clear time. -/
def clearTimerExpires (nv : NvStore) (d : Device) : Device :=
  match clearDue d with
  | some due => if running d ∧ inPassage d.lsv.lane then clearExpires nv due (advance due d) else d
  | none => d

/-- CLEAR_TIMER_EXPIRES (R70). -/
def execClearTimerExpires (s : State) : Host.Outcome State Fault Refusal := s.act clearTimerExpires

/-! ### The lock switch (R154, R158, R168) -/

/-- The lock's level changes: read at any time, debounced while the part runs. -/
def lockLevelChange (isOpen : Bool) (t : Nat) (_ : NvStore) (d : Device) : Device :=
  if running d then advance t { d with mst := { d.mst with lock := levelChange isOpen t d.mst.lock } }
  else { d with mst := { d.mst with lock := { d.mst.lock with raw := isOpen } } }

/-- LOCK_LEVEL_CHANGE (R154). -/
def execLockLevelChange (isOpen : Bool) (t : Nat) (s : State) : Host.Outcome State Fault Refusal :=
  s.act (lockLevelChange isOpen t)

/-- The lock has closed: a CZE or CSP in flight ends LCK and an open run is discarded; a commit accepted before only remembers it
(R158, R168). -/
def lockCloses (nv : NvStore) (d : Device) : Device :=
  match d.exe.stage with
  | .ccmAudit items more count time _ => setStage (.ccmAudit items more count time true) d
  | .ccmRecord more count _ => setStage (.ccmRecord more count true) d
  | .runWait _ _ _ => if runOpen d then discardRun nv (failWith .lck [] d) else failWith .lck [] d
  | _ => if runOpen d then discardRun nv d else d

/-- The lock debounce has run: the position changes and MET is raised (R154). -/
def lockPositionChange (nv : NvStore) (d : Device) : Device :=
  match d.mst.lock.debounce with
  | some t0 =>
    if running d then
      let d1 := raise .met { advance (t0 + Config.debounceMs) d with mst := { d.mst with lock := debounced d.mst.lock } }
      if d1.mst.lock.state then d1 else lockCloses nv d1
    else d
  | none => d

/-- LOCK_POSITION_CHANGE (R154). -/
def execLockPositionChange (s : State) : Host.Outcome State Fault Refusal := s.act lockPositionChange

/-! ### Deadlines -/

/-- The ZER wait's deadline passes: MOT (R51). -/
def zerDeadline (_ : NvStore) (d : Device) : Device :=
  match d.exe.stage with
  | .zerWait t => failWith .mot [] (advance t d)
  | _ => d

/-- ZER_DEADLINE (R51). -/
def execZerDeadline (s : State) : Host.Outcome State Fault Refusal := s.act zerDeadline

/-- A static capture's deadline passes: MOT (R58). -/
def captureDeadline (_ : NvStore) (d : Device) : Device :=
  match d.exe.stage with
  | .capWait _ t => failWith .mot [] (advance t d)
  | _ => d

/-- CAPTURE_DEADLINE (R58). -/
def execCaptureDeadline (s : State) : Host.Outcome State Fault Refusal := s.act captureDeadline

/-- A run capture's deadline passes: MOT (R158, R161). -/
def runCaptureDeadline (_ : NvStore) (d : Device) : Device :=
  match d.exe.stage with
  | .runWait _ t _ => failWith .mot [] (advance t d)
  | _ => d

/-- RUN_CAPTURE_DEADLINE (R158). -/
def execRunCaptureDeadline (s : State) : Host.Outcome State Fault Refusal := s.act runCaptureDeadline

/-- The axle wait runs out: the record is made without a summary (R141). -/
def axleWaitExpires (nv : NvStore) (d : Device) : Device :=
  match d.exe.stage with
  | .axleWait _ _ t => endAxleWait nv (advance t d)
  | _ => d

/-- AXLE_WAIT_EXPIRES (R141). -/
def execAxleWaitExpires (s : State) : Host.Outcome State Fault Refusal := s.act axleWaitExpires

end Sys2Proof.Machine
end

