-- ==== Sys2Proof/Machine/WriteReports.lean ====
section
/-! DEFINITION. NVC_WRITE_COMPLETE (R185, R186): a write is reported, its source acts on the report as its own rule states, and the
next request starts. -/

namespace Sys2Proof.Machine

/-! ### Replies of commands that end with a write -/

/-- =WG1 (R115). -/
def wg1Fields (v : VisitRec) : List Text :=
  [tNat v.number, v.ref, v.dir.text, tInt v.first.weight, tNat v.first.d, tOpt tNat v.first.counter, tOpt tNat v.first.passage,
    tOpt tTime v.first.time]

/-- =TRS and =TRK (R125, R126). -/
def tareFields (e : TareEntry) (replaced : Bool) : List Text :=
  match e.source with
  | .static => [e.ref, tInt e.tare, tNat e.d, tOpt tNat e.counter, tOpt tTime e.wtime, tOpt tTime e.stored, tNat e.days,
      tFlag replaced tReplaced]
  | .keyed => [e.ref, tInt e.tare, tNat e.d, tOpt tTime e.stored, tNat e.days, tFlag replaced tReplaced]

/-- Every setting in force, item and value (R190, R191). -/
def settingsFields (s : Settings) : List Text := SettingItem.all.flatMap fun i => [i.text, i.value s]

/-- =CCM (R165). -/
def ccmFields (more : Bool) (count : Nat) (d : Device) : List Text :=
  [tNat d.mst.counter, tOpt tTime (d.mst.active.map (·.commitTime)), tOpt tDate d.mst.due, tNat count, tFlag more tMore]

/-- =VCM (R174). -/
def vcmFields (pass : Bool) (number : Nat) (d : Device) : List Text :=
  [passText pass, tNat number, d.mst.state.text, tOpt tDate d.mst.due]

/-! ### AUD reads (R183, R186) -/

/-- A point of a VERIFY record (R179), W by its weight alone (DESIGN CHOICE, log entry 36; unsafe). -/
def pointFields (p : Point) : List Text := [tNat p.x, tInt p.weighing.weight, tInt p.e, tNat p.mpe, passText p.pass]

/-- The fields of a record's kind (R179): a count before the points (log entry 33), and the changed items as one field (log entry 44), are
the model's (DESIGN CHOICE; unsafe). -/
def AuditBody.fields : AuditBody → List Text
  | .calCommit items more =>
    [if items.isEmpty then tAbsent else joinWith ',' (items.map ChangedItem.text), tFlag more tMore]
  | .calDiscard => []
  | .verify points pass => tNat points.length :: points.flatMap pointFields ++ [passText pass]
  | .cellMismatch i e f => [slotText i, tOpt tNat e, tOpt tNat f]
  | .calInvalid => []
  | .torn => []

def auditFields (r : AuditRec) : List Text :=
  [tNat r.number, r.body.kindText, tOpt tTime r.time, tOpt tNat r.counter] ++ r.body.fields

/-- The record of a number in the log's range; a slot that fails its check reads as TORN (R183), with time and counter absent
(DEDUCED, log entry 30; unsafe). -/
def auditEntry (nv : NvStore) (n : Nat) : AuditRec := (nv.auditRec n).getD ⟨n, .torn, none, none⟩

/-- Slots found failing by a read are counted (R188). -/
def countReadFailures (k : Nat) (d : Device) : Device :=
  { d with nvc := { d.nvc with report := { d.nvc.report with readFail := min (d.nvc.report.readFail + k) Config.countCap } } }

/-- A read is made and answered (R183, R188). -/
def answerRead (nv : NvStore) (r : AudRead) (d : Device) : Device :=
  countReadFailures ((r.numbers.filter nv.auditFails).length)
    (answer .aud ((r.numbers.flatMap fun n => auditFields (auditEntry nv n)) ++ (r.next.toList.map tNat)) d)

/-- A held reply goes to the records waiting to be placed: a read is made now. -/
def releaseReply (nv : NvStore) (d : Device) : HeldReply → Device
  | .read r => answerRead nv r d
  | .formed r => joinReplies r d

/-- An audit write is reported: the reads that waited for it are made, and the replies behind them go on, in the order their commands
were taken (R186, R204). -/
def auditReads (nv : NvStore) (d : Device) : Device :=
  d.tx.held.foldl (releaseReply nv) { d with tx := { d.tx with held := [] } }

/-! ### Working images -/

def putVisit (slot : Nat) (v : VisitRec) (d : Device) : Device := { d with txu := { d.txu with visits := nvPut d.txu.visits slot v } }
def eraseVisit (slot : Nat) (d : Device) : Device := { d with txu := { d.txu with visits := nvErase d.txu.visits slot } }

def putTare (slot : Nat) (c : Option TareEntry) (d : Device) : Device :=
  match c with
  | some e => { d with txu := { d.txu with tares := nvPut d.txu.tares slot e } }
  | none => { d with txu := { d.txu with tares := nvErase d.txu.tares slot } }

/-! ### Reports to the long operation -/

/-- TRS, TRK and TRD (R125 to R127). -/
def tareDone (ok : Bool) (slot : Nat) (c : Option TareEntry) (ref : Text) (replaced : Bool) (d : Device) : Device :=
  if ok then
    complete (match c with
      | some e => tareFields e replaced
      | none => [ref]) (putTare slot c d)
  else failWith .nvf [] d

/-- WG1 (R115). -/
def wg1Done (nv : NvStore) (ok : Bool) (slot : Nat) (v : VisitRec) (d : Device) : Device :=
  if ok then requestAttachments nv (complete (wg1Fields v) (putVisit slot v d))
  else requestAttachments nv (failWith .nvf [] (dropAttachment v.number d))

/-- Only a weighing command names the consumed number as detail of its NVF (R142). -/
def nvfDetail (x : Draft) (n : Nat) : List Text :=
  match x.body with
  | .ticket .. => [tNat n]
  | .onepass .. => [tNat n]
  | .gross .. => [tNat n]
  | .void _ => []
  | .cancel .. => []

/-- The owed TORN's write (R135). -/
def owedTornDone (nv nv' : NvStore) (ok : Bool) (x : Draft) (d : Device) : Device :=
  if ok then makeOwn nv' x (raiseJournal nv nv' { d with txu := { d.txu with owedTorn := none } })
  else failWith .nvf [] d

/-- The record's write (R135, R142, R143, R120). -/
def recordDone (nv nv' : NvStore) (ok : Bool) (x : Draft) (rec : JournalRec) (d : Device) : Device :=
  if ok then freeVisitOf nv' x rec (raiseJournal nv nv' d)
  else setStage (.tornAfter x rec.number) (requestJournal (tornRecord rec.number d) d)

/-- The TORN write after a failed record (R135). -/
def tornDone (nv nv' : NvStore) (ok : Bool) (x : Draft) (n : Nat) (d : Device) : Device :=
  if ok then failWith .nvf (nvfDetail x n) (raiseJournal nv nv' d)
  else failWith .nvf (nvfDetail x n) { d with txu := { d.txu with owedTorn := some n } }

/-- A freeing write (R121). -/
def freeingDone (nv : NvStore) (ok : Bool) (x : Draft) (rec : JournalRec) (slot : Nat) (second : Bool) (d : Device) : Device :=
  if ok then requestAttachments nv (complete (recordReply rec) (eraseVisit slot d))
  else if second then requestAttachments nv (failWith .nvf [tNat rec.number] (eraseVisit slot d))
  else requestFree nv x rec slot true d

/-- JEX (R144): a moved E also ends the full state a head repair left (R149). -/
def exportDone (nv : NvStore) (ok : Bool) (n : Nat) (d : Device) : Device :=
  if ok then complete [tNat n, tNat (nv.unexported n)] { d with txu := { d.txu with exportMark := n, fullUntilE := false } }
  else failWith .nvf [] d

/-- SET (R190): the new settings act from this moment (R22, R72). -/
def settingsDone (nv : NvStore) (ok : Bool) (new : Settings) (d : Device) : Device :=
  if ok then
    complete (settingsFields new)
      (timersUnderNewSettings nv (clcNewHold nv { d with nvc := { d.nvc with settings := new } }))
  else failWith .nvf [] d

/-- CCM's audit record (R165 step 1, R166). -/
def ccmAuditDone (nv : NvStore) (ok : Bool) (more : Bool) (count time : Nat) (lockClosed : Bool) (d : Device) : Device :=
  if ok then
    match d.mst.run with
    | some w =>
      let n := d.mst.counter + 1
      setStage (.ccmRecord more count lockClosed)
        (request ⟨.longOp, .calibration (w.toRecord n time)⟩ { d with mst := { d.mst with counter := n } })
    | none => failWith .ses [] d
  else
    let d1 := failWith .nvf [] d
    if lockClosed then discardRun nv d1 else d1

/-- CCM's calibration record (R165 steps 2 to 4, R166). -/
def ccmRecordDone (nv : NvStore) (ok : Bool) (w : NvWrite) (more : Bool) (count : Nat) (lockClosed : Bool) (d : Device) : Device :=
  match ok, w with
  | true, .calibration r => installRecord nv r (setStage (.ccmStatus more count false) d)
  | _, _ =>
    let d1 := failWith .nvf [] (loseRecord nv d)
    if lockClosed then discardRun nv d1 else d1

/-- VCM's audit record (R174 step 2, R175): the run closes with its verdict, also where the record took the last audit number (DEDUCED,
log entry 17; unsafe). -/
def vcmAuditDone (nv : NvStore) (ok : Bool) (pass : Bool) (time number : Nat) (d : Device) : Device :=
  if ok then
    let vint := (d.mst.active.map (·.vint)).getD 0
    let d1 := raise .met { d with mst := { d.mst with
      verif := none
      state := if pass then .calibrated else .suspect
      due := if pass then some (dayOf time + vint) else d.mst.due } }
    requestStatus nv (liveStatus d1) true (setStage (.vcmStatus pass number false) d1)
  else failWith .nvf [] d

/-- A write of the long command in flight is reported (R115 to R174). -/
def longDone (nv nv' : NvStore) (ok : Bool) (w : NvWrite) (d : Device) : Device :=
  match d.exe.stage with
  | .tareWrite _ slot c ref replaced => tareDone ok slot c ref replaced d
  | .wg1Write slot v => wg1Done nv' ok slot v d
  | .owedTorn x => owedTornDone nv nv' ok x (journalEnded w d)
  | .record x rec => recordDone nv nv' ok x rec (journalEnded w d)
  | .tornAfter x n => tornDone nv nv' ok x n (journalEnded w d)
  | .freeing x rec slot second _ => freeingDone nv' ok x rec slot second d
  | .exportWrite n => exportDone nv' ok n d
  | .settingsWrite new => settingsDone nv' ok new d
  | .ccmAudit _ more count time lockClosed => ccmAuditDone nv' ok more count time lockClosed (auditReads nv' d)
  | .ccmRecord more count lockClosed => ccmRecordDone nv' ok w more count lockClosed d
  | .vcmAudit pass time number => vcmAuditDone nv' ok pass time number (auditReads nv' d)
  | _ => d

/-! ### Reports to the other sources -/

/-- The status write CCM or VCM waits for; on its first NVF it is requested once more (R165, R166, R174, R175)
(DEDUCED, log entry 27; unsafe). -/
def longStatusDone (nv : NvStore) (ok : Bool) (d : Device) : Device :=
  match d.exe.stage with
  | .ccmStatus more count second =>
    if ok then complete (ccmFields more count d) d
    else if second then failWith .nvf [tNat d.mst.counter] d
    else requestStatus nv (liveStatus d) true (setStage (.ccmStatus more count true) d)
  | .vcmStatus pass number second =>
    if ok then complete (vcmFields pass number d) d
    else if second then failWith .nvf [passText pass] d
    else requestStatus nv (liveStatus d) true (setStage (.vcmStatus pass number true) d)
  | _ => d

/-- A slot's CELL-MISMATCH append is reported; an owed request is made (R19). -/
def mismatchDone (nv : NvStore) (i : SlotId) (d : Device) : Device :=
  let s := slotOf d i
  let d1 := storeSlot i { s with requested := false } d
  if s.owed then requestMismatch nv i d1 else d1

/-- An attachment write is reported (R118): the working image takes the summary, or the state becomes NONE. -/
def attachDone (nv : NvStore) (ok : Bool) (w : NvWrite) (d : Device) : Device :=
  let d1 := match ok, w with
    | true, .visit slot _ ⟨_, some v⟩ => putVisit slot v d
    | _, _ => d
  requestAttachments nv (releaseFree nv d1)

/-- A start-up freeing write is reported (R111): on its first NVF a second is requested, ahead of the others. -/
def startFreeDone (nv : NvStore) (ok : Bool) (r : FreeReq) (d : Device) : Device :=
  requestAttachments nv
    (if ok || r.second then d else { d with txu := { d.txu with freeHeld := { r with second := true } :: d.txu.freeHeld } })

/-- A report reaches its source. -/
def reportTo (nv nv' : NvStore) (ok : Bool) (r : WriteReq) (d : Device) : Device :=
  match r.source with
  | .longOp => longDone nv nv' ok r.write d
  | .status forLong => let d1 := releaseHeld nv' d; if forLong then longStatusDone nv' ok d1 else d1
  | .discard => releaseHeld nv' (auditReads nv' d)
  | .calInvalid => releaseHeld nv' (auditReads nv' d)
  | .mismatch i => mismatchDone nv' i (auditReads nv' d)
  | .attach _ _ => attachDone nv' ok r.write d
  | .freeVisit slot second => startFreeDone nv' ok ⟨true, slot, second⟩ d
  | .freeTare slot second => startFreeDone nv' ok ⟨false, slot, second⟩ d

/-- The counts of the error report (R188). -/
def countWrite (ok : Bool) (r : ErrorReport) : ErrorReport :=
  if ok then { r with passed := bump r.passed } else { r with nvf := bump r.nvf }

/-- The write in progress ends: it passes when the target agrees, else NVF; its source is told and the next request starts
(R185, R186). -/
def writeComplete (ok : Bool) (nv : NvStore) (d : Device) : NvStore × Device :=
  match d.nvc.writing with
  | some r =>
    if running d then
      let nv' := nv.land ok r.write
      (nv', startWrite (reportTo nv nv' ok r
        { d with nvc := { d.nvc with writing := none, report := countWrite ok d.nvc.report } }))
    else (nv, d)
  | none => (nv, d)

/-- NVC_WRITE_COMPLETE (R185). -/
def execNvcWriteComplete (agrees : Bool) (s : State) : Host.Outcome State Fault Refusal := s.actNv (writeComplete agrees)

end Sys2Proof.Machine
end

