-- ==== Sys2Proof/Machine/Reads.lean ====
section
/-! DEFINITION. The immediate commands that read the part's state, and the subjects the notices carry (R23, R41, R54, R81, R84, R122,
R128, R145, R183, R184, R188, R191, R195, R201, R207). -/

namespace Sys2Proof.Machine

/-- A command that takes no field: any field is refused RNG. -/
def noFields (t : Tag) (fields : List Text) (go : Device → Device) (d : Device) : Device :=
  match fields with
  | [] => go d
  | _ => refuse t .rng d

/-! ### WTR and STA -/

/-- The weight or its marker (R38). -/
def weightField (wr : Option WeightRecord) : Text :=
  match wr with
  | none => tDashes
  | some r => match r.wstate with
    | .invalid => tDashes
    | .over => tOver
    | .under => tUnder
    | .normal => tOpt tInt r.w

def marksField (wr : Option WeightRecord) : Text :=
  match wr with
  | none => tAbsent
  | some r => tSet [(r.held, ['C', 'E', 'L', 'L', '-', 'H', 'E', 'L', 'D']), (r.clamped, ['C', 'L', 'A', 'M', 'P', 'E', 'D']),
      (r.zeroCentre, ['Z', 'E', 'R', 'O', '-', 'C', 'E', 'N', 'T', 'R', 'E'])]

def stateField (wr : Option WeightRecord) : Text := WeightState.text ((wr.map WeightRecord.wstate).getD .invalid)

def stableField (wr : Option WeightRecord) : Text := if (wr.map (·.stable)).getD false then tStable else tMotion

def zeroField (d : Device) : Text := if d.zsu.set then tSetWord else tUnset

def indexField (wr : Option WeightRecord) : Text := tOpt (fun r => tNat r.index.toNat) wr

/-- The =WTR fields without G (R41, R207). -/
def wtrFields (d : Device) : List Text :=
  let wr := d.csu.newest
  [indexField wr, stateField wr, weightField wr, marksField wr, zeroField d, stableField wr]

def moduleField (m : Option ModuleLoad) : Text :=
  match m with
  | none => tAbsent
  | some x => match x.load with
    | some w => tHundredths w
    | none => tDashes

/-- The fields G adds (R41) (DESIGN CHOICE, log entry 36; unsafe: before the first weight record every module load is sent as
absent, though the record's modules exist). -/
def wtrGFields (d : Device) : List Text :=
  match d.csu.newest with
  | some r =>
    (match r.g with
      | some g => tHundredths g
      | none => tDashes) :: Ix.all.map fun m => moduleField (r.modules.get m)
  | none => tDashes :: Ix.all.map fun _ => tAbsent

def doWtr (fields : List Text) (_ : NvStore) (d : Device) : Device :=
  if fields = [] then answer .wtr (wtrFields d) d
  else if fields = [tG] then answer .wtr (wtrFields d ++ wtrGFields d) d
  else refuse .wtr .rng d

/-- WTR (R41). -/
def execWtr (fields : List Text) (s : State) : Host.Outcome State Fault Refusal := s.act (command .wtr (doWtr fields))

/-- The metrology state read: CALIBRATING while a run is open (R152). -/
def metRead (d : Device) : Text := if runOpen d then tCalibrating else d.mst.state.text

/-- The =STA fields (R201, R207). -/
def staFields (d : Device) : List Text :=
  let wr := d.csu.newest
  [indexField wr, stateField wr, weightField wr, marksField wr, stableField wr, zeroField d, tOpt tHundredths d.zsu.z,
    tOpt tHundredths d.zsu.zInit, tFlag d.zsu.trackLimit tTrackLimit, tOpt tHundredths d.zsu.b1, d.lsv.lane.text,
    tOpt (fun p => tNat p.number) d.lsv.current, metRead d, tOpt tagText d.exe.slot,
    match d.nvc.clock with
    | some t => tTime t
    | none => tUnset]

def doSta (fields : List Text) (_ : NvStore) (d : Device) : Device :=
  noFields .sta fields (fun d => answer .sta (staFields d) d) d

/-- STA (R201). -/
def execSta (fields : List Text) (s : State) : Host.Outcome State Fault Refusal := s.act (command .sta (doSta fields))

/-! ### CEL -/

/-- A slot as =CEL reports it (R23) (DEDUCED, log entry 9; unsafe), without its name and with temperatures in 0.1 °C (DESIGN CHOICE, log
entry 54; unsafe). -/
def slotFields (d : Device) (i : SlotId) : List Text :=
  let s := slotOf d i
  [s.state.text, tNat s.hold, tOpt SlotOutcome.text s.lastOutcome, tOpt tInt s.lastRaw, tOpt StatusFlags.text s.lastFlags,
    tOpt tNat (expectedSerial d i), tOpt tNat s.serialLow, tOpt tNat s.serialHigh, tOpt tInt s.lastTemp, tOpt tInt s.tempInUse,
    tOpt tNat s.diag, tNat s.nBad, tNat s.nSilent, tNat s.nLate, tNat s.nStale,
    if s.state = .faulted then tNat s.run else tAbsent]

def lineFields (d : Device) : List Text := Ix.all.map fun l => (lineOf d l).status.text

def allSlotFields (d : Device) : List Text := SlotId.all.flatMap (slotFields d) ++ lineFields d

/-- Every error count becomes 0 (R23). -/
def clearCounts (d : Device) : Device :=
  { d with clc := { d.clc with slots := Slots.tab fun i => { slotOf d i with nBad := 0, nSilent := 0, nLate := 0, nStale := 0 } } }

/-- (DESIGN CHOICE, log entry 36; unsafe: the reply to CLR carries the lines' statuses as the plain form does.) -/
def doCel (fields : List Text) (_ : NvStore) (d : Device) : Device :=
  match fields with
  | [] => answer .cel (allSlotFields d) d
  | [f] =>
    if f = tClr then clearCounts (answer .cel (allSlotFields d) d)
    else match readSlot f with
      | some i => answer .cel (slotFields d i) d
      | none => refuse .cel .rng d
  | _ => refuse .cel .rng d

/-- CEL (R23). -/
def execCel (fields : List Text) (s : State) : Host.Outcome State Fault Refusal := s.act (command .cel (doCel fields))

/-- The !CEL subject (R23): the lines, then the slots. -/
def celNotice (d : Device) : List Text := lineFields d ++ SlotId.all.map fun i => (slotOf d i).state.text

/-! ### PAS and the lane notices -/

def axleFields (a : Axle) : List Text :=
  [tNat a.number, tNat a.tA, tNat a.tB,
    match a.speed with
    | some v => tInt (roundDiv (1000 * v.cm) v.ms)
    | none => Spacing.text .unknown,
    a.spacing.text, tOpt tNat a.tC, a.load.text]

/-- A set of axle numbers, as a flag set is sent (DESIGN CHOICE, log entry 44; unsafe: R207 gives no form for a set of numbers). -/
def tNumbers (l : List Nat) : Text := if l.isEmpty then tAbsent else joinWith ',' (l.map tNat)

def intervalFields (iv : Interval) : List Text :=
  [tNat iv.number, tNumbers iv.axles, tNat iv.start, tOpt tNat iv.stop, tOpt (fun i => tNat i.toNat) iv.first,
    tOpt (fun i => tNat i.toNat) iv.last, tNat iv.count, tNat iv.usable, iv.usability.text, tOpt tHundredths iv.mean] ++
    iv.outcome.text

/-- A group record, field by field in the order of its table (section 5.6, R207). -/
def groupFields (g : Group) : List Text :=
  [tNat g.number, g.kind.text, tNumbers g.axles, g.load.text, tNat g.limit, tOpt tInt g.excess, g.verdict.text]

/-- The axle gross rounded to the passage division (R104). -/
def grossField (p : Passage) : Text := tOpt (fun g => tInt (roundToDivision (p.division.getD 1) g)) p.axleGross

/-- A passage in short (R81); its open and close times are the clock readings, without the instants of those fields (DESIGN CHOICE, log
entry 36; unsafe). -/
def passageShort (p : Passage) : List Text :=
  [tNat p.number, p.cause.text, tOpt CloseCause.text p.closeCause, tOpt tTime p.openTime, tOpt tTime p.closeTime, p.flags.text,
    tNat p.ring.length, tOpt AxleResult.text p.result]

/-- A passage in full, in the order of R81 and R207: the record, the owed mark, and the three lists (DESIGN CHOICE, log entry 33;
unsafe: R81 names no count, and without one the lists could not be told apart; the model puts a count before each list of variable
length). The word OWED of the mark is the model's (DESIGN CHOICE, log entry 47; unsafe). -/
def passageFull (p : Passage) : List Text :=
  [tNat p.number, p.cause.text, tOpt tTime p.openTime, tNat p.openAt, tOpt tTime p.closeTime, tOpt tNat p.closeAt,
    tOpt CloseCause.text p.closeCause, p.flags.text, tNat p.ring.length] ++ p.ring.map Weighing.text ++
    [grossField p, tOpt AxleResult.text p.result, tFlag p.owedMark tOwed] ++
    [tNat p.axles.length] ++ p.axles.flatMap axleFields ++ [tNat p.intervals.length] ++ p.intervals.flatMap intervalFields ++
    [tNat p.groups.length] ++ p.groups.flatMap groupFields

/-- The passages held: the current one, then the history from newest to oldest. -/
def passagesHeld (d : Device) : List Passage := d.lsv.current.toList ++ d.lsv.history.reverse

def doPas (fields : List Text) (_ : NvStore) (d : Device) : Device :=
  match fields with
  | [] =>
    answer .pas ([d.lsv.lane.text, tOpt (fun p => tNat p.number) d.lsv.current] ++ (passagesHeld d).flatMap passageShort) d
  | [f] =>
    match readRange 1 65535 f with
    | some n =>
      match (passagesHeld d).find? fun p => p.number == n with
      | some p => answer .pas (passageFull p) d
      | none => refuse .pas .rng d
    | none => refuse .pas .rng d
  | _ => refuse .pas .rng d

/-- PAS (R81). -/
def execPas (fields : List Text) (s : State) : Host.Outcome State Fault Refusal := s.act (command .pas (doPas fields))

def lightFields (d : Device) : List Text :=
  [d.lsv.modeIn.text, tLight d.lsv.greenIn, d.lsv.modeOut.text, tLight d.lsv.greenOut]

/-- The !LNE subject (R84). -/
def lneNotice (d : Device) : List Text :=
  [d.lsv.lane.text, tOpt (fun p => tNat p.number) d.lsv.current, tBeam d.lsv.beamIn.state, tBeam d.lsv.beamOut.state] ++
    lightFields d

/-- The !AXL subject (R76, R205, R207): the newest closed passage in the history. -/
def axlNotice (d : Device) : List Text :=
  match d.lsv.history.getLast? with
  | some p =>
    [tNat p.number, p.cause.text, tOpt CloseCause.text p.closeCause, tOpt tTime p.openTime, tOpt tTime p.closeTime,
      tOpt AxleResult.text p.result, tNat p.axles.length, tNat p.counted, grossField p, p.flags.text, tNat p.ring.length,
      tNat p.groups.length] ++ p.groups.map fun g => g.entry.text
  | none => []

/-! ### VIS (R122, R123) -/

/-- The age of a visit in seconds, absent while the clock is UNSET (R123); a visit with no opened time has none, and is not stale (DESIGN
CHOICE, log entry 45; unsafe). -/
def visitAge (d : Device) (v : VisitRec) : Option Int :=
  match d.nvc.clock, v.opened with
  | some t, some o => some ((t : Int) - o)
  | _, _ => none

/-- The stale mark: the age exceeds the stale age in force (R123). -/
def visitStale (d : Device) (v : VisitRec) : Option Bool :=
  (visitAge d v).map fun a => decide (a > ((d.nvc.settings.stale * 3600 : Nat) : Int))

/-- The stale mark, by that word (DESIGN CHOICE, log entry 47; unsafe). -/
def staleField (m : Option Bool) : Text := tFlag (m.getD false) tStale

def attachmentText : Attachment → Text
  | .awaiting => ['A', 'W', 'A', 'I', 'T', 'I', 'N', 'G']
  | .owed => tOwed
  | .attached => ['A', 'T', 'T', 'A', 'C', 'H', 'E', 'D']
  | .none => tNone

/-- The axle summary of a visit in the order of R119: group entries, result, flags. The count before the entries is the model's
(DESIGN CHOICE, log entry 33; unsafe). -/
def visitSummaryFields : Option Summary → List Text
  | none => [tNat 0, tAbsent, tAbsent]
  | some s => [tNat s.groups.length] ++ s.groups.map GroupEntry.text ++ [s.result.text, s.flags.text]

/-- A visit in full (R122, R207) (DESIGN CHOICE, log entry 36; unsafe: an age below 0 is given in whole hours truncated toward 0). -/
def visitFull (d : Device) (v : VisitRec) : List Text :=
  [tNat v.number, v.ref, v.dir.text, tOpt tTime v.opened, v.first.text, attachmentText (attachmentOf d v)] ++
    visitSummaryFields (visitSummary d v) ++ [tOpt (fun a => tInt (Int.tdiv a 3600)) (visitAge d v), staleField (visitStale d v)]

/-- The open visits in increasing number. -/
def visitsByNumber (d : Device) : List VisitRec := sortBy (fun a b => decide (a.number < b.number)) (visitsOf d)

/-- The list reply from a number on (R122) (DESIGN CHOICE, log entry 36; unsafe: the count of stale visits is absent while the clock
is UNSET, as their marks are, and the last field is left out when no visit remains). -/
def visitList (d : Device) (n : Nat) : List Text :=
  let vs := (visitsByNumber d).filter fun v => n ≤ v.number
  let stale := if d.nvc.clock.isSome then tNat ((visitsOf d).filter fun v => visitStale d v == some true).length else tAbsent
  [tNat (visitsOf d).length, stale] ++
    ((vs.take Config.listPage).flatMap fun v => [tNat v.number, v.ref, staleField (visitStale d v)]) ++
    ((vs.drop Config.listPage).take 1).map fun v => tNat v.number

def doVis (fields : List Text) (_ : NvStore) (d : Device) : Device :=
  match fields with
  | [] => answer .vis (visitList d 1) d
  | [key, f] =>
    if key = tList then
      match readRange 1 65535 f with
      | some n => answer .vis (visitList d n) d
      | none => refuse .vis .rng d
    else if key = tNum then
      match readRange 1 65535 f with
      | some n => match findVisit d n with
        | some (_, v) => answer .vis (visitFull d v) d
        | none => refuse .vis .vnf d
      | none => refuse .vis .rng d
    else if key = tRef then
      match readRef f with
      | some r => match findVisitRef d r with
        | some (_, v) => answer .vis (visitFull d v) d
        | none => refuse .vis .vnf d
      | none => refuse .vis .rng d
    else refuse .vis .rng d
  | _ => refuse .vis .rng d

/-- VIS (R122). -/
def execVis (fields : List Text) (s : State) : Host.Outcome State Fault Refusal := s.act (command .vis (doVis fields))

/-! ### TRL (R124, R128) -/

/-- The moment a tare expires (R124); an absent stored time counts as the clock's first (DESIGN CHOICE, log entry 45; unsafe). -/
def tareExpiry (t : TareEntry) : Nat := t.stored.getD 0 + t.days * Config.daySeconds

/-- Expired when the clock is at or after that moment; absent while the clock is UNSET (R124). -/
def tareExpired (d : Device) (t : TareEntry) : Option Bool := d.nvc.clock.map fun c => decide (tareExpiry t ≤ c)

/-- The expired mark, by that word (DESIGN CHOICE, log entry 47; unsafe). -/
def expiredField (m : Option Bool) : Text := tFlag (m.getD false) tExpired

def taresByRef (d : Device) : List TareEntry := sortBy (fun a b => refLt a.ref b.ref) (taresOf d)

/-- The list reply from the first reference that is r or sorts after it (R128) (DESIGN CHOICE, log entry 36; unsafe: the count of
expired entries is absent while the clock is UNSET, as their marks are, and the last field is left out when none remains). -/
def tareList (d : Device) (r : Text) : List Text :=
  let ts := (taresByRef d).filter fun t => !refLt t.ref r
  let expired := if d.nvc.clock.isSome then tNat ((taresOf d).filter fun t => tareExpired d t == some true).length else tAbsent
  [tNat (taresOf d).length, expired] ++
    ((ts.take Config.listPage).flatMap fun t => [t.ref, tInt t.tare, t.source.word, expiredField (tareExpired d t)]) ++
    ((ts.drop Config.listPage).take 1).map fun t => t.ref

/-- An entry in full (R128). -/
def tareFull (d : Device) (t : TareEntry) : List Text :=
  [t.ref, tInt t.tare, t.source.word, tNat t.d, tOpt tNat t.counter, tOpt tTime t.wtime, tOpt tTime t.stored, tNat t.days,
    tTime (tareExpiry t), expiredField (tareExpired d t)]

def doTrl (fields : List Text) (_ : NvStore) (d : Device) : Device :=
  match fields with
  | [] => answer .trl (tareList d []) d
  | [key, f] =>
    match readRef f with
    | none => refuse .trl .rng d
    | some r =>
      if key = tList then answer .trl (tareList d r) d
      else if key = tRef then
        match findTare d r with
        | some (_, t) => answer .trl (tareFull d t) d
        | none => refuse .trl .tnf d
      else refuse .trl .rng d
  | _ => refuse .trl .rng d

/-- TRL (R128). -/
def execTrl (fields : List Text) (s : State) : Host.Outcome State Fault Refusal := s.act (command .trl (doTrl fields))

/-! ### JST (R145) -/

/-- The number the next record will take: the one after a record being written, whose number stays consumed, else the next of the
journal (R134, R145) (DESIGN CHOICE, log entry 36; unsafe: once 9,999,999 is given it shows 10,000,000, the number after it). -/
def nextRecordNumber (nv : NvStore) (d : Device) : Nat :=
  match d.exe.stage with
  | .record _ rec => rec.number + 1
  | .tornAfter _ n => n + 1
  | _ => nv.nextTicket d.txu.owedTorn

/-- The =JST fields, and the !JRN subject. -/
def jstFields (nv : NvStore) (d : Device) : List Text :=
  [tOpt tNat nv.oldest, tOpt tNat nv.newest, tNat d.txu.exportMark, tNat (nv.unexported d.txu.exportMark),
    tNat (nextRecordNumber nv d), tOpt tNat d.txu.owedTorn, tFlag (journalFull nv d) tFull]

def doJst (fields : List Text) (nv : NvStore) (d : Device) : Device :=
  noFields .jst fields (fun d => answer .jst (jstFields nv d) d) d

/-- JST (R145). -/
def execJst (fields : List Text) (s : State) : Host.Outcome State Fault Refusal := s.act (command .jst (doJst fields))

/-! ### AUD (R183) -/

/-- The numbers from a up to b. -/
def numbersFrom (a b : Nat) : List Nat := (List.range (b + 1 - a)).map (a + ·)

/-- A record of the page is the target of the audit write in progress (R186). -/
def pageBusy (nv : NvStore) (page : List Nat) (d : Device) : Bool :=
  match d.nvc.writing with
  | some ⟨_, .audit slot _⟩ => page.any fun n => slotOfAudit nv.audit n == some slot
  | _ => false

/-- A range read: at most 16 records, then the number of the next when more remain (R183). A read of a record whose write is in
progress waits for its report, and so do the replies of commands taken after it (R186, R204), which still go before notices and the long
operation's records (`repliesWait`); its numbers are those of the moment it is taken (DESIGN CHOICE, log entry 31; unsafe). -/
def audRange (nv : NvStore) (a b : Nat) (d : Device) : Device :=
  match nv.auditOldest, nv.auditNewest with
  | some lo, some hi =>
    if a < lo ∨ a > hi then refuse .aud .rng d
    else
      let ns := numbersFrom a (min b hi)
      let read : AudRead := ⟨ns.take Config.audPage, ns[Config.audPage]?⟩
      if pageBusy nv read.numbers d then { d with tx := { d.tx with held := d.tx.held ++ [.read read] } }
      else answerRead nv read d
  | _, _ => refuse .aud .rng d

def doAud (fields : List Text) (nv : NvStore) (d : Device) : Device :=
  match fields with
  | [] =>
    answer .aud [tOpt tNat nv.auditOldest, tOpt tNat nv.auditNewest,
      match d.auu.next with
      | some n => tNat n
      | none => tExhausted, tNat nv.audits.length] d
  | [fa] =>
    match readRange 1 Config.ticketCap fa with
    | some a => audRange nv a Config.ticketCap d
    | none => refuse .aud .rng d
  | [fa, fb] =>
    match readRange 1 Config.ticketCap fa, readRange 1 Config.ticketCap fb with
    | some a, some b => if b < a then refuse .aud .rng d else audRange nv a b d
    | _, _ => refuse .aud .rng d
  | _ => refuse .aud .rng d

/-- AUD (R183). -/
def execAud (fields : List Text) (s : State) : Host.Outcome State Fault Refusal := s.act (command .aud (doAud fields))

/-! ### MST (R184) -/

/-- The calibration step in flight: CZE, CSP or CCM; one that has ended is not, though its ending record still keeps the slot (R156, R167,
R184, R202), while a CCM whose commit is installed is, until its status write has ended (DEDUCED, log entry 30; unsafe). -/
def runStep (d : Device) : Option Tag :=
  match d.exe.stage, d.exe.slot with
  | .ended, _ => none
  | _, some .cze => some .cze
  | _, some .csp => some .csp
  | _, some .ccm => some .ccm
  | _, _ => none

/-- A verification point is in flight (R172). -/
def pointInFlight (d : Device) : Bool :=
  match d.exe.stage with
  | .capWait (.vpt _) _ => true
  | _ => false

/-- Whole days remaining until the due date, negative when overdue (R184). -/
def daysLeft (d : Device) : Option Int :=
  match d.mst.due, d.nvc.clock with
  | some due, some t => some ((due : Int) - dayOf t)
  | _, _ => none

/-- The =MST fields, and the !MET subject (R184); the words of an owed discard audit and of a point in flight (log entry 47), and the
point count 0 without a run and the counter sent also without an active record (log entry 36), are the model's (DESIGN CHOICE; unsafe). -/
def mstFields (d : Device) : List Text :=
  [metRead d, if runOpen d then d.mst.state.text else tAbsent, tOpt tDate d.mst.due, tOpt tInt (daysLeft d), tNat d.mst.counter,
    tOpt tTime (d.mst.active.map (·.commitTime)), tLock d.mst.lock.state, if runOpen d then tOpen else tNone,
    tOpt tagText (runStep d), tFlag (discardOwed d) tOwed, if verifOpen d then tOpen else tNone,
    tNat ((d.mst.verif.map (·.length)).getD 0), tFlag (pointInFlight d) (tagText .vpt), tFlag d.auu.next.isNone tExhausted]

def doMst (fields : List Text) (_ : NvStore) (d : Device) : Device :=
  noFields .mst fields (fun d => answer .mst (mstFields d) d) d

/-- MST (R184). -/
def execMst (fields : List Text) (s : State) : Host.Outcome State Fault Refusal := s.act (command .mst (doMst fields))

/-! ### GET and GET NVC (R188, R191) -/

def doGet (fields : List Text) (_ : NvStore) (d : Device) : Device :=
  match fields with
  | [] => answer .get (settingsFields d.nvc.settings) d
  | [f] =>
    match readSettingItem f with
    | some i => answer .get [i.text, i.value d.nvc.settings] d
    | none => refuse .get .rng d
  | _ => refuse .get .rng d

/-- GET (R191): the fields are an item or none. -/
def execGet (fields : List Text) (s : State) : Host.Outcome State Fault Refusal := s.act (command .get (doGet fields))

/-- The source share of a write in progress (R188), by these words (DESIGN CHOICE, log entry 47; unsafe). -/
def Share.text : Share → Text
  | .longOp => ['L', 'O', 'N', 'G']
  | .status => ['S', 'T', 'A', 'T', 'U', 'S']
  | .mismatch => SlotState.text .mismatch
  | .attach => ['A', 'T', 'T', 'A', 'C', 'H']

/-- The error report (R188); FAIL for a settings record that failed its check is the model's word (log entry 47), and the place of the count
of blank targets, after the scan failures, its choice (log entry 53) (DESIGN CHOICE; unsafe). -/
def nvcFields (d : Device) : List Text :=
  let r := d.nvc.report
  [tNat r.passed, tNat r.nvf, tNat r.readFail, tNat r.scanFail, tNat r.blank, tNat r.high, tNat d.nvc.queue.length,
    tOpt (fun w => Share.text w.source.share) d.nvc.writing, tFlag d.nvc.settingsFailed tFail]

/-- The counts become 0, the high-water mark the requests now outstanding (R188). -/
def clearReport (d : Device) : Device :=
  { d with nvc := { d.nvc with report := ⟨0, 0, 0, 0, 0, (outstanding d).length⟩ } }

def doGetNvc (fields : List Text) (_ : NvStore) (d : Device) : Device :=
  if fields = [] then answer .get (nvcFields d) d
  else if fields = [tClr] then clearReport (answer .get (nvcFields d) d)
  else refuse .get .rng d

/-- GET NVC (R188): the fields that follow NVC. -/
def execGetNvc (fields : List Text) (s : State) : Host.Outcome State Fault Refusal := s.act (command .get (doGetNvc fields))

/-! ### The READY report (R195) -/

/-- A head repair in READY (R195); an owed number is OWED/n (DESIGN CHOICE, log entry 47; unsafe). -/
def HeadRepair.text : HeadRepair → Text
  | .none => tNone
  | .written n => tNat n
  | .owed n => tOwed ++ ['/'] ++ tNat n

def FoundCal.text : FoundCal → Text
  | .valid => tValid
  | .invalid => tInvalid
  | .blank => ['B', 'L', 'A', 'N', 'K']

def sysNotice (d : Device) : List Text :=
  let r := d.nvc.ready
  [tReady, match r.cause with
    | .power => ['P', 'O', 'W', 'E', 'R']
    | .reset => ['R', 'E', 'S', 'E', 'T'],
    match r.clock with
    | some t => tTime t
    | none => tUnset,
    if r.settingsValid then tValid else tDefault, r.calibration.text, tNat r.counter, r.state.text, r.journalRepair.text,
    r.auditRepair.text, tNat r.openVisits, tNat r.dropped, tNat r.freed, tNat r.tares, tNat r.scanFail]

/-- What a notice carries at emission (section 11.5). -/
def noticeFields (nv : NvStore) (d : Device) : Notice → List Text
  | .sys => sysNotice d
  | .met => mstFields d
  | .cel => celNotice d
  | .lne => lneNotice d
  | .axl => axlNotice d
  | .jrn => jstFields nv d

end Sys2Proof.Machine
end

