-- ==== Sys2Proof/Machine/Commands.lean ====
section
/-! DEFINITION. The immediate commands that change the part's state: CLK, LIT, NTE, ABT, COP, CPA, CDX and VOP (R83, R155, R156,
R167, R170, R192, R203, R206). -/

namespace Sys2Proof.Machine

/-! ### CLK (R192) -/

def clockField (d : Device) : Text :=
  match d.nvc.clock with
  | some t => tTime t
  | none => tUnset

/-- The clock takes a reading; the due date is compared at that moment (R177, R192). -/
def setClock (nv : NvStore) (t : Nat) (d : Device) : Device := checkOverdue nv { d with nvc := { d.nvc with clock := some t } }

def doClk (fields : List Text) (nv : NvStore) (d : Device) : Device :=
  match fields with
  | [] => answer .clk [clockField d] d
  | [f] =>
    match readTime f with
    | some t => setClock nv t (answer .clk [tTime t] d)
    | none => refuse .clk .rng d
  | _ => refuse .clk .rng d

/-- CLK (R192). -/
def execClk (fields : List Text) (s : State) : Host.Outcome State Fault Refusal := s.act (command .clk (doClk fields))

/-! ### LIT (R83) -/

def readMode (t : Text) : Option LightMode :=
  if t = tAuto then some .auto
  else if t = tRed then some .forceRed
  else if t = tGreen then some .forceGreen
  else none

/-- =LIT, with the outputs as the modes and conditions now give them. -/
def answerLights (d : Device) : Device := answer .lit (lightFields (refreshLights d)) d

def doLit (fields : List Text) (_ : NvStore) (d : Device) : Device :=
  match fields with
  | [] => answerLights d
  | [light, f] =>
    match readMode f with
    | some m =>
      if light = tIn then answerLights { d with lsv := { d.lsv with modeIn := m } }
      else if light = tOut then answerLights { d with lsv := { d.lsv with modeOut := m } }
      else refuse .lit .rng d
    | none => refuse .lit .rng d
  | _ => refuse .lit .rng d

/-- LIT (R83). -/
def execLit (fields : List Text) (s : State) : Host.Outcome State Fault Refusal := s.act (command .lit (doLit fields))

/-! ### NTE (R206) -/

/-- A class NTE can set: every class but SYS. -/
def readClass (t : Text) : Option Notice := [Notice.met, .cel, .lne, .axl, .jrn].find? fun c => c.text == t

def readSwitch (t : Text) : Option Bool := if t = tOn then some true else if t = tOff then some false else none

/-- Pairs of a class and ON or OFF. -/
def readPairs : List Text → Option (List (Notice × Bool))
  | [] => some []
  | [_] => none
  | c :: v :: rest =>
    match readClass c, readSwitch v, readPairs rest with
    | some c, some v, some l => some ((c, v) :: l)
    | _, _, _ => none

/-- A class is set; OFF clears its pending mark, and ON leaves it not pending until it is next raised (R206). -/
def setEnable (n : Ntc) (p : Notice × Bool) : Ntc :=
  { n with enabled := n.enabled.put p.1 p.2, pending := n.pending.put p.1 false }

/-- The =NTE fields: each class with ON or OFF, SYS always ON (R206), and first (DESIGN CHOICE, log entry 36; unsafe). -/
def nteFields (n : Ntc) : List Text :=
  [Notice.sys, .met, .cel, .lne, .axl, .jrn].flatMap fun c => [c.text, if n.enabled.get c then tOn else tOff]

def doNte (fields : List Text) (_ : NvStore) (d : Device) : Device :=
  match readPairs fields with
  | some pairs =>
    let n := pairs.foldl setEnable d.ntc
    answer .nte (nteFields n) { d with ntc := n }
  | none => refuse .nte .rng d

/-- NTE (R206). -/
def execNte (fields : List Text) (s : State) : Host.Outcome State Fault Refusal := s.act (command .nte (doNte fields))

/-! ### ABT (R203) -/

/-- A running stream is to end after the item in progress (R148). -/
def stopStream (d : Device) : Device :=
  match d.exe.stage with
  | .stream st => setStage (.stream { st with stop := true }) d
  | _ => d

/-- The abort reaches the owner of the command in flight: waits end ABT, an axle wait ends without its close, a stream stops, and
writes go on (R51, R58, R141, R148, R158, R161). -/
def abort (nv : NvStore) (d : Device) : Device :=
  match d.exe.stage with
  | .zerWait _ => failWith .abt [] d
  | .capWait _ _ => failWith .abt [] d
  | .runWait _ _ _ => failWith .abt [] d
  | .axleWait _ _ _ => endAxleWait nv d
  | .stream _ => stopStream d
  | _ => d

def doAbt (fields : List Text) (nv : NvStore) (d : Device) : Device :=
  noFields .abt fields (fun d =>
    match d.exe.slot with
    | some t => abort nv (answer .abt [tagText t] d)
    | none => answer .abt [tIdle] d) d

/-- ABT (R203). -/
def execAbt (fields : List Text) (s : State) : Host.Outcome State Fault Refusal := s.act (command .abt (doAbt fields))

/-! ### COP (R155) -/

/-- A ZER wait ends CAL when a calibration run opens (R51). -/
def runEndsZer (d : Device) : Device :=
  match d.exe.stage with
  | .zerWait _ => failWith .cal [] d
  | _ => d

/-- The working copy a run opens with: the active record, or the defaults. -/
def openingCopy (d : Device) : WorkCopy :=
  match d.mst.active with
  | some r => WorkCopy.ofActive r
  | none => WorkCopy.fresh

/-- The run opens: working copy, MET, the end of a ZER wait (R155). -/
def openRun (d : Device) : Device := runEndsZer (raise .met (setWork (openingCopy d) d))

def copChecks (fields : List Text) (d : Device) : List (Bool × Code) :=
  [(fields.isEmpty, .rng), (d.mst.lock.state, .lck), (d.lsv.lane == .clear || d.lsv.lane == .init, .lan),
    (!runOpen d && !verifOpen d, .ses), (!discardOwed d, .bsy), (decide (d.mst.counter < Config.numberCap), .rng)]

/-- (DESIGN CHOICE, log entry 36; unsafe: the word for a copy of the defaults is DEFAULT; R155 gives none.) -/
def doCop (fields : List Text) (_ : NvStore) (d : Device) : Device :=
  guarded .cop (copChecks fields d)
    (fun d => openRun (answer .cop [tNat d.mst.counter, if d.mst.active.isSome then tActive else tDefault] d)) d

/-- COP (R155). -/
def execCop (fields : List Text) (s : State) : Host.Outcome State Fault Refusal := s.act (command .cop (doCop fields))

/-! ### CPA (R156) -/

def tYesNo (b : Bool) : Text := if b then tYes else tNo

/-- The value of a record-wide item as =CPA reports it. -/
def WorkCopy.itemText (w : WorkCopy) : RecordItem → Text
  | .max => tOpt tNat w.max
  | .div => tOpt tNat w.d
  | .per => tNat w.p
  | .flt => tNat w.n
  | .win => tNat w.window
  | .band => tNat w.band
  | .vint => tNat w.vint
  | .zcal => tOpt tInt w.zcal

/-- A record-wide item set to a value; none for a value out of range. -/
def WorkCopy.setItem (w : WorkCopy) (t : Text) : RecordItem → Option WorkCopy
  | .max => (readRange 500 150000 t).map fun v => { w with max := some v }
  | .div =>
    match readNat t with
    | some v => if isDivision v then some { w with d := some v } else none
    | none => none
  | .per =>
    match readNat t with
    | some v => if isPeriod v then some { w with p := v } else none
    | none => none
  | .flt => (readRange 1 32 t).map fun v => { w with n := v }
  | .win => (readRange 200 3000 t).map fun v => { w with window := v }
  | .band => (readRange 1 6 t).map fun v => { w with band := v }
  | .vint => (readRange 30 730 t).map fun v => { w with vint := v }
  | .zcal => none

/-- The capture marks of a slot, by the words ZERO and SPAN (R156) (DESIGN CHOICE, log entry 47; unsafe). -/
def marksText (m : SlotMarks) : Text :=
  tSet [(m.zeroCaptured, ['Z', 'E', 'R', 'O']), (m.spanCaptured, SlotItem.text .span)]

/-- Lcell or Lref, both whole kilograms, as the link gives weights (section 4.1 of 00). -/
def kgText (fine : Option Nat) : Text := tOpt (fun l => tNat (l / 100)) fine

/-- A slot with all its fields and its capture marks. -/
def workSlotFields (w : WorkCopy) (i : SlotId) : List Text :=
  let c := w.slots.sel i
  [slotText i, tYesNo c.configured, kgText c.lcell, tInt c.k, tOpt tInt c.z, tOpt tInt c.tcal, tOpt tNat c.s, kgText c.lref,
    tOpt tNat c.serial, marksText (w.marks.sel i)]

/-- Zcal follows a change of CFG or LCEL while the run holds a zero capture, and is kept as copied otherwise (R160). -/
def settleZero (w : WorkCopy) : WorkCopy := if w.holdsZero then reformZero w else { w with zcal := w.copied }

/-- CFG NO clears the slot's marks and zero mean; CFG YES restores the active record's fields, or leaves a new slot with k = 0
alone (R156) (DEDUCED, log entry 30; unsafe), the latter also in a run whose active record a failed write dropped (DESIGN CHOICE, log
entry 55; unsafe). -/
def configureSlot (active : Option CalRecord) (yes : Bool) (i : SlotId) (w : WorkCopy) : WorkCopy :=
  let old := (active.map fun r => r.slots.sel i).getD SlotCal.fresh
  let c := if yes then (if old.configured then old else { SlotCal.fresh with configured := true })
    else { w.slots.sel i with configured := false }
  settleZero { w with slots := w.slots.put i c, marks := w.marks.put i SlotMarks.fresh }

/-- Lcell = 100 × value, in fine units. -/
def setLcell (v : Nat) (i : SlotId) (w : WorkCopy) : WorkCopy :=
  settleZero { w with slots := w.slots.put i { w.slots.sel i with lcell := some (100 * v) } }

def setTco (k : Int) (i : SlotId) (w : WorkCopy) : WorkCopy := { w with slots := w.slots.put i { w.slots.sel i with k := k } }

/-- A slot item set to a value, and its text after the command; none for a bad item or value. -/
def setSlotItem (active : Option CalRecord) (i : SlotId) (item : SlotItem) (t : Text) (w : WorkCopy) : Option (WorkCopy × Text) :=
  match item with
  | .cfg =>
    if t = tYes then some (configureSlot active true i w, tYes)
    else if t = tNo then some (configureSlot active false i w, tNo)
    else none
  | .lcel => (readRange 1000 50000 t).map fun v => (setLcell v i w, tNat v)
  | .tco =>
    match readInt t with
    | some k => if -512 ≤ k ∧ k ≤ 511 then some (setTco k i w, tInt k) else none
    | none => none
  | _ => none

/-- CPA with a run open and no step in flight: read an item or a slot, or set an item. -/
def doCpaWork (fields : List Text) (w : WorkCopy) (d : Device) : Device :=
  match fields with
  | [f] =>
    match readRecordItem f, readSlot f with
    | some item, _ => answer .cpa [item.text, w.itemText item] d
    | none, some i => answer .cpa (workSlotFields w i) d
    | none, none => refuse .cpa .rng d
  | [f, v] =>
    match readRecordItem f with
    | some item =>
      match w.setItem v item with
      | some w' => answer .cpa [item.text, w'.itemText item] (setWork w' d)
      | none => refuse .cpa .rng d
    | none => refuse .cpa .rng d
  | [fs, f, v] =>
    match readSlot fs, readSlotItem f with
    | some i, some item =>
      match setSlotItem d.mst.active i item v w with
      | some (w', t) => answer .cpa [slotText i, item.text, t] (setWork w' d)
      | none => refuse .cpa .rng d
    | _, _ => refuse .cpa .rng d
  | _ => refuse .cpa .rng d

def doCpa (fields : List Text) (_ : NvStore) (d : Device) : Device :=
  match d.mst.run with
  | none => refuse .cpa .ses d
  | some w => if (runStep d).isSome then refuse .cpa .bsy d else doCpaWork fields w d

/-- CPA (R156). -/
def execCpa (fields : List Text) (s : State) : Host.Outcome State Fault Refusal := s.act (command .cpa (doCpa fields))

/-! ### CDX (R167) and VOP (R170) -/

def cdxChecks (fields : List Text) (d : Device) : List (Bool × Code) :=
  [(fields.isEmpty, .rng), (runOpen d, .ses), ((runStep d).isNone, .bsy)]

def doCdx (fields : List Text) (nv : NvStore) (d : Device) : Device :=
  guarded .cdx (cdxChecks fields d) (fun d => discardRun nv (answer .cdx [tNat d.mst.counter] d)) d

/-- CDX (R167). -/
def execCdx (fields : List Text) (s : State) : Host.Outcome State Fault Refusal := s.act (command .cdx (doCdx fields))

def vopChecks (fields : List Text) (d : Device) : List (Bool × Code) :=
  [(fields.isEmpty, .rng), (d.exe.slot.isNone, .bsy), (!runOpen d, .cal), (!verifOpen d, .ses), (calibratedOrSuspect d, .unc),
    (d.lsv.lane == .clear || d.lsv.lane == .onDeck, .lan)]

/-- A verification run opens with an empty point list; MET is raised (R170). -/
def openVerification (d : Device) : Device := raise .met { d with mst := { d.mst with verif := some [] } }

def doVop (fields : List Text) (_ : NvStore) (d : Device) : Device :=
  guarded .vop (vopChecks fields d)
    (fun d => openVerification (answer .vop [d.mst.state.text, tOpt tDate d.mst.due, tNat d.mst.counter] d)) d

/-- VOP (R170). -/
def execVop (fields : List Text) (s : State) : Host.Outcome State Fault Refusal := s.act (command .vop (doVop fields))

end Sys2Proof.Machine
end

