-- ==== Sys2Proof/Machine/LongCommands.lean ====
section
/-! DEFINITION. The long commands as they are taken: their checks in order, acceptance, and the wait or the first write they begin
(R50, R56, R114, R120, R125 to R127, R139, R143 to R147, R158, R161, R163, R172, R174, R190). -/

namespace Sys2Proof.Machine

/-! ### ZER (R50) -/

/-- ZER's checks; a field is refused first (DEDUCED, log entry 30; unsafe). -/
def zerChecks (fields : List Text) (d : Device) : List (Bool × Code) :=
  [(fields.isEmpty, .rng), (!runOpen d, .cal), (calibratedOrSuspect d, .unc),
    (d.lsv.lane == .init || d.lsv.lane == .clear, .lan)]

def doZer (fields : List Text) (_ : NvStore) (d : Device) : Device :=
  guarded .zer (zerChecks fields d) (fun d => accept .zer (.zerWait (captureDeadlineFrom d)) d) d

/-- ZER (R50). -/
def execZer (fields : List Text) (s : State) : Host.Outcome State Fault Refusal := s.act (command .zer (doZer fields))

/-! ### Captures (R56) -/

/-- The trade capture's checks. -/
def tradeChecks (d : Device) : List (Bool × Code) :=
  [(!runOpen d, .cal), (calibratedOrSuspect d, .unc), (!verifOpen d, .cal), (d.zsu.set, .zro), (d.lsv.lane == .onDeck, .lan),
    (beamsClear d, .bem)]

/-- The verification point's checks. -/
def pointChecks (d : Device) : List (Bool × Code) :=
  [(!runOpen d, .cal), (calibratedOrSuspect d, .unc), (verifOpen d, .ses), (d.zsu.set, .zro),
    (d.lsv.lane == .clear || d.lsv.lane == .onDeck, .lan), (beamsClear d, .bem)]

/-- A command is accepted and its capture wait begins. -/
def beginCapture (t : Tag) (cmd : CapCmd) (d : Device) : Device := accept t (.capWait cmd (captureDeadlineFrom d)) d

/-! ### Visits and tares (R114, R125 to R127) -/

def clockSet (d : Device) : Bool := d.nvc.clock.isSome

def wg1Checks (ref : Text) (d : Device) : List (Bool × Code) :=
  [((findVisitRef d ref).isNone, .dup), (decide (d.txu.visits.length < Config.visitSlots), .tbl), (clockSet d, .tim)] ++
    tradeChecks d

def doWg1 (fields : List Text) (_ : NvStore) (d : Device) : Device :=
  match fields with
  | [fr, fd] =>
    match readRef fr, readDirection fd with
    | some ref, some dir => guarded .wg1 (wg1Checks ref d) (beginCapture .wg1 (.wg1 ref dir)) d
    | _, _ => refuse .wg1 .rng d
  | _ => refuse .wg1 .rng d

/-- WG1 (R114). -/
def execWg1 (fields : List Text) (s : State) : Host.Outcome State Fault Refusal := s.act (command .wg1 (doWg1 fields))

/-- An entry for the reference is held, or there is room for one more. -/
def tareRoom (d : Device) (ref : Text) : Bool := (findTare d ref).isSome || decide (d.txu.tares.length < Config.tareSlots)

def trsChecks (ref : Text) (d : Device) : List (Bool × Code) := [(tareRoom d ref, .tbl), (clockSet d, .tim)] ++ tradeChecks d

def doTrs (fields : List Text) (_ : NvStore) (d : Device) : Device :=
  match fields with
  | [fr, fd] =>
    match readRef fr, readRange 1 365 fd with
    | some ref, some days => guarded .trs (trsChecks ref d) (beginCapture .trs (.trs ref days)) d
    | _, _ => refuse .trs .rng d
  | _ => refuse .trs .rng d

/-- TRS (R125). -/
def execTrs (fields : List Text) (s : State) : Host.Outcome State Fault Refusal := s.act (command .trs (doTrs fields))

/-- A keyed tare is a whole multiple of d from 0 to Max (R126). -/
def tareFits (d : Device) (t : Int) : Bool :=
  match d.mst.active with
  | some r => decide (0 ≤ t) && decide (t ≤ r.max) && t % (r.d : Int) == 0
  | none => false

def trkChecks (ref : Text) (t : Int) (d : Device) : List (Bool × Code) :=
  [(!runOpen d, .cal), (calibratedOrSuspect d && d.mst.active.isSome, .unc), (tareFits d t, .rng), (tareRoom d ref, .tbl),
    (clockSet d, .tim)]

/-- The entry TRK makes (R126). -/
def keyedTare (ref : Text) (t : Int) (days : Nat) (d : Device) : TareEntry :=
  ⟨ref, t, .keyed, (division d).getD 1, none, none, d.nvc.clock, days⟩

def doTrk (fields : List Text) (nv : NvStore) (d : Device) : Device :=
  match fields with
  | [fr, ft, fd] =>
    match readRef fr, readInt ft, readRange 1 365 fd with
    | some ref, some t, some days =>
      guarded .trk (trkChecks ref t d) (fun d => storeTare nv .trk (keyedTare ref t days d) (accept .trk .none d)) d
    | _, _, _ => refuse .trk .rng d
  | _ => refuse .trk .rng d

/-- TRK (R126). -/
def execTrk (fields : List Text) (s : State) : Host.Outcome State Fault Refusal := s.act (command .trk (doTrk fields))

/-- The entry's slot is to be FREE (R127). -/
def dropTare (nv : NvStore) (slot : Nat) (ref : Text) (d : Device) : Device :=
  setStage (.tareWrite .trd slot none ref false) (request ⟨.longOp, tareWrite nv slot none⟩ d)

def doTrd (fields : List Text) (nv : NvStore) (d : Device) : Device :=
  match fields with
  | [fr] =>
    match readRef fr with
    | some ref =>
      match findTare d ref with
      | some (slot, _) => dropTare nv slot ref (accept .trd .none d)
      | none => refuse .trd .tnf d
    | none => refuse .trd .rng d
  | _ => refuse .trd .rng d

/-- TRD (R127). -/
def execTrd (fields : List Text) (s : State) : Host.Outcome State Fault Refusal := s.act (command .trd (doTrd fields))

/-! ### Commands that make a record (R120, R139, R143) -/

/-- The issue checks that follow the fields. -/
def issueChecks (nv : NvStore) (d : Device) : List (Bool × Code) :=
  [(!runOpen d, .cal), (calibratedOrSuspect d, .unc), (!verifOpen d, .cal), (clockSet d, .tim), (!journalFull nv d, .ful),
    (decide (nv.nextTicket d.txu.owedTorn ≤ Config.ticketCap), .num)]

def doWg2 (fields : List Text) (nv : NvStore) (d : Device) : Device :=
  match fields with
  | [f] =>
    match readRange 1 65535 f with
    | some n =>
      guarded .wg2 (issueChecks nv d ++ [((findVisit d n).isSome, .vnf)] ++ tradeChecks d) (beginCapture .wg2 (.wg2 n)) d
    | none => refuse .wg2 .rng d
  | _ => refuse .wg2 .rng d

/-- WG2 (R139). -/
def execWg2 (fields : List Text) (s : State) : Host.Outcome State Fault Refusal := s.act (command .wg2 (doWg2 fields))

def doWgs (fields : List Text) (nv : NvStore) (d : Device) : Device :=
  match fields with
  | [f] =>
    match readRef f with
    | some ref =>
      match findTare d ref with
      | some (_, t) =>
        guarded .wgs (issueChecks nv d ++ [(tareExpired d t != some true, .exp)] ++ tradeChecks d)
          (beginCapture .wgs (.wgs ref t)) d
      | none => guarded .wgs (issueChecks nv d) (refuse .wgs .tnf) d
    | none => refuse .wgs .rng d
  | _ => refuse .wgs .rng d

/-- WGS (R139). -/
def execWgs (fields : List Text) (s : State) : Host.Outcome State Fault Refusal := s.act (command .wgs (doWgs fields))

def doWgg (fields : List Text) (nv : NvStore) (d : Device) : Device :=
  match fields with
  | [f] =>
    match readRef f with
    | some ref => guarded .wgg (issueChecks nv d ++ tradeChecks d) (beginCapture .wgg (.wgg ref)) d
    | none => refuse .wgg .rng d
  | _ => refuse .wgg .rng d

/-- WGG (R139). -/
def execWgg (fields : List Text) (s : State) : Host.Outcome State Fault Refusal := s.act (command .wgg (doWgg fields))

def doVcl (fields : List Text) (nv : NvStore) (d : Device) : Device :=
  match fields with
  | [f] =>
    match readRange 1 65535 f with
    | some n =>
      match findVisit d n with
      | some (_, v) =>
        guarded .vcl (issueChecks nv d) (fun d => makeRecord nv ⟨.cancel v.number v.ref, none, false⟩ (accept .vcl .none d)) d
      | none => guarded .vcl (issueChecks nv d) (refuse .vcl .vnf) d
    | none => refuse .vcl .rng d
  | _ => refuse .vcl .rng d

/-- VCL (R120). -/
def execVcl (fields : List Text) (s : State) : Host.Outcome State Fault Refusal := s.act (command .vcl (doVcl fields))

/-- A TICKET, ONEPASS or GROSS record. -/
def JournalBody.isTicket : JournalBody → Bool
  | .ticket .. => true
  | .onepass .. => true
  | .gross .. => true
  | _ => false

/-- The record of a number can be voided: held, of a ticket kind, and not voided by a VOID record held (R139). -/
def voidable (nv : NvStore) (n : Nat) : Bool :=
  (match nv.ticket n with
    | some r => r.body.isTicket
    | none => false) &&
    !nv.tickets.any fun r => match r.body with
      | .void k => k == n
      | _ => false

def doVod (fields : List Text) (nv : NvStore) (d : Device) : Device :=
  match fields with
  | [f] =>
    match readRange 1 Config.ticketCap f with
    | some n =>
      guarded .vod (issueChecks nv d ++ [(voidable nv n, .rng)])
        (fun d => makeRecord nv ⟨.void n, none, false⟩ (accept .vod .none d)) d
    | none => refuse .vod .rng d
  | _ => refuse .vod .rng d

/-- VOD (R143). -/
def execVod (fields : List Text) (s : State) : Host.Outcome State Fault Refusal := s.act (command .vod (doVod fields))

/-! ### Export and streams (R144, R146, R147) -/

/-- E is to move: nothing is written when it stands there already (R144). -/
def moveExport (nv : NvStore) (n : Nat) (d : Device) : Device :=
  if n = d.txu.exportMark then complete [tNat n, tNat (nv.unexported n)] d
  else setStage (.exportWrite n) (request ⟨.longOp, exportWrite nv n⟩ d)

/-- n lies from E up to newest. -/
def exportable (nv : NvStore) (e n : Nat) : Bool :=
  match nv.newest with
  | some hi => decide (e ≤ n) && decide (n ≤ hi)
  | none => false

def doJex (fields : List Text) (nv : NvStore) (d : Device) : Device :=
  match fields with
  | [f] =>
    match readNat f with
    | some n => if exportable nv d.txu.exportMark n then moveExport nv n (accept .jex .none d) else refuse .jex .rng d
    | none => refuse .jex .rng d
  | _ => refuse .jex .rng d

/-- JEX (R144). -/
def execJex (fields : List Text) (s : State) : Host.Outcome State Fault Refusal := s.act (command .jex (doJex fields))

/-- A stream is accepted from a number on. -/
def beginStream (t : Tag) (start count : Nat) (d : Device) : Device := accept t (.stream ⟨t, start, start, count, 0, false⟩) d

/-- The number is held: from oldest to newest (R146). -/
def numberHeld (nv : NvStore) (n : Nat) : Bool :=
  match nv.oldest, nv.newest with
  | some lo, some hi => decide (lo ≤ n) && decide (n ≤ hi)
  | _, _ => false

def doJrd (fields : List Text) (nv : NvStore) (d : Device) : Device :=
  match fields with
  | [fa, fc] =>
    match readNat fa, readRange 1 4096 fc with
    | some a, some c => if numberHeld nv a then beginStream .jrd a c d else refuse .jrd .rng d
    | _, _ => refuse .jrd .rng d
  | _ => refuse .jrd .rng d

/-- JRD (R146). -/
def execJrd (fields : List Text) (s : State) : Host.Outcome State Fault Refusal := s.act (command .jrd (doJrd fields))

/-- First, last and count of a stream that sent nothing. -/
def emptyStreamFields : List Text := [tAbsent, tAbsent, tNat 0]

/-- JNX from a cursor: refused below oldest, complete at once above newest, else streaming (R147). -/
def continueStream (nv : NvStore) (cursor count : Nat) (d : Device) : Device :=
  if (match nv.oldest with
    | some lo => decide (cursor < lo)
    | none => false) then refuse .jnx .rng d
  else if numberHeld nv cursor then beginStream .jnx cursor count d
  else complete emptyStreamFields (accept .jnx .none d)

def doJnx (fields : List Text) (nv : NvStore) (d : Device) : Device :=
  match fields with
  | [fc] =>
    match readRange 1 4096 fc, d.txu.cursor with
    | some c, some k => continueStream nv k c d
    | _, _ => refuse .jnx .rng d
  | _ => refuse .jnx .rng d

/-- JNX (R147). -/
def execJnx (fields : List Text) (s : State) : Host.Outcome State Fault Refusal := s.act (command .jnx (doJnx fields))

/-! ### SET (R190) -/

def doSet (fields : List Text) (_ : NvStore) (d : Device) : Device :=
  if fields = [] then refuse .set .rng d
  else match readSettings d.nvc.settings [] fields with
    | some new => setStage (.settingsWrite new) (request ⟨.longOp, .settings new⟩ (accept .set .none d))
    | none => refuse .set .rng d

/-- SET (R190). -/
def execSet (fields : List Text) (s : State) : Host.Outcome State Fault Refusal := s.act (command .set (doSet fields))

/-! ### Calibration runs (R158, R161, R163) -/

/-- The working copy of the open run. -/
def workCopy (d : Device) : WorkCopy := d.mst.run.getD WorkCopy.fresh

def czeChecks (fields : List Text) (d : Device) : List (Bool × Code) :=
  [(fields.isEmpty, .rng), (runOpen d, .ses), (d.lsv.lane == .clear || d.lsv.lane == .init, .lan),
    (!(workCopy d).configuredSlots.isEmpty, .inc)]

def doCze (fields : List Text) (_ : NvStore) (d : Device) : Device :=
  guarded .cze (czeChecks fields d) (fun d => accept .cze (.runWait .cze (captureDeadlineFrom d) []) d) d

/-- CZE (R158). -/
def execCze (fields : List Text) (s : State) : Host.Outcome State Fault Refusal := s.act (command .cze (doCze fields))

/-- The slots of a module configured in the working copy. -/
def moduleSlots (w : WorkCopy) (m : Ix) : List SlotId := (SlotId.ofLine m).filter fun i => (w.slots.sel i).configured

def cspChecks (w : WorkCopy) (m : Ix) (x : Nat) : List (Bool × Code) :=
  let is := moduleSlots w m
  [(!is.isEmpty, .rng), (is.all fun i => (w.slots.sel i).lcell.isSome, .inc),
    (decide (1000 ≤ x) && decide (100 * x ≤ (is.map fun i => (w.slots.sel i).lcell.getD 0).sum), .rng),
    (is.all fun i => (w.slots.sel i).z.isSome && (w.slots.sel i).tcal.isSome, .inc)]

def doCsp (fields : List Text) (_ : NvStore) (d : Device) : Device :=
  match d.mst.run, fields with
  | none, _ => refuse .csp .ses d
  | some w, [fm, fx] =>
    match readModule fm, readNat fx with
    | some m, some x =>
      guarded .csp (cspChecks w m x) (fun d => accept .csp (.runWait (.csp m x) (captureDeadlineFrom d) []) d) d
    | _, _ => refuse .csp .rng d
  | some _, _ => refuse .csp .rng d

/-- CSP (R161). -/
def execCsp (fields : List Text) (s : State) : Host.Outcome State Fault Refusal := s.act (command .csp (doCsp fields))

/-- Max and d present, Max / d a whole number from 500 to 10,000 (R151, R163). -/
def capacityFits (w : WorkCopy) : Bool :=
  match w.max, w.d with
  | some m, some d => m % d == 0 && decide (500 ≤ m / d) && decide (m / d ≤ 10000)
  | _, _ => false

/-- A configured slot that the active record has UNUSED has Lcell and both captures (R163); without an active record every configured
slot needs them, also in a run that stayed open when a failed write dropped it (DESIGN CHOICE, log entry 55; unsafe). -/
def slotComplete (active : Option CalRecord) (w : WorkCopy) (i : SlotId) : Bool :=
  ((active.map fun r => (r.slots.sel i).configured).getD false) ||
    ((w.slots.sel i).lcell.isSome && (w.marks.sel i).zeroCaptured && (w.marks.sel i).spanCaptured)

def ccmChecks (fields : List Text) (d : Device) : List (Bool × Code) :=
  let w := workCopy d
  [(fields.isEmpty, .rng), (runOpen d, .ses), (d.mst.lock.state, .lck), (clockSet d, .tim), (capacityFits w, .rng),
    (!w.configuredSlots.isEmpty, .inc), (w.configuredSlots.all (slotComplete d.mst.active w), .inc),
    (decide (d.mst.counter < Config.numberCap), .rng), (d.auu.next.isSome, .num)]

/-- Step 1 of a commit or a closing: the record's append is requested under the long operation's share, or refused, and the command
then ends NUM (R165, R174, R181). -/
def appendLong (nv : NvStore) (body : AuditBody) (counter : Nat) (st : Stage) (d : Device) : Device :=
  match d.auu.next with
  | none => failWith .num [] (appendRefused nv d)
  | some _ => setStage st (append nv .longOp body (some counter) d)

/-- The commit's first write: the CAL-COMMIT record with the new counter (R164, R165). -/
def beginCommit (nv : NvStore) (d : Device) : Device :=
  let items := changedItems d.mst.active (workCopy d)
  let listed := items.take Config.changedCap
  let more := decide (items.length > Config.changedCap)
  appendLong nv (.calCommit listed more) (d.mst.counter + 1)
    (.ccmAudit listed more items.length (d.nvc.clock.getD 0) false) (accept .ccm .none d)

def doCcm (fields : List Text) (nv : NvStore) (d : Device) : Device := guarded .ccm (ccmChecks fields d) (beginCommit nv) d

/-- CCM (R163). -/
def execCcm (fields : List Text) (s : State) : Host.Outcome State Fault Refusal := s.act (command .ccm (doCcm fields))

/-! ### Verification runs (R172, R174) -/

/-- X lies from 0 to Max of the active record, from 0 upward without one (R172). -/
def loadInRange (d : Device) (x : Nat) : Bool := (d.mst.active.map fun r => decide (x ≤ r.max)).getD true

def vptChecks (x : Nat) (d : Device) : List (Bool × Code) :=
  [(loadInRange d x, .rng), (decide (((d.mst.verif.map (·.length)).getD 0) < Config.pointCap), .tbl)] ++ pointChecks d

def doVpt (fields : List Text) (_ : NvStore) (d : Device) : Device :=
  match fields with
  | [f] =>
    match readNat f with
    | some x => guarded .vpt (vptChecks x d) (beginCapture .vpt (.vpt x)) d
    | none => refuse .vpt .rng d
  | _ => refuse .vpt .rng d

/-- VPT (R172). -/
def execVpt (fields : List Text) (s : State) : Host.Outcome State Fault Refusal := s.act (command .vpt (doVpt fields))

def vcmChecks (fields : List Text) (d : Device) : List (Bool × Code) :=
  [(fields.isEmpty, .rng), (verifOpen d, .ses), (clockSet d, .tim), (d.auu.next.isSome, .num)]

/-- PASS with at least two points, every one PASS (R174). -/
def verdictOf (points : List Point) : Bool := decide (2 ≤ points.length) && points.all (·.pass)

/-- The VERIFY record is requested (R174). -/
def beginClose (nv : NvStore) (d : Device) : Device :=
  let points := d.mst.verif.getD []
  let pass := verdictOf points
  appendLong nv (.verify points pass) d.mst.counter
    (.vcmAudit pass (d.nvc.clock.getD 0) (d.auu.next.getD 0)) (accept .vcm .none d)

def doVcm (fields : List Text) (nv : NvStore) (d : Device) : Device := guarded .vcm (vcmChecks fields d) (beginClose nv) d

/-- VCM (R174). -/
def execVcm (fields : List Text) (s : State) : Host.Outcome State Fault Refusal := s.act (command .vcm (doVcm fields))

end Sys2Proof.Machine
end

