-- ==== Sys2Proof/Machine/Port.lean ====
section
/-! DEFINITION. The Message Port (11): characters in, record assembly and dispatch, records placed and characters sent, notices and
stream items. -/

namespace Sys2Proof.Machine

/-! ### Reception (R196 to R198) -/

/-- The count of ones among the data bits. -/
def onesOf (b : Byte) : Nat := ((List.range 8).filter fun i => b.getLsbD i).length

/-- With EVEN parity in force, the parity bit does not make the count of ones even (R196). -/
def parityError (p : Parity) (b : Byte) (parityBit : Bool) : Bool :=
  match p with
  | .none => false
  | .even => (onesOf b + (if parityBit then 1 else 0)) % 2 != 0

def canByte : Byte := 0x18

/-- A CAN acts on a running stream, else it is discarded (R148, R198) (DEDUCED, log entry 20; safe). -/
def canReceived (d : Device) : Device := stopStream d

/-- An overrun marks the record being assembled, or is held for the next (R199). -/
def overrun (rx : Rx) : Rx := if rx.assembling then { rx with err := true } else { rx with overrunHeld := true }

/-- A character joins the FIFO, or is an overrun; RTS drops at 48 (R196, R197). -/
def enterFifo (c : RxChar) (rx : Rx) : Rx :=
  if rx.fifo.length ≥ Config.fifoCap then overrun rx
  else
    let fifo := rx.fifo ++ [c]
    { rx with fifo := fifo, rts := if fifo.length = Config.rtsDropAt then false else rx.rts }

def charOf (b : Byte) : Char := Char.ofNat b.toNat

/-- A character is acted on as CAN, or entered; one that was in reception at a change of rate carries an error (R190, R196, R198). -/
def takeReceived (b : Byte) (err : Bool) (d : Device) : Device :=
  let d1 := { d with rx := { d.rx with spoilt := false } }
  if b = canByte ∧ (err || d.rx.spoilt) = false then canReceived d1
  else { d1 with rx := enterFifo ⟨charOf b, err || d.rx.spoilt⟩ d1.rx }

/-- A character is received and checked (R196). -/
def rxCharacter (b : Byte) (parityBit stopBit : Bool) (_ : NvStore) (d : Device) : Device :=
  if uartOn d then takeReceived b (parityError d.tx.par b parityBit || !stopBit) d else d

/-- RX_CHARACTER (R196). -/
def execRxCharacter (b : Byte) (parityBit stopBit : Bool) (s : State) : Host.Outcome State Fault Refusal :=
  s.act (rxCharacter b parityBit stopBit)

/-- A CAN whose parity and stop bit are right. -/
def canCharacter (_ : NvStore) (d : Device) : Device := if uartOn d then takeReceived canByte false d else d

/-- CAN_CHARACTER (R198). -/
def execCanCharacter (s : State) : Host.Outcome State Fault Refusal := s.act canCharacter

/-! ### Assembly (R199) -/

/-- The buffer emptied, with no marks and the gap timer stopped. -/
def Rx.emptied (rx : Rx) : Rx :=
  { rx with buf := [], assembling := false, err := false, ovf := false, complete := false, gap := false }

/-- Assembly takes one character. -/
def assembleChar (c : RxChar) (rx : Rx) : Rx :=
  if rx.assembling then
    if c.ch = '\r' then { rx with assembling := false, complete := true, gap := false, err := rx.err || c.err }
    else if rx.buf.length < Config.recordCap then { rx with buf := rx.buf ++ [c.ch], gap := true, err := rx.err || c.err }
    else { rx with ovf := true, gap := true, err := rx.err || c.err }
  else if c.ch = '\r' ∨ c.ch = '\n' then rx
  else { rx with buf := [c.ch], assembling := true, err := c.err || rx.overrunHeld, overrunHeld := false, ovf := false, gap := true }

/-- A character leaves the front of the FIFO for assembly; RTS is asserted at 16 (R197). -/
def takeChar (rx : Rx) : Rx :=
  match rx.fifo with
  | [] => rx
  | c :: rest =>
    assembleChar c { rx with fifo := rest, rts := if rest.length = Config.rtsAssertAt then true else rx.rts }

def recordAssembly (_ : NvStore) (d : Device) : Device :=
  if uartOn d && !d.rx.complete then { d with rx := takeChar d.rx } else d

/-- RECORD_ASSEMBLY (R199). -/
def execRecordAssembly (s : State) : Host.Outcome State Fault Refusal := s.act recordAssembly

def noTag : Text := ['-', '-', '-']

/-- 20 character times without a character: the record is dropped (R199). -/
def gapTimeout (_ : NvStore) (d : Device) : Device :=
  if uartOn d && d.rx.assembling && d.rx.gap then reply '#' noTag [Code.text .chr] { d with rx := d.rx.emptied } else d

/-- GAP_TIMEOUT (R199). -/
def execGapTimeout (s : State) : Host.Outcome State Fault Refusal := s.act gapTimeout

/-! ### Dispatch (R200 to R202) -/

/-- The command a tag names runs with its fields; GET NVC is the GET whose first field is NVC (R191). -/
def runCommand (t : Tag) (fields : List Text) : NvStore → Device → Device :=
  match t with
  | .sta => command .sta (doSta fields)
  | .wtr => command .wtr (doWtr fields)
  | .cel => command .cel (doCel fields)
  | .pas => command .pas (doPas fields)
  | .vis => command .vis (doVis fields)
  | .trl => command .trl (doTrl fields)
  | .jst => command .jst (doJst fields)
  | .aud => command .aud (doAud fields)
  | .mst => command .mst (doMst fields)
  | .get =>
    match fields with
    | f :: rest => if f = tNvc then command .get (doGetNvc rest) else command .get (doGet fields)
    | [] => command .get (doGet fields)
  | .clk => command .clk (doClk fields)
  | .lit => command .lit (doLit fields)
  | .nte => command .nte (doNte fields)
  | .abt => command .abt (doAbt fields)
  | .cop => command .cop (doCop fields)
  | .cpa => command .cpa (doCpa fields)
  | .cdx => command .cdx (doCdx fields)
  | .vop => command .vop (doVop fields)
  | .zer => command .zer (doZer fields)
  | .wg1 => command .wg1 (doWg1 fields)
  | .wg2 => command .wg2 (doWg2 fields)
  | .wgs => command .wgs (doWgs fields)
  | .wgg => command .wgg (doWgg fields)
  | .trs => command .trs (doTrs fields)
  | .trk => command .trk (doTrk fields)
  | .trd => command .trd (doTrd fields)
  | .vcl => command .vcl (doVcl fields)
  | .vod => command .vod (doVod fields)
  | .jrd => command .jrd (doJrd fields)
  | .jnx => command .jnx (doJnx fields)
  | .jex => command .jex (doJex fields)
  | .set => command .set (doSet fields)
  | .cze => command .cze (doCze fields)
  | .csp => command .csp (doCsp fields)
  | .ccm => command .ccm (doCcm fields)
  | .vpt => command .vpt (doVpt fields)
  | .vcm => command .vcm (doVcm fields)

/-- The tag a CHR or LEN refusal carries: the record's, when it begins with `>` and a known tag, else hyphens (R200). -/
def refusalTag (buf : Text) : Text :=
  match readTag buf with
  | some (tag, _) => if (tagOfText tag).isSome then tag else noTag
  | none => noTag

/-- A completed record is parsed: the checks of R200 in order, then the command. -/
def parseRecord (buf : Text) (err ovf : Bool) (nv : NvStore) (d : Device) : Device :=
  if err then reply '#' (refusalTag buf) [Code.text .chr] d
  else if ovf then reply '#' (refusalTag buf) [Code.text .len] d
  else match readRecord buf with
    | none => reply '#' noTag [Code.text .syn] d
    | some (tag, fields) =>
      match tagOfText tag with
      | none => reply '#' noTag [Code.text .unk] d
      | some t => runCommand t fields nv d

/-- The record a dispatch produces: its reply or refusal, else the acceptance of a long command. -/
def produced (before after : Device) : Text :=
  match after.tx.replies.drop before.tx.replies.length with
  | r :: _ => r
  | [] => ((after.tx.longs.drop before.tx.longs.length).head?).getD []

/-- A record fits the output queue whole, or is longer than the queue, which is empty (R204). -/
def fits (queue r : Text) : Bool := decide (queue.length + r.length ≤ Config.outputCap) || queue.isEmpty

/-- Dispatch takes a completed record once there is room for the record it will produce (R200) (DEDUCED, log entry 4; safe). An AUD whose
read would wait for a report waits in the buffer instead, and no record is taken while a read waits: what they will produce is known at
the report (DESIGN CHOICE, log entry 31; unsafe). -/
def recordDispatch (nv : NvStore) (d : Device) : Device :=
  if uartOn d && d.rx.complete then
    let d1 := parseRecord d.rx.buf d.rx.err d.rx.ovf nv { d with rx := d.rx.emptied }
    if d.tx.replies.isEmpty && d1.tx.held.isEmpty && d.tx.placing.isEmpty && fits d.tx.queue (produced d d1) then d1 else d
  else d

/-- RECORD_DISPATCH (R200). -/
def execRecordDispatch (s : State) : Host.Outcome State Fault Refusal := s.act recordDispatch

/-! ### Transmission (R190, R196) -/

/-- The UART starts the next character while CTS is asserted. -/
def startTx (d : Device) : Device :=
  { d with tx := { d.tx with sending := d.tx.sending || (uartOn d && d.tx.cts && !d.tx.queue.isEmpty) } }

/-- The slot returns to IDLE when the ending record has been placed (R202). -/
def freeSlot (d : Device) : Device :=
  if d.exe.stage = .ended ∧ d.tx.longs = [] ∧ d.tx.placing = [] then { d with exe := ⟨none, .none⟩ } else d

/-- CTS changes: transmission holds or goes on at a character boundary. -/
def ctsChange (asserted : Bool) (_ : NvStore) (d : Device) : Device := startTx { d with tx := { d.tx with cts := asserted } }

/-- CTS_CHANGE (R196). -/
def execCtsChange (asserted : Bool) (s : State) : Host.Outcome State Fault Refusal := s.act (ctsChange asserted)

/-- One more character has been sent: the changes of rate that have come due take place (R190)
(DEDUCED, log entry 30; unsafe). -/
def rateChanges (tx : Tx) : Tx :=
  let l := tx.rateSwitch.map fun c => { c with left := c.left - 1 }
  let due := l.filter fun c => c.left == 0
  { tx with rateSwitch := l.filter fun c => c.left != 0,
            rate := (due.getLast?.map (·.rate)).getD tx.rate, par := (due.getLast?.map (·.par)).getD tx.par }

/-- A character's stop bit has been sent: it leaves the queue, and a record longer than the queue moves up (R196, R204). -/
def charSent (tx : Tx) : Tx :=
  let queue := tx.queue.drop 1 ++ tx.placing.take 1
  rateChanges { tx with queue := queue, placing := tx.placing.drop 1, sending := false }

/-- The rate or the parity has changed: a character in reception will carry a framing error (R190)
(DESIGN CHOICE, log entry 32; safe: whether one is in reception is a free value). -/
def rateChanged (before : Tx) (d : Device) : Device :=
  if d.tx.rate = before.rate ∧ d.tx.par = before.par then d
  else { d with rx := { d.rx with spoilt := d.rx.spoilt || Config.receiving d.rx.changes, changes := d.rx.changes + 1 } }

def txCharacterSent (_ : NvStore) (d : Device) : Device :=
  if uartOn d && d.tx.sending then startTx (freeSlot (rateChanged d.tx { d with tx := charSent d.tx })) else d

/-- TX_CHARACTER_SENT (R196). -/
def execTxCharacterSent (s : State) : Host.Outcome State Fault Refusal := s.act txCharacterSent

/-! ### Placing records (R204) -/

/-- A record is placed whole, or begins to be placed when it is longer than the queue. -/
def placeText (r : Text) (notice : Bool) (d : Device) : Device :=
  let room := Config.outputCap - d.tx.queue.length
  startTx { d with tx := { d.tx with queue := d.tx.queue ++ r.take room, placing := r.drop room, lastNotice := notice } }

/-- A stream is running and forms its next item (R146). -/
def streaming (d : Device) : Bool :=
  match d.exe.stage with
  | .stream _ => true
  | _ => false

/-- Classes in order of priority (section 11.5). -/
def Notice.byPriority : List Notice := [.sys, .met, .cel, .lne, .axl, .jrn]

/-- The pending enabled class of highest priority; before READY, SYS alone (R205). -/
def topNotice (n : Ntc) : Option Notice :=
  Notice.byPriority.find? fun c => n.pending.get c && n.enabled.get c && (n.readySent || c == .sys)

/-- It is a notice's turn: no formed reply waits, the queue is empty, and after another notice the long operation has nothing (R204). -/
def noticeTurn (d : Device) : Bool :=
  uartOn d && !repliesWait d && d.tx.placing.isEmpty && d.tx.queue.isEmpty && (topNotice d.ntc).isSome &&
    !(d.tx.lastNotice && (!d.tx.longs.isEmpty || streaming d))

/-- The end of a =SET on the output brings its rate and parity into force (R190). -/
def noteRateChange (r : Text) (d : Device) : Device :=
  if d.exe.slot = some .set ∧ r.head? = some '=' then
    { d with tx := { d.tx with
        rateSwitch := d.tx.rateSwitch ++ [⟨d.tx.queue.length + d.tx.placing.length, d.nvc.settings.rate, d.nvc.settings.par⟩] } }
  else d

/-- The next reply, or else, when no reply waits behind a read and no notice has the turn, the long operation's next record, is placed
(R203, R204). -/
def recordPlacement (_ : NvStore) (d : Device) : Device :=
  if uartOn d && d.tx.placing.isEmpty then
    match d.tx.replies, d.tx.longs with
    | r :: rest, _ =>
      if fits d.tx.queue r then placeText r false { d with tx := { d.tx with replies := rest } } else d
    | [], r :: rest =>
      if !repliesWait d && fits d.tx.queue r && !noticeTurn d then
        freeSlot (noteRateChange r (placeText r false { d with tx := { d.tx with longs := rest } }))
      else d
    | [], [] => d
  else d

/-- RECORD_PLACEMENT (R204). -/
def execRecordPlacement (s : State) : Host.Outcome State Fault Refusal := s.act recordPlacement

/-! ### Notices (R205) -/

/-- A class is emitted: its record placed, its mark cleared; with !SYS, READY is sent. -/
def emitNotice (nv : NvStore) (c : Notice) (d : Device) : Device :=
  let r := tRecord '!' c.text (noticeFields nv d c) ++ tCrLf
  let d1 := placeText r true d
  { d1 with ntc := { d1.ntc with pending := d1.ntc.pending.put c false, readySent := d1.ntc.readySent || c == .sys } }

def noticeEmission (nv : NvStore) (d : Device) : Device :=
  match topNotice d.ntc with
  | some c => if noticeTurn d then emitNotice nv c d else d
  | none => d

/-- NOTICE_EMISSION (R205). -/
def execNoticeEmission (s : State) : Host.Outcome State Fault Refusal := s.act noticeEmission

/-! ### Stream items (R146 to R148) -/

/-- The record of a number as a stream item; a slot that fails its check is sent as TORN with its number (R146)
(DEDUCED, log entry 30; unsafe). -/
def streamItem (nv : NvStore) (n : Nat) : Text :=
  match nv.ticket n with
  | some r => r.item
  | none => (JournalRec.make n .torn none none).item

/-- The stream has sent its count, has passed newest, or was stopped. -/
def streamDone (nv : NvStore) (st : Stream) : Bool :=
  st.stop || st.left == 0 || !numberHeld nv st.next

/-- The =JRD or =JNX fields (R146, R148). -/
def streamFields (st : Stream) : List Text :=
  (if st.sent = 0 then emptyStreamFields else [tNat st.start, tNat (st.next - 1), tNat st.sent]) ++
    (if st.stop then [tStopped] else [])

/-- The stream ends: the cursor is set and its ending record formed. -/
def endStream (st : Stream) (d : Device) : Device :=
  complete (streamFields st) { d with txu := { d.txu with cursor := some st.next } }

/-- The next item is formed and placed; a failing slot is counted (R146, R188). -/
def sendItem (nv : NvStore) (st : Stream) (d : Device) : Device :=
  let d1 := placeText (streamItem nv st.next ++ tCrLf) false
    (setStage (.stream { st with next := st.next + 1, left := st.left - 1, sent := st.sent + 1 }) d)
  if (nv.ticket st.next).isSome then d1 else countReadFailures 1 d1

/-- With the output queue empty and nothing waiting that goes first, a running stream forms its next item or, when it is done, its ending
record (R146, R148, R204) (DESIGN CHOICE, log entry 58; unsafe: the rules give no moment for the ending record). -/
def streamStep (nv : NvStore) (d : Device) : Device :=
  match d.exe.stage with
  | .stream st =>
    if uartOn d && d.tx.queue.isEmpty && d.tx.placing.isEmpty && !repliesWait d && d.tx.longs.isEmpty &&
        !noticeTurn d then
      if streamDone nv st then endStream st d else sendItem nv st d
    else d
  | _ => d

/-- STREAM_ITEM (R146). -/
def execStreamItem (s : State) : Host.Outcome State Fault Refusal := s.act streamStep

end Sys2Proof.Machine
end

