-- ==== Sys2Proof/Machine/Startup.lean ====
section
/-! DEFINITION. Power, reset and start-up (10): the scan with its repairs, the end of the scan, and the clock's second. -/

namespace Sys2Proof.Machine

/-! ### Scan failures (R188) -/

/-- What a step of the scan finds is counted: the targets that fail their check, in the error report and for READY, and apart from them
those never written, in the error report (R188). -/
def countScanFailures (torn blank : Nat) (d : Device) : Device :=
  { d with nvc := { d.nvc with
      report := { d.nvc.report with scanFail := min (d.nvc.report.scanFail + torn) Config.countCap,
                                    blank := min (d.nvc.report.blank + blank) Config.countCap }
      ready := { d.nvc.ready with scanFail := min (d.nvc.ready.scanFail + torn) Config.countCap } } }

def tornOf {α : Type} (c : NvCell α) : Nat := if c.isTorn then 1 else 0

def tornCells {α : Type} (m : NvMap (NvCell α)) : Nat := (m.filter fun e => e.2.isTorn).length

def tornCopies {α : Type} (m : NvMap (TwoCopy α)) : Nat := (m.map fun e => e.2.tornCount).sum

def blankOf {α : Type} (c : NvCell α) : Nat := if c.isBlank then 1 else 0

/-- The slots of a ring of n never written: all but those listed as written. -/
def blankCells {α : Type} (n : Nat) (m : NvMap (NvCell α)) : Nat := n - (m.filter fun e => !e.2.isBlank).length

/-- The copies of a table of n slots never written, two to a slot. -/
def blankCopies {α : Type} (n : Nat) (m : NvMap (TwoCopy α)) : Nat := 2 * n - (m.map fun e => e.2.writtenCount).sum

/-! ### Steps 1 to 3: settings, calibration, status (R26, R62, R189, R194) -/

/-- The settings in force are decided; the UART runs under them and RTS is asserted. -/
def scanSettings (nv : NvStore) (d : Device) : Device :=
  let s := nv.settings.content.getD Settings.default
  countScanFailures (tornOf nv.settings) (blankOf nv.settings)
    { d with
      nvc := { d.nvc with settings := s, settingsFailed := nv.settings.isTorn,
                          ready := { d.nvc.ready with settingsValid := nv.settings.content.isSome } }
      rx := { d.rx with rts := true }
      tx := { d.tx with rate := s.rate, par := s.par } }

def foundCal : NvCell CalRecord → FoundCal
  | .valid _ => .valid
  | .torn => .invalid
  | .blank => .blank

/-- The calibration record is read: the active record, the slot states and Z. -/
def scanCalibration (nv : NvStore) (d : Device) : Device :=
  let active := nv.calibration.content
  let conf (i : SlotId) : Bool := (active.map fun r => (r.slots.sel i).configured).getD false
  countScanFailures (tornOf nv.calibration) (blankOf nv.calibration)
    { d with
      mst := { d.mst with active := active }
      clc := { d.clc with slots := Slots.tab fun i => Slot.reset (if conf i then .seeking else .unused) }
      zsu := { d.zsu with z := active.map (·.zcal) }
      nvc := { d.nvc with ready := { d.nvc.ready with calibration := foundCal nv.calibration } } }

def scanStatus (nv : NvStore) (d : Device) : Device := countScanFailures nv.status.tornCount (2 - nv.status.writtenCount) d

/-! ### Step 4: the audit log and the metrology state (R153, R182) -/

/-- The slot after the one that holds newest, or slot 1 (R182). -/
def auditHead (nv : NvStore) : Nat :=
  match nv.auditNewest.bind (slotOfAudit nv.audit) with
  | some p => nextPlace Config.auditSlots p
  | none => 1

/-- The number after newest, 1 for an empty log; none when newest is the last number (R182), also where higher numbers were given before
the reset and no slot holds them (DESIGN CHOICE, log entry 57; unsafe). -/
def auditNext (nv : NvStore) : Option Nat :=
  match nv.auditNewest with
  | some n => if n ≥ Config.ticketCap then none else some (n + 1)
  | none => some 1

/-- The AUU rebuilds its state (R182); its mark of a refused append is clear again (DESIGN CHOICE, log entry 52; unsafe). -/
def scanAudit (nv : NvStore) (d : Device) : Device :=
  countScanFailures (tornCells nv.audit) (blankCells Config.auditSlots nv.audit)
    { d with auu := ⟨auditHead nv, auditNext nv, false⟩ }

/-- The audit head repair: a failing slot at the write position is written with a TORN record of the next number; the position
and the number move on, whether the write agrees or not (R182) (DEDUCED, log entries 22 and 30; unsafe). -/
def auditRepair (ok : Bool) (nv : NvStore) (d : Device) : NvStore × Device :=
  match (nv.auditCell d.auu.writePos).isTorn, d.auu.next with
  | true, some n =>
    (nv.land ok (.audit d.auu.writePos ⟨n, .torn, d.nvc.clock, none⟩),
      { d with
        auu := { d.auu with writePos := nextPlace Config.auditSlots d.auu.writePos,
                            next := if n ≥ Config.ticketCap then none else some (n + 1) }
        nvc := { d.nvc with report := countWrite ok d.nvc.report,
                            ready := { d.nvc.ready with auditRepair := if ok then .written n else .none } } })
  | _, _ => (nv, d)

/-- The counter: the largest of the calibration record's, the status record's and the newest CAL-COMMIT's (R153). -/
def scanCounter (nv : NvStore) : Nat :=
  max ((nv.calibration.content.map (·.counter)).getD 0)
    (max ((nv.status.content.map (·.counter)).getD 0) (nv.commitCounter.getD 0))

/-- The MST decides its state (R153). -/
def scanState (nv : NvStore) (d : Device) : Device :=
  let d1 := { d with mst := { d.mst with counter := scanCounter nv } }
  match nv.calibration, nv.status.content with
  | .valid r, some st =>
    if st.counter = r.counter then { d1 with mst := { d1.mst with state := st.state, due := st.due } }
    else requestStatus nv ⟨.suspect, none, r.counter⟩ false { d1 with mst := { d1.mst with state := .suspect, due := none } }
  | .valid r, none =>
    requestStatus nv ⟨.suspect, none, r.counter⟩ false { d1 with mst := { d1.mst with state := .suspect, due := none } }
  | .torn, _ => append nv .calInvalid .calInvalid (some d1.mst.counter) d1
  | .blank, _ => d1

/-! ### Step 5: tares and visits (R111) -/

/-- The contents of a table: each slot's newest valid content, when it is a record. -/
def tableOf {α : Type} (m : NvMap (TwoCopy (Option α))) : NvMap α :=
  m.filterMap fun e => (e.2.content.bind id).map fun x => (e.1, x)

/-- The visit in slot q beats the one in slot p for their reference: later opened, or the higher number (R111). An absent time counts as
the earliest, here and in `tareBeats` (DESIGN CHOICE, log entry 45; unsafe); with times and numbers equal the one in the higher-numbered
slot beats the other (DESIGN CHOICE, log entry 50; unsafe). -/
def visitBeats (p : Nat × VisitRec) (q : Nat × VisitRec) : Bool :=
  let a := p.2.opened.getD 0
  let b := q.2.opened.getD 0
  decide (a < b) || (a == b && (decide (p.2.number < q.2.number) || (p.2.number == q.2.number && decide (p.1 < q.1))))

/-- The entry in slot q beats the one in slot p: stored later, or in the higher-numbered slot (R111; log entry 45). -/
def tareBeats (p : Nat × TareEntry) (q : Nat × TareEntry) : Bool :=
  let a := p.2.stored.getD 0
  let b := q.2.stored.getD 0
  decide (a < b) || (a == b && decide (p.1 < q.1))

/-- A record loses its place to another of the same reference. -/
def dropped {α : Type} (ref : α → Text) (beats : Nat × α → Nat × α → Bool) (m : NvMap α) (e : Nat × α) : Bool :=
  m.any fun q => ref q.2 == ref e.2 && beats e q

/-- The order of the freeing writes: increasing slot number, those of the tare table before those of the visit table (R187)
(DESIGN CHOICE, log entry 28; unsafe: R187 orders the slots of one table). -/
def freeBefore (a b : FreeReq) : Bool :=
  if a.isVisit == b.isVisit then decide (a.slot < b.slot) else b.isVisit

/-- Freeing writes are held for the slots of a list; the scan requests them at its end, as the share has room (R111, R149, R187). -/
def holdFreeing (isVisit : Bool) (slots : List Nat) (d : Device) : Device :=
  { d with txu := { d.txu with freeHeld := sortBy freeBefore (d.txu.freeHeld ++ slots.map fun k => ⟨isVisit, k, false⟩) } }

/-- The stored-tare table with its duplicate repair. -/
def scanTares (nv : NvStore) (d : Device) : Device :=
  let all := tableOf nv.tares
  let lost := all.filter (dropped TareEntry.ref tareBeats all)
  let kept := all.filter fun e => !dropped TareEntry.ref tareBeats all e
  holdFreeing false (lost.map (·.1)) (countScanFailures (tornCopies nv.tares) (blankCopies Config.tareSlots nv.tares)
    { d with txu := { d.txu with tares := kept }, nvc := { d.nvc with ready := { d.nvc.ready with tares := kept.length } } })

/-- The open-visit table with its duplicate repair. -/
def scanVisits (nv : NvStore) (d : Device) : Device :=
  let all := tableOf nv.visits
  let lost := all.filter (dropped VisitRec.ref visitBeats all)
  let kept := all.filter fun e => !dropped VisitRec.ref visitBeats all e
  holdFreeing true (lost.map (·.1)) (countScanFailures (tornCopies nv.visits) (blankCopies Config.visitSlots nv.visits)
    { d with txu := { d.txu with visits := kept }, nvc := { d.nvc with ready := { d.nvc.ready with dropped := lost.length } } })

/-! ### Step 6: the journal (R113, R144, R149) -/

/-- E: the export record's newest content, else oldest - 1, else 0 (R144). -/
def scanMark (nv : NvStore) : Nat :=
  match nv.exportRec.content with
  | some e => e
  | none => (nv.oldest.map (· - 1)).getD 0

/-- The slot after the one that holds newest, or slot 1 (R149). -/
def journalHead (nv : NvStore) : Nat :=
  match nv.newest.bind (slotOfTicket nv.journal) with
  | some p => nextPlace Config.journalSlots p
  | none => 1

def scanJournal (nv : NvStore) (d : Device) : Device :=
  countScanFailures (tornCells nv.journal + nv.exportRec.tornCount)
    (blankCells Config.journalSlots nv.journal + (2 - nv.exportRec.writtenCount))
    { d with txu := { d.txu with writePos := journalHead nv, exportMark := scanMark nv } }

/-- A head repair that could not be written: the number is owed and the journal is full until E moves (R149)
(DEDUCED, log entry 12; unsafe). -/
def oweRepair (n : Nat) (d : Device) : Device :=
  { d with
    txu := { d.txu with owedTorn := some n, fullUntilE := true }
    nvc := { d.nvc with ready := { d.nvc.ready with journalRepair := .owed n } } }

/-- The journal head repair: a failing slot at the write position gives a TORN record in the slot after it, when that is free
(R149) (DEDUCED, log entries 15 and 22; unsafe). -/
def journalRepair (ok : Bool) (nv : NvStore) (d : Device) : NvStore × Device :=
  let n := nv.nextTicket none
  if (nv.journalCell d.txu.writePos).isTorn ∧ n ≤ Config.ticketCap then
    let slot := nextPlace Config.journalSlots d.txu.writePos
    if nv.slotFree d.txu.exportMark slot then
      let d1 := { d with
        txu := { d.txu with writePos := nextPlace Config.journalSlots slot }
        nvc := { d.nvc with report := countWrite ok d.nvc.report } }
      (nv.land ok (.journal slot (tornRecord n d)),
        if ok then { d1 with nvc := { d1.nvc with ready := { d1.nvc.ready with journalRepair := .written n } } }
        else oweRepair n d1)
    else (nv, oweRepair n d)
  else (nv, d)

/-- The newest 48 records held (R149). -/
def newestRecords (nv : NvStore) : List JournalRec :=
  (sortBy (fun a b => decide (b.number < a.number)) nv.tickets).take Config.reconcileDepth

/-- A record closes a visit: TICKET or CANCEL with its number and its reference. -/
def closes (v : VisitRec) (r : JournalRec) : Bool :=
  match r.body with
  | .ticket n ref .. => n == v.number && ref == v.ref
  | .cancel n ref => n == v.number && ref == v.ref
  | _ => false

/-- Visit reconciliation (R149). -/
def reconcile (nv : NvStore) (d : Device) : Device :=
  let recs := newestRecords nv
  let freed := d.txu.visits.filter fun e => recs.any (closes e.2)
  let kept := d.txu.visits.filter fun e => !recs.any (closes e.2)
  holdFreeing true (freed.map (·.1))
    { d with
      txu := { d.txu with visits := kept }
      nvc := { d.nvc with ready := { d.nvc.ready with freed := freed.length, openVisits := kept.length } } }

/-- The visit number a record carries. -/
def visitOf (r : JournalRec) : Option Nat :=
  match r.body with
  | .ticket n .. => some n
  | .cancel n _ => some n
  | _ => none

/-- The visit number of the newest record that carries one. -/
def newestVisit (nv : NvStore) : Option Nat :=
  (sortBy (fun a b => decide (b.number < a.number)) nv.tickets).findSome? visitOf

/-- The next visit number (R113) (DESIGN CHOICE, log entry 40; unsafe: R112 has a number whose visit write a reset tore passed over,
but R113 rebuilds the next number from the open visits and the journal alone, which gives it again; the model follows R113). -/
def scanNextVisit (nv : NvStore) (d : Device) : Device :=
  let next := match maxNat ((visitsOf d).map (·.number) ++ (newestVisit nv).toList) with
    | some n => nextNumber n
    | none => 1
  { d with txu := { d.txu with nextVisit := next } }

/-! ### The scan (R194) -/

/-- Each owner acts on what it is given before the next area is read (DEDUCED, log entry 29; safe). -/
def scan (auditOk journalOk : Bool) (nv : NvStore) (d : Device) : NvStore × Device :=
  let a := auditRepair auditOk nv (scanAudit nv (scanStatus nv (scanCalibration nv (scanSettings nv d))))
  let d1 := scanJournal a.1 (scanVisits a.1 (scanTares a.1 (scanState a.1 a.2)))
  let j := journalRepair journalOk a.1 d1
  (j.1, requestFreeing j.1 Config.attachCap (scanNextVisit j.1 (reconcile j.1 j.2)))

/-- All volatile state gone; the pins stand for themselves. -/
def clearedFrom (d : Device) (phase : Phase) (resetLow : Bool) (cause : StartCause) (clock : Option Nat) : Device :=
  Device.cleared phase resetLow d.lsv.beamIn.raw d.lsv.beamOut.raw d.mst.lock.raw d.tx.cts cause clock

/-- The supply rises: the clock is UNSET; the scan runs unless RESET is low (R193) (DEDUCED, log entry 16; unsafe). -/
def powerOn (auditOk journalOk : Bool) (nv : NvStore) (d : Device) : NvStore × Device :=
  if d.power.phase = .off then
    if d.power.resetLow then (nv, clearedFrom d .held true .power none)
    else scan auditOk journalOk nv (clearedFrom d .scan false .power none)
  else (nv, d)

/-- POWER_ON (R193). -/
def execPowerOn (auditOk journalOk : Bool) (s : State) : Host.Outcome State Fault Refusal := s.actNv (powerOn auditOk journalOk)

/-- RESET goes low: the part is held in reset, and the write in progress is left as its phase gives (R185, R193). -/
def resetLineLow (phase : WritePhase) (nv : NvStore) (d : Device) : NvStore × Device :=
  if d.power.phase = .scan ∨ d.power.phase = .run then
    (nv.cut d.nvc.writing phase, clearedFrom d .held true .reset d.nvc.clock)
  else (nv, { d with power := { d.power with resetLow := true } })

/-- RESET_LINE_LOW (R185). -/
def execResetLineLow (phase : WritePhase) (s : State) : Host.Outcome State Fault Refusal := s.actNv (resetLineLow phase)

/-- RESET is released: start-up begins, the clock going on (R193, R194). -/
def resetLineRelease (auditOk journalOk : Bool) (nv : NvStore) (d : Device) : NvStore × Device :=
  if d.power.phase = .held then scan auditOk journalOk nv (clearedFrom d .scan false .reset d.nvc.clock)
  else (nv, { d with power := { d.power with resetLow := false } })

/-- RESET_LINE_RELEASE (R194). -/
def execResetLineRelease (auditOk journalOk : Bool) (s : State) : Host.Outcome State Fault Refusal :=
  s.actNv (resetLineRelease auditOk journalOk)

/-- The supply falls: the clock and all volatile state are lost (R193). -/
def powerFailure (phase : WritePhase) (nv : NvStore) (d : Device) : NvStore × Device :=
  if d.power.phase = .off then (nv, d)
  else (nv.cut d.nvc.writing phase, clearedFrom d .off d.power.resetLow .power none)

/-- POWER_FAILURE (R193). -/
def execPowerFailure (phase : WritePhase) (s : State) : Host.Outcome State Fault Refusal := s.actNv (powerFailure phase)

/-! ### The end of the scan (R195) -/

/-- An input's raw level becomes its debounced state (R85, R154). -/
def taken (x : Input) : Input := { x with state := x.raw, debounce := none }

/-- The queue is served, the sample clock starts at index 0, beams and lock are read, READY is formed and SYS raised; JRN follows
from the journal as found (R145, R195) (DEDUCED, log entry 30; unsafe). -/
def finishScan (nv : NvStore) (d : Device) : Device :=
  let d1 := startWrite { d with
    power := { d.power with phase := .run }
    now := 0
    clc := { d.clc with nextIndex := 0, nextLatch := 0 }
    lsv := { d.lsv with beamIn := taken d.lsv.beamIn, beamOut := taken d.lsv.beamOut }
    mst := { d.mst with lock := taken d.mst.lock }
    nvc := { d.nvc with serving := true,
                        ready := { d.nvc.ready with clock := d.nvc.clock, counter := d.mst.counter, state := d.mst.state } } }
  let d2 := raise .sys d1
  if nv.unexported d.txu.exportMark ≥ Config.jrnLevel ∨ journalFull nv d then raise .jrn d2 else d2

def scanEnd (nv : NvStore) (d : Device) : Device := if d.power.phase = .scan then finishScan nv d else d

/-- SCAN_END (R195). -/
def execScanEnd (s : State) : Host.Outcome State Fault Refusal := s.act scanEnd

/-! ### The clock (R177, R192, R193) -/

/-- One second on; past the last second of 2099 the clock is UNSET. -/
def nextSecond (t : Nat) : Option Nat := if t + 1 < Config.clockEnd then some (t + 1) else none

/-- The clock counts while power is kept, and the due date is compared at each second (R177, R192). -/
def clockSecond (nv : NvStore) (d : Device) : Device :=
  if d.power.phase = .off then d
  else
    let d1 := { d with nvc := { d.nvc with clock := d.nvc.clock.bind nextSecond } }
    if uartOn d1 then checkOverdue nv d1 else d1

/-- CLOCK_SECOND (R192). -/
def execClockSecond (s : State) : Host.Outcome State Fault Refusal := s.act clockSecond

end Sys2Proof.Machine
end

