-- ==== Sys2Proof/Machine/Dispatch.lean ====
section
/-! DEFINITION. What each command does: one arm per constructor of `Instr`, each one call of its meaning. -/

namespace Sys2Proof.Machine

/-- The effect of a command on everything but the queue. -/
def exec (i : Instr) (s : State) : Host.Outcome State Fault Refusal :=
  match i with
  | .powerOn a j => Sys2Proof.Machine.execPowerOn a j s
  | .resetLineLow p => Sys2Proof.Machine.execResetLineLow p s
  | .resetLineRelease a j => Sys2Proof.Machine.execResetLineRelease a j s
  | .scanEnd => Sys2Proof.Machine.execScanEnd s
  | .sampleInstant => Sys2Proof.Machine.execSampleInstant s
  | .pollPulse l => Sys2Proof.Machine.execPollPulse l s
  | .replyWaitTimeout l => Sys2Proof.Machine.execReplyWaitTimeout l s
  | .replyFrame l r ts => Sys2Proof.Machine.execReplyFrame l r ts s
  | .frameEdgeTimeout l => Sys2Proof.Machine.execFrameEdgeTimeout l s
  | .quietWaitEnd l => Sys2Proof.Machine.execQuietWaitEnd l s
  | .lineShorted l => Sys2Proof.Machine.execLineShorted l s
  | .shortRetry l => Sys2Proof.Machine.execShortRetry l s
  | .lineRecovery l => Sys2Proof.Machine.execLineRecovery l s
  | .beamLevelChange b x t => Sys2Proof.Machine.execBeamLevelChange b x t s
  | .beamChange b => Sys2Proof.Machine.execBeamChange b s
  | .stripHit k t => Sys2Proof.Machine.execStripHit k t s
  | .settleTimerExpires => Sys2Proof.Machine.execSettleTimerExpires s
  | .clearTimerExpires => Sys2Proof.Machine.execClearTimerExpires s
  | .lockLevelChange x t => Sys2Proof.Machine.execLockLevelChange x t s
  | .lockPositionChange => Sys2Proof.Machine.execLockPositionChange s
  | .zerDeadline => Sys2Proof.Machine.execZerDeadline s
  | .captureDeadline => Sys2Proof.Machine.execCaptureDeadline s
  | .runCaptureDeadline => Sys2Proof.Machine.execRunCaptureDeadline s
  | .axleWaitExpires => Sys2Proof.Machine.execAxleWaitExpires s
  | .clockSecond => Sys2Proof.Machine.execClockSecond s
  | .nvcWriteComplete x => Sys2Proof.Machine.execNvcWriteComplete x s
  | .rxCharacter c x y => Sys2Proof.Machine.execRxCharacter c x y s
  | .canCharacter => Sys2Proof.Machine.execCanCharacter s
  | .recordAssembly => Sys2Proof.Machine.execRecordAssembly s
  | .gapTimeout => Sys2Proof.Machine.execGapTimeout s
  | .recordDispatch => Sys2Proof.Machine.execRecordDispatch s
  | .ctsChange x => Sys2Proof.Machine.execCtsChange x s
  | .txCharacterSent => Sys2Proof.Machine.execTxCharacterSent s
  | .recordPlacement => Sys2Proof.Machine.execRecordPlacement s
  | .noticeEmission => Sys2Proof.Machine.execNoticeEmission s
  | .streamItem => Sys2Proof.Machine.execStreamItem s
  | .sta fs => Sys2Proof.Machine.execSta fs s
  | .wtr fs => Sys2Proof.Machine.execWtr fs s
  | .cel fs => Sys2Proof.Machine.execCel fs s
  | .pas fs => Sys2Proof.Machine.execPas fs s
  | .vis fs => Sys2Proof.Machine.execVis fs s
  | .trl fs => Sys2Proof.Machine.execTrl fs s
  | .jst fs => Sys2Proof.Machine.execJst fs s
  | .aud fs => Sys2Proof.Machine.execAud fs s
  | .mst fs => Sys2Proof.Machine.execMst fs s
  | .get fs => Sys2Proof.Machine.execGet fs s
  | .getNvc fs => Sys2Proof.Machine.execGetNvc fs s
  | .clk fs => Sys2Proof.Machine.execClk fs s
  | .lit fs => Sys2Proof.Machine.execLit fs s
  | .nte fs => Sys2Proof.Machine.execNte fs s
  | .abt fs => Sys2Proof.Machine.execAbt fs s
  | .cop fs => Sys2Proof.Machine.execCop fs s
  | .cpa fs => Sys2Proof.Machine.execCpa fs s
  | .cdx fs => Sys2Proof.Machine.execCdx fs s
  | .vop fs => Sys2Proof.Machine.execVop fs s
  | .zer fs => Sys2Proof.Machine.execZer fs s
  | .wg1 fs => Sys2Proof.Machine.execWg1 fs s
  | .wg2 fs => Sys2Proof.Machine.execWg2 fs s
  | .wgs fs => Sys2Proof.Machine.execWgs fs s
  | .wgg fs => Sys2Proof.Machine.execWgg fs s
  | .trs fs => Sys2Proof.Machine.execTrs fs s
  | .trk fs => Sys2Proof.Machine.execTrk fs s
  | .trd fs => Sys2Proof.Machine.execTrd fs s
  | .vcl fs => Sys2Proof.Machine.execVcl fs s
  | .vod fs => Sys2Proof.Machine.execVod fs s
  | .jrd fs => Sys2Proof.Machine.execJrd fs s
  | .jnx fs => Sys2Proof.Machine.execJnx fs s
  | .jex fs => Sys2Proof.Machine.execJex fs s
  | .set fs => Sys2Proof.Machine.execSet fs s
  | .cze fs => Sys2Proof.Machine.execCze fs s
  | .csp fs => Sys2Proof.Machine.execCsp fs s
  | .ccm fs => Sys2Proof.Machine.execCcm fs s
  | .vpt fs => Sys2Proof.Machine.execVpt fs s
  | .vcm fs => Sys2Proof.Machine.execVcm fs s
  | .powerFailure p => Sys2Proof.Machine.execPowerFailure p s
  | .badFrame l r ts => Sys2Proof.Machine.execBadFrame l r ts s

end Sys2Proof.Machine
end

