-- ==== Sys2Proof/WellFormed.lean ====
section
/-! DEFINITION. Which commands are well formed: a host command whose fields make one command record (11, section 11.2), and a frame
with its reference and its eight symbols (R6). -/

namespace Sys2Proof

open Machine

/-- The tag and the fields of the record a host command stands for; none for an event (R201, R202). -/
def Instr.command? : Instr → Option (Tag × List Text)
  | .sta fs => some (.sta, fs)
  | .wtr fs => some (.wtr, fs)
  | .cel fs => some (.cel, fs)
  | .pas fs => some (.pas, fs)
  | .vis fs => some (.vis, fs)
  | .trl fs => some (.trl, fs)
  | .jst fs => some (.jst, fs)
  | .aud fs => some (.aud, fs)
  | .mst fs => some (.mst, fs)
  | .get fs => some (.get, fs)
  | .getNvc fs => some (.get, tNvc :: fs)
  | .clk fs => some (.clk, fs)
  | .lit fs => some (.lit, fs)
  | .nte fs => some (.nte, fs)
  | .abt fs => some (.abt, fs)
  | .cop fs => some (.cop, fs)
  | .cpa fs => some (.cpa, fs)
  | .cdx fs => some (.cdx, fs)
  | .vop fs => some (.vop, fs)
  | .zer fs => some (.zer, fs)
  | .wg1 fs => some (.wg1, fs)
  | .wg2 fs => some (.wg2, fs)
  | .wgs fs => some (.wgs, fs)
  | .wgg fs => some (.wgg, fs)
  | .trs fs => some (.trs, fs)
  | .trk fs => some (.trk, fs)
  | .trd fs => some (.trd, fs)
  | .vcl fs => some (.vcl, fs)
  | .vod fs => some (.vod, fs)
  | .jrd fs => some (.jrd, fs)
  | .jnx fs => some (.jnx, fs)
  | .jex fs => some (.jex, fs)
  | .set fs => some (.set, fs)
  | .cze fs => some (.cze, fs)
  | .csp fs => some (.csp, fs)
  | .ccm fs => some (.ccm, fs)
  | .vpt fs => some (.vpt, fs)
  | .vcm fs => some (.vcm, fs)
  | .powerOn _ _ => none
  | .resetLineLow _ => none
  | .resetLineRelease _ _ => none
  | .scanEnd => none
  | .sampleInstant => none
  | .pollPulse _ => none
  | .replyWaitTimeout _ => none
  | .replyFrame _ _ _ => none
  | .frameEdgeTimeout _ => none
  | .quietWaitEnd _ => none
  | .lineShorted _ => none
  | .shortRetry _ => none
  | .lineRecovery _ => none
  | .beamLevelChange _ _ _ => none
  | .beamChange _ => none
  | .stripHit _ _ => none
  | .settleTimerExpires => none
  | .clearTimerExpires => none
  | .lockLevelChange _ _ => none
  | .lockPositionChange => none
  | .zerDeadline => none
  | .captureDeadline => none
  | .runCaptureDeadline => none
  | .axleWaitExpires => none
  | .clockSecond => none
  | .nvcWriteComplete _ => none
  | .rxCharacter _ _ _ => none
  | .canCharacter => none
  | .recordAssembly => none
  | .gapTimeout => none
  | .recordDispatch => none
  | .ctsChange _ => none
  | .txCharacterSent => none
  | .recordPlacement => none
  | .noticeEmission => none
  | .streamItem => none
  | .powerFailure _ => none
  | .badFrame _ _ _ => none

/-- A field's characters, 0x21 to 0x7E, at least one (section 11.2). -/
def fieldOk (t : Text) : Bool := !t.isEmpty && t.all fun c => 0x21 ≤ c.toNat && c.toNat ≤ 0x7E

/-- The text of a command record, without its CR: `>`, the tag, each field after one space. -/
def recordText (t : Tag) (fields : List Text) : Text := tRecord '>' (tagText t) fields

/-- The fields make a record of at most 120 characters. -/
def recordOk (t : Tag) (fields : List Text) : Bool :=
  fields.all fieldOk && decide ((recordText t fields).length ≤ Config.recordCap)

/-- GET NVC is a row of its own: GET's own fields do not begin with NVC (R191). -/
def notNvc : List Text → Bool
  | f :: _ => f != tNvc
  | [] => true

/-- Well-formed commands. -/
def Instr.wf (i : Instr) : Bool :=
  (match i.command? with
    | some (t, fs) => recordOk t fs
    | none => true) &&
    (match i with
      | .get fs => notNvc fs
      | .replyFrame _ ref syms => decide (0 < ref) && syms.length == 8
      | .badFrame _ ref syms => decide (0 < ref) && decide (syms.length ≤ 8)
      | _ => true)

end Sys2Proof
end

