-- ==== Sys2Proof/Safety.lean ====
section
/-! DEFINITION. The terms the claims use: when the part takes commands, the rules that hold in every state a run reaches, and how a
reply, an acceptance and a placed record change the state. -/

namespace Sys2Proof.Safety

open Sys2Proof.Machine

/-! ### Taking commands -/

/-- The UART runs and READY has been sent: commands pass check 5 (R200). -/
abbrev TakesCommands (d : Device) : Prop := uartOn d = true ∧ d.ntc.readySent = true

/-- Commands are taken and the long-operation slot is IDLE: long commands pass check 6 (R200). -/
abbrev TakesLong (d : Device) : Prop := TakesCommands d ∧ d.exe.slot = none

/-! ### Rules of every reached state -/

/-- The entry light of R82 and R83, RED outside operation (R85). -/
def EntryLightRule (d : Device) : Prop :=
  d.lsv.greenIn = true ↔ d.power.phase = .run ∧
    (d.lsv.modeIn = .forceGreen ∨
      d.lsv.modeIn = .auto ∧ d.lsv.lane = .clear ∧ d.zsu.set = true ∧ d.mst.state ≠ .uncalibrated ∧ d.mst.run = none)

/-- The exit light of R82 and R83, RED outside operation (R85). -/
def ExitLightRule (d : Device) : Prop :=
  d.lsv.greenOut = true ↔ d.power.phase = .run ∧
    (d.lsv.modeOut = .forceGreen ∨
      d.lsv.modeOut = .auto ∧ (d.lsv.lane = .onDeck ∨ d.lsv.lane = .leaving) ∧ ∃ p, d.lsv.current = some p ∧ p.ring ≠ [])

/-- Both lights follow their rules. -/
def LightRule (d : Device) : Prop := EntryLightRule d ∧ ExitLightRule d

/-- The lights as they stand are those their modes and conditions give: re-evaluating them changes nothing. -/
abbrev LightsSettled (d : Device) : Prop := refreshLights d = d

/-- The canonical form of the store: the places of every table strictly rise. -/
abbrev StoreForm (nv : NvStore) : Prop := nvWf nv.audit ∧ nvWf nv.tares ∧ nvWf nv.visits ∧ nvWf nv.journal

/-- Zero (R48): UNSET exactly in INIT, with Z = Zcal and Z_init absent; SET with an active record, Z within 4% of Max of Z_init and
Z_init within 10% of Max of Zcal, in fine units. -/
def ZeroRule (d : Device) : Prop :=
  (d.zsu.set = false ↔ d.lsv.lane = .init) ∧
  (d.zsu.set = false → d.zsu.z = d.mst.active.map (·.zcal) ∧ d.zsu.zInit = none) ∧
  (d.zsu.set = true → ∃ r z zi, d.mst.active = some r ∧ d.zsu.z = some z ∧ d.zsu.zInit = some zi ∧
    (z - zi).natAbs ≤ 4 * r.max ∧ (zi - r.zcal).natAbs ≤ 10 * r.max)

/-- The bounds of the message port's buffers: the FIFO, the record buffer and the output queue (R197, R199, R204). -/
abbrev PortBounds (d : Device) : Prop :=
  d.rx.fifo.length ≤ 64 ∧ d.rx.buf.length ≤ 120 ∧ d.tx.queue.length ≤ 2048

/-! ### Numbers -/

/-- q is the integer nearest to n / d, and the one farther from zero when n / d lies halfway between two (00, section 4.2). -/
def Nearest (n : Int) (d : Nat) (q : Int) : Prop :=
  2 * (n - q * d).natAbs ≤ d ∧ (2 * (n - q * d).natAbs = d → n.natAbs ≤ q.natAbs * d)

/-! ### The form of a command record (section 11.2) -/

/-- The text is `>`, a name of three capitals or digits, then fields of the characters 0x21 to 0x7E, each after one or more spaces, and
nothing after the last (check 3 of R200). -/
def CommandForm (t name : Text) (fs : List Text) : Prop :=
  name.length = 3 ∧ (∀ c ∈ name, (65 ≤ c.toNat ∧ c.toNat ≤ 90) ∨ (48 ≤ c.toNat ∧ c.toNat ≤ 57)) ∧
  (∀ f ∈ fs, f ≠ [] ∧ ∀ c ∈ f, 0x21 ≤ c.toNat ∧ c.toNat ≤ 0x7E) ∧
  ∃ gaps : List Nat, gaps.length = fs.length ∧ (∀ n ∈ gaps, 0 < n) ∧
    t = '>' :: (name ++ (gaps.zip fs).flatMap fun g => List.replicate g.1 ' ' ++ g.2)

/-! ### How a command shows -/

/-- A record as it goes to the host: lead, name, fields and CR LF (R207). -/
def recordOf (lead : Char) (name : Text) (fields : List Text) : Text := tRecord lead name fields ++ tCrLf

/-- The state whose device has become d, with the lights evaluated again (R82); the store and the queue of commands stay. Every
field of the device that d does not change therefore stays, the two light outputs aside, which follow their rule. -/
def becomes (s : State) (d : Device) : State := { s with dev := refreshLights d }

/-- The device with one more reply or refusal waiting to be placed, and nothing else changed: in the order taken, so behind an AUD read
that waits for the report of a write, while there is one (R186, R204). -/
def withReply (r : Text) (d : Device) : Device :=
  if d.tx.held = [] then { d with tx := { d.tx with replies := d.tx.replies ++ [r] } }
  else { d with tx := { d.tx with held := d.tx.held ++ [.formed r] } }

/-- A formed reply or refusal waits, to be placed or behind an AUD read that waits for a report (R204). -/
abbrev RepliesWait (d : Device) : Prop := d.tx.replies ≠ [] ∨ ∃ r, HeldReply.formed r ∈ d.tx.held

/-- `=TAG` with its fields waits, and nothing else changes. -/
def answered (t : Tag) (fields : List Text) (d : Device) : Device := withReply (recordOf '=' (tagText t) fields) d

/-- `#TAG code` waits, and nothing else changes; that an owner's refusal waits among the replies is the model's choice (log entry 58). -/
def refused (t : Tag) (c : Code) (d : Device) : Device := withReply (recordOf '#' (tagText t) [c.text]) d

/-- A long command's acceptance: the slot taken, its stage, its `+TAG` record waiting, nothing else changed. -/
def acceptedAs (t : Tag) (st : Stage) (d : Device) : Device :=
  { d with exe := ⟨some t, st⟩, tx := { d.tx with longs := d.tx.longs ++ [recordOf '+' (tagText t) []] } }

/-- The end of the long command of a tag: its ending record waits, the slot is kept until it is placed, nothing else changed. -/
def endedWith (lead : Char) (t : Tag) (fields : List Text) (d : Device) : Device :=
  { d with exe := { d.exe with stage := .ended }, tx := { d.tx with longs := d.tx.longs ++ [recordOf lead (tagText t) fields] } }

/-- The long operation's stage changes alone. -/
def atStage (st : Stage) (d : Device) : Device := { d with exe := { d.exe with stage := st } }

/-- A write request while a write is in progress or the queue is not served: it joins the end of the queue (R186), and the
high-water mark is raised (R188). -/
def queued (r : WriteReq) (d : Device) : Device :=
  { d with nvc := { d.nvc with queue := d.nvc.queue ++ [r],
                               report := { d.nvc.report with high := max d.nvc.report.high ((outstanding d).length + 1) } } }

/-- A write request while the queue is served and nothing is outstanding: the NVC takes it at once. -/
def takenNow (r : WriteReq) (d : Device) : Device :=
  { d with nvc := { d.nvc with writing := some r, report := { d.nvc.report with high := max d.nvc.report.high 1 } } }

/-- A request made: taken at once when the queue is served and nothing is outstanding, else at the end of the queue (R186). -/
def requested (r : WriteReq) (d : Device) : Device :=
  if d.nvc.serving = true ∧ outstanding d = [] then takenNow r d else queued r d

/-- While the queue is served, a request waits only behind a write in progress (R186). -/
abbrev QueueServed (d : Device) : Prop := d.nvc.serving = true → d.nvc.writing = none → d.nvc.queue = []

/-- A notice class of those the host can disable is marked pending, when enabled (R205). -/
def noticed (c : Notice) (d : Device) : Device :=
  if d.ntc.enabled.get c then { d with ntc := { d.ntc with pending := d.ntc.pending.put c true } } else d

/-! ### What replies and notices carry, field by field, spelled apart from the model's own replies -/

/-- The fields of =JST and of !JRN (R145): the number the next record will take is counted on while a record is being written (R134). -/
def journalShown (nv : NvStore) (d : Device) : List Text :=
  [tOpt tNat nv.oldest, tOpt tNat nv.newest, tNat d.txu.exportMark, tNat (nv.unexported d.txu.exportMark),
    tNat (match d.exe.stage with
      | .record _ r => r.number + 1
      | .tornAfter _ n => n + 1
      | _ => nv.nextTicket d.txu.owedTorn), tOpt tNat d.txu.owedTorn, if journalFull nv d then tFull else ['-']]

/-- A read of an audit number finds a slot that fails its check (R178, R183, R188): no record has the number, and the slot as many places
before that of newest as the number lies below it fails. -/
def readFails (nv : NvStore) (n : Nat) : Bool :=
  nv.audits.all (fun r => r.number != n) && (match nv.auditNewest with
    | some hi => match slotOfAudit nv.audit hi with
      | some k => (nv.auditCell ((k + 255 - (hi - n) % 256) % 256 + 1)).isTorn
      | none => false
    | none => false)

/-- The fields of =AUD for a list of numbers: each record, or TORN for a number whose slot fails, then the number of the next (R183). -/
def auditShown (nv : NvStore) (ns : List Nat) (next : Option Nat) : List Text :=
  (ns.flatMap fun n => match nv.audits.find? fun r => r.number == n with
    | some r => [tNat r.number, r.body.kindText, tOpt tTime r.time, tOpt tNat r.counter] ++ r.body.fields
    | none => [tNat n, AuditBody.kindText .torn, ['-'], ['-']]) ++ next.toList.map tNat

/-- The fields of =MST and of !MET (R184). -/
def metrologyShown (d : Device) : List Text :=
  [if d.mst.run.isSome then tCalibrating else d.mst.state.text, if d.mst.run.isSome then d.mst.state.text else ['-'],
    tOpt tDate d.mst.due,
    (match d.mst.due, d.nvc.clock with
      | some due, some t => tInt ((due : Int) - (t / 86400 : Nat))
      | _, _ => ['-']), tNat d.mst.counter, tOpt tTime (d.mst.active.map (·.commitTime)),
    if d.mst.lock.state then tOpen else ['L', 'O', 'C', 'K', 'E', 'D'], if d.mst.run.isSome then tOpen else tNone,
    (match d.exe.slot with
      | some .cze => if d.exe.stage = .ended then ['-'] else ['C', 'Z', 'E']
      | some .csp => if d.exe.stage = .ended then ['-'] else ['C', 'S', 'P']
      | some .ccm => if d.exe.stage = .ended then ['-'] else ['C', 'C', 'M']
      | _ => ['-']), if HeldReq.discard ∈ d.mst.held then tOwed else ['-'],
    if d.mst.verif.isSome then tOpen else tNone, tNat (match d.mst.verif with
      | some points => points.length
      | none => 0),
    (match d.exe.stage with
      | .capWait (.vpt _) _ => ['V', 'P', 'T']
      | _ => ['-']), if d.auu.next = none then tExhausted else ['-']]

/-- The state of each line, then of each slot: the fields of !CEL (R23). -/
def cellsShown (d : Device) : List Text :=
  Ix.all.map (fun l => (lineOf d l).status.text) ++ SlotId.all.map fun i => (slotOf d i).state.text

/-- The fields of !LNE (R84). -/
def laneShown (d : Device) : List Text :=
  [d.lsv.lane.text, tOpt tNat (d.lsv.current.map (·.number)), if d.lsv.beamIn.state then ['B', 'L', 'O', 'C', 'K', 'E', 'D'] else tClear,
    if d.lsv.beamOut.state then ['B', 'L', 'O', 'C', 'K', 'E', 'D'] else tClear, d.lsv.modeIn.text, if d.lsv.greenIn then tGreen else tRed,
    d.lsv.modeOut.text, if d.lsv.greenOut then tGreen else tRed]

/-- A group as a compound field: kind, load, limit, excess (R207). -/
def groupShown (g : Group) : Text := joinWith '/' [g.kind.text, g.load.text, tNat g.limit, tOpt tInt g.excess]

/-- The axle gross, rounded to the division (R104). -/
def grossShown (p : Passage) : Text :=
  tOpt (fun g => tInt ((p.division.getD 1 : Int) * roundDiv g (100 * p.division.getD 1))) p.axleGross

/-- The fields of !AXL (R76, R205, R207): of the newest closed passage. -/
def axlesShown (d : Device) : List Text :=
  match d.lsv.history.getLast? with
  | some p =>
    [tNat p.number, p.cause.text, tOpt CloseCause.text p.closeCause, tOpt tTime p.openTime, tOpt tTime p.closeTime,
      tOpt AxleResult.text p.result, tNat p.axles.length, tNat p.counted, grossShown p, p.flags.text, tNat p.ring.length,
      tNat p.groups.length] ++ p.groups.map groupShown
  | none => []

/-- The fields of !SYS READY: what the scan found (R195). -/
def readyShown (r : ReadyReport) : List Text :=
  [tReady, if r.cause = .power then ['P', 'O', 'W', 'E', 'R'] else ['R', 'E', 'S', 'E', 'T'], (r.clock.map tTime).getD tUnset,
    if r.settingsValid then tValid else tDefault,
    (match r.calibration with
      | .valid => tValid
      | .invalid => tInvalid
      | .blank => ['B', 'L', 'A', 'N', 'K']), tNat r.counter, r.state.text,
    (match r.journalRepair with
      | .none => tNone
      | .written n => tNat n
      | .owed n => tOwed ++ ['/'] ++ tNat n),
    (match r.auditRepair with
      | .none => tNone
      | .written n => tNat n
      | .owed n => tOwed ++ ['/'] ++ tNat n),
    tNat r.openVisits, tNat r.dropped, tNat r.freed, tNat r.tares, tNat r.scanFail]

/-- What a notice carries at its emission (section 11.5). -/
def noticeShown (nv : NvStore) (d : Device) : Notice → List Text
  | .sys => readyShown d.nvc.ready
  | .met => metrologyShown d
  | .cel => cellsShown d
  | .lne => laneShown d
  | .axl => axlesShown d
  | .jrn => journalShown nv d

/-- A passage in the list =PAS gives (R81). -/
def passageLine (p : Passage) : List Text :=
  [tNat p.number, p.cause.text, tOpt CloseCause.text p.closeCause, tOpt tTime p.openTime, tOpt tTime p.closeTime, p.flags.text,
    tNat p.ring.length, tOpt AxleResult.text p.result]

/-- A passage in full (R81, R207): its record, the attachment-owed mark, then its axles, intervals and groups, each list after its
count (log entry 33); the forms of sets, of a solve outcome and of what a PENDING interval shows are log entry 44. -/
def passageWhole (p : Passage) : List Text :=
  let numbers (l : List Nat) : Text := if l = [] then ['-'] else joinWith ',' (l.map tNat)
  let index (i : Option (BitVec 40)) : Text := tOpt (fun i => tNat i.toNat) i
  [tNat p.number, p.cause.text, tOpt tTime p.openTime, tNat p.openAt, tOpt tTime p.closeTime, tOpt tNat p.closeAt,
    tOpt CloseCause.text p.closeCause, p.flags.text] ++
  tNat p.ring.length :: p.ring.map (fun w =>
    joinWith '/' [tInt w.weight, tNat w.d, tOpt tTime w.time, tOpt tNat w.counter, tOpt tNat w.passage, w.source.text]) ++
  [grossShown p, tOpt AxleResult.text p.result, if p.owedMark then tOwed else ['-']] ++
  tNat p.axles.length :: p.axles.flatMap (fun a =>
    [tNat a.number, tNat a.tA, tNat a.tB,
      (a.speed.map fun v => tInt (roundDiv (1000 * v.cm) v.ms)).getD ['U', 'N', 'K', 'N', 'O', 'W', 'N'],
      a.spacing.text, tOpt tNat a.tC, a.load.text]) ++
  tNat p.intervals.length :: p.intervals.flatMap (fun v =>
    [tNat v.number, numbers v.axles, tNat v.start, tOpt tNat v.stop, index v.first, index v.last, tNat v.count, tNat v.usable,
      v.usability.text, tOpt tHundredths v.mean] ++ v.outcome.text) ++
  tNat p.groups.length :: p.groups.flatMap (fun g =>
    [tNat g.number, g.kind.text, numbers g.axles, g.load.text, tNat g.limit, tOpt tInt g.excess, g.verdict.text])

/-! ### Reports of writes -/

/-- The completion of a command that has made a record (R142, R143, R120). -/
def recordShown (r : JournalRec) : List Text :=
  let result (x : Option Summary) : Text := tOpt AxleResult.text (x.map (·.result))
  match r.body with
  | .ticket _ ref _ a b net x flags =>
    [tNat r.number, ['T', 'I', 'C', 'K', 'E', 'T'], ref, tInt a.weight, tInt b.weight, tInt net, result x, flags.text]
  | .onepass ref a b net x flags =>
    [tNat r.number, ['O', 'N', 'E', 'P', 'A', 'S', 'S'], ref, tInt a.weight, tInt b.weight, tInt net, result x, flags.text]
  | .gross ref a x flags => [tNat r.number, ['G', 'R', 'O', 'S', 'S'], ref, tInt a.weight, ['-'], result x, flags.text]
  | .void n => [tNat r.number, tNat n]
  | .cancel visit _ => [tNat visit, tNat r.number]
  | .torn => [tNat r.number]

/-- The device told of the report of the write in progress: none is in progress, and the count of its outcome is one higher (R188). -/
def reported (ok : Bool) (d : Device) : Device :=
  { d with nvc := { d.nvc with writing := none, report := if ok
    then { d.nvc.report with passed := min (d.nvc.report.passed + 1) 65535 }
    else { d.nvc.report with nvf := min (d.nvc.report.nvf + 1) 65535 } } }

/-- The owed list becomes l: the attachment-owed marks of the history and the copies handed over follow it (R78, R117). -/
def owing (l : List AttachEntry) (d : Device) : Device :=
  { d with
    lsv := { d.lsv with history := d.lsv.history.map fun p => { p with owedMark := l.any fun e => e.passage == p.number } }
    txu := { d.txu with owed := l, copies := d.txu.copies.filter fun c => l.any fun e => e.passage == c.1 } }

/-- The visit's awaiting and owed entries are gone (R115, R121). -/
def unattached (visit : Nat) (d : Device) : Device :=
  owing (d.txu.owed.filter fun e => e.visit != visit)
    { d with txu := { d.txu with awaiting := d.txu.awaiting.filter fun e => e.visit != visit } }

/-- The summary of a closed passage: from the history, else from the copy handed over (R117). -/
def summaryHeld (d : Device) (n : Nat) : Option Summary :=
  match d.lsv.history.find? fun p => p.number == n with
  | some p => some ⟨p.groups.map fun g => ⟨g.kind, g.load, g.limit, g.excess⟩, p.result.getD .absent, p.flags⟩
  | none => (d.txu.copies.find? fun c => c.1 == n).map (·.2)

/-- The summary an open visit gives its ticket: its own, or that of its owed passage, or the one an attachment write in progress carries;
none while it is AWAITING, and none for NONE (R119, R138). -/
def visitGives (d : Device) (v : VisitRec) : Option Summary :=
  match v.summary with
  | some x => some x
  | none =>
    if (∃ e ∈ d.txu.awaiting, e.visit = v.number) then none
    else match d.txu.owed.find? (fun e => e.visit == v.number) with
      | some e => summaryHeld d e.passage
      | none => (outstanding d).findSome? fun r => match r.source, r.write with
        | .attach n _, .visit _ _ c => if n = v.number then c.content.bind (·.summary) else none
        | _, _ => none

/-- The text of a journal record from its lead to the space before its check, by kind (R131, R132, and the table of R207). -/
def recordLine (number : Nat) (body : JournalBody) (time counter : Option Nat) : Text :=
  let weighing (w : Weighing) : Text := joinWith '/' [tInt w.weight, tNat w.d, tOpt tTime w.time, tOpt tNat w.counter,
    tOpt tNat w.passage, match w.source with
      | .static => ['S']
      | .keyed => ['K']]
  let summary (x : Option Summary) : List Text := match x with
    | none => [['-'], ['-'], ['0']]
    | some y => [y.result.text, y.flags.text, tNat y.groups.length] ++
        y.groups.map fun g => joinWith '/' [g.kind.text, g.load.text, tNat g.limit, tOpt tInt g.excess]
  let line (kind : Text) (fields : List Text) : Text :=
    tRecord ':' kind ([tNat number, tOpt tTime time, tOpt tNat counter] ++ fields) ++ [' ']
  match body with
  | .ticket n ref dir a b net x flags => line ['T', 'I', 'C', 'K', 'E', 'T']
      ([tNat n, ref, dir.text, weighing a, weighing b, tInt net] ++ summary x ++ [flags.text])
  | .onepass ref a b net x flags => line ['O', 'N', 'E', 'P', 'A', 'S', 'S']
      ([ref, weighing a, weighing b, tInt net] ++ summary x ++ [flags.text])
  | .gross ref a x flags => line ['G', 'R', 'O', 'S', 'S'] ([ref, weighing a] ++ summary x ++ [flags.text])
  | .void n => line ['V', 'O', 'I', 'D'] [tNat n]
  | .cancel n ref => line ['C', 'A', 'N', 'C', 'E', 'L'] [tNat n, ref]
  | .torn => line ['T', 'O', 'R', 'N'] []

/-- The check of R131 in closed form: s1 is the sum of the character codes, and s2 that of the running sums, so that the k-th character
counts once for itself and once for each character after it; both modulo 255. -/
def checkOf (t : Text) : Nat :=
  (t.zipIdx.map fun x => (t.length - x.2) * x.1.toNat).sum % 255 * 256 + (t.map (·.toNat)).sum % 255

/-- A ticket's record is made and its journal write requested, or first that of an owed TORN (R134, R135, R142). -/
def ticketMade (nv : NvStore) (x : Draft) (d : Device) : Device :=
  let made (n : Nat) (body : JournalBody) : JournalRec := JournalRec.make n body d.nvc.clock (d.mst.active.map (·.counter))
  match d.txu.owedTorn with
  | none =>
    let r := made (nv.nextTicket none) (recordBody (decide (d.mst.state = .suspect)) x)
    atStage (.record x r) (requested ⟨.longOp, .journal d.txu.writePos r⟩ d)
  | some n => atStage (.owedTorn x) (requested ⟨.longOp, .journal d.txu.writePos (made n .torn)⟩ d)

/-! ### Calibration runs -/

/-- The part a slot has in Zcal: its exact zero mean under the working copy's fields, as a cell weight rounded and limited to the slot's
range; nothing without a zero mean or an s (R160). -/
def ZeroPart (x : WorkCopy) (i : SlotId) (v : Int) : Prop :=
  match (x.marks.sel i).zeroMean, (x.slots.sel i).s, (x.slots.sel i).z with
  | some (sum, n), some span, some z => ∃ u lo hi : Int,
      (0 < n * span → Nearest ((sum - z * n) * ((x.slots.sel i).lref.getD 0 : Nat)) (n * span) u) ∧
      Nearest (-((x.slots.sel i).lcell.getD 0 : Nat)) 8 lo ∧ Nearest (3 * ((x.slots.sel i).lcell.getD 0 : Nat)) 2 hi ∧
      v = if u < lo then lo else if hi < u then hi else u
  | _, _, _ => v = 0

/-- The slots configured in a working copy. -/
def slotsUsed (w : WorkCopy) : List SlotId := SlotId.all.filter fun i => (w.slots.sel i).configured

/-- The exact sum of a slot's raw counts in a raw window (R157). -/
def rawSum (win : List (Slots (Option Int))) (i : SlotId) : Int := (win.map fun r => (r.sel i).getD 0).sum

/-! ### Axles -/

/-- An interval without an end ends at t (R93). -/
def endedAt (t : Nat) (v : Interval) : Interval := if v.stop = none then { v with stop := some t } else v

/-- An occupancy change at t: the open interval ends, and the next opens with the set, or INTERVALS-FULL is set (R93). -/
def nextInterval (t : Nat) (set : List Nat) (p : Passage) : Passage :=
  let l := p.intervals.map (endedAt t)
  if 40 ≤ l.length then { p with intervals := l, flags := { p.flags with intervalsFull := true } }
  else { p with intervals := l ++ [⟨l.length + 1, set, t, none, none, none, 0, 0, .pending, none, .none⟩] }

/-- One interval is examined in a substitution pass: with one axle of its set unsolved it solves that axle (R98). `found` lists the axles
solved so far, each with its load and the interval that solved it. -/
def examined (found : List (Nat × Int × Nat)) (v : Interval) : List (Nat × Int × Nat) :=
  match v.mean, v.axles.filter (fun n => found.all fun e => e.1 != n) with
  | some m, [n] =>
    found ++ [(n, m - (v.axles.filterMap fun k => (found.find? fun e => e.1 == k).map (·.2.1)).sum, v.number)]
  | _, _ => found

/-- What the passes find: 17 cover every case, for at most 16 axles can be solved and a pass that solves none changes nothing (R98). -/
def foundIn (l : List Interval) : List (Nat × Int × Nat) := (List.replicate 17 l).flatten.foldl examined []

/-- The load found for an axle. -/
def loadFound (found : List (Nat × Int × Nat)) (n : Nat) : Option Int := (found.find? fun e => e.1 == n).map (·.2.1)

/-- The kind of a group by its place and size (R101). -/
def kindOf (number size : Nat) : GroupKind :=
  match size with
  | 1 => if number = 1 then .steer else .single
  | 2 => .tandem
  | 3 => .triaxle
  | _ => .multi

/-- The limit a group takes: the setting for its kind (R101). -/
def limitOf (st : Settings) : GroupKind → Nat
  | .steer => st.lstr
  | .single => st.lsgl
  | .tandem => st.ltan
  | .triaxle => st.ltri
  | .multi => st.lmul

/-! ### Stability -/

/-- The stability window after a weight record (R45): the newest K entries, or nothing after a sample that does not qualify. -/
def windowThen (r : CalRecord) (wr : WeightRecord) (old : List WinEntry) : List WinEntry :=
  match wr.f with
  | some f =>
    if wr.total = none ∨ wr.clamped = true ∨ wr.held = true then []
    else
      let l := old ++ [⟨f, match wr.modules.get .i0 with
        | some m => m.load
        | none => none⟩]
      l.drop (l.length - max 2 (r.window / r.p))
  | none => []

/-- A sample is STABLE: K entries, and a spread of F of at most band × d_fine / 2 (R46). -/
def StillThen (r : CalRecord) (w : List WinEntry) : Prop :=
  w.length = max 2 (r.window / r.p) ∧ ∀ a ∈ w, ∀ b ∈ w, 2 * (a.f - b.f) ≤ ((r.band * (100 * r.d) : Nat) : Int)

/-- The device with the new window, and the weight record as the newest, judged. -/
def judgedAs (w : List WinEntry) (still : Bool) (wr : WeightRecord) (d : Device) : Device :=
  { d with zsu := { d.zsu with window := w }, csu := { d.csu with newest := some { wr with stable := still } } }

/-! ### Start-up -/

/-- The write position and the next number once an append has taken them (R178, R181). -/
def appendedAt (pos n : Nat) : Nat × Option Nat := (if pos ≥ 256 then 1 else pos + 1, if n ≥ 9999999 then none else some (n + 1))

/-- The next audit number the log alone gives: one past newest, none past 9,999,999 (R182). -/
def auditFollowing (nv : NvStore) : Option Nat :=
  match nv.auditNewest with
  | some n => if n ≥ 9999999 then none else some (n + 1)
  | none => some 1

/-- Write position and next audit number after the audit head repair (R182): past the TORN record, whether its write agreed or not. -/
def auditRepaired (nv : NvStore) : Nat × Option Nat :=
  match (nv.auditCell (auditHead nv)).isTorn, auditFollowing nv with
  | true, some n => appendedAt (auditHead nv) n
  | _, next => (auditHead nv, next)

/-- A table as its slots' newest contents give it, before the duplicate repair (R110, R111). -/
def tableRead {α : Type} (m : NvMap (TwoCopy (Option α))) : NvMap α :=
  m.filterMap fun e => match e.2.content with
    | some (some x) => some (e.1, x)
    | _ => none

/-- The tare entry keeps its place against another of its reference: stored later, or at the same time in a higher slot (R111). -/
abbrev tareStays (all : NvMap TareEntry) (e : Nat × TareEntry) : Prop :=
  ∀ q ∈ all, q.2.ref = e.2.ref → q.2.stored.getD 0 < e.2.stored.getD 0 ∨ (q.2.stored.getD 0 = e.2.stored.getD 0 ∧ q.1 ≤ e.1)

/-- The visit keeps its place against another of its reference: opened later, or at the same time with a higher number (R111). Two of
one number do not arise; the model keeps the one in the higher slot. -/
abbrev visitStays (all : NvMap VisitRec) (e : Nat × VisitRec) : Prop :=
  ∀ q ∈ all, q.2.ref = e.2.ref → q.2.opened.getD 0 < e.2.opened.getD 0 ∨ (q.2.opened.getD 0 = e.2.opened.getD 0 ∧
    (q.2.number < e.2.number ∨ (q.2.number = e.2.number ∧ q.1 ≤ e.1)))

/-- The visit number and the reference of a record that closes a visit: a TICKET or a CANCEL (R113, R149). -/
def visitClosed (r : JournalRec) : Option (Nat × Text) :=
  match r.body with
  | .ticket n ref .. => some (n, ref)
  | .cancel n ref => some (n, ref)
  | _ => none

/-- One of the newest 48 records held closes the visit: its number and its reference (R149). -/
abbrev reconciled (nv : NvStore) (v : VisitRec) : Prop :=
  ∃ r ∈ nv.tickets, nv.tickets.countP (fun q => r.number < q.number) < 48 ∧ visitClosed r = some (v.number, v.ref)

/-- One past the largest of the numbers, 1 past 65,535 and where there are none (R113). -/
def numberAfter (l : List Nat) : Nat := if l = [] then 1 else if l.foldl max 0 ≥ 65535 then 1 else l.foldl max 0 + 1

/-- 1 for a target that fails its check. -/
def failing {α : Type} (c : NvCell α) : Nat := if c.isTorn then 1 else 0

/-- The copies of a table's two-copy targets that fail their check. -/
def failingCopies {α : Type} (l : List (TwoCopy α)) : Nat := (l.map fun c => failing c.c1 + failing c.c2).sum

/-- The targets the scan finds failing, counted to 65,535 (R188). -/
def scanFailures (nv : NvStore) : Nat :=
  min (failing nv.settings + failing nv.calibration + failingCopies [nv.status] + (nv.audit.map fun e => failing e.2).sum +
    failingCopies (nv.tares.map (·.2)) + failingCopies (nv.visits.map (·.2)) +
    ((nv.journal.map fun e => failing e.2).sum + failingCopies [nv.exportRec])) 65535

/-- 1 for a target that was written, whether its check is right or not. -/
def written {α : Type} (c : NvCell α) : Nat := if c.isBlank then 0 else 1

/-- The copies of a table's two-copy targets that were written. -/
def writtenCopies {α : Type} (l : List (TwoCopy α)) : Nat := (l.map fun c => written c.c1 + written c.c2).sum

/-- The never-written targets the scan finds, counted to 65,535 (R188): of the records, slots and copies of section 10.1, those not written. -/
def blankTargets (nv : NvStore) : Nat :=
  min ((1 - written nv.settings) + (1 - written nv.calibration) + (2 - writtenCopies [nv.status]) +
    (256 - (nv.audit.map fun e => written e.2).sum) + (128 - writtenCopies (nv.tares.map (·.2))) +
    (96 - writtenCopies (nv.visits.map (·.2))) +
    ((4096 - (nv.journal.map fun e => written e.2).sum) + (2 - writtenCopies [nv.exportRec]))) 65535

/-- The state after the start-up scan that began in s, with its cause and the clock it was given, and whether the writes of the two head
repairs agreed: every volatile part at its reset value but for what the store gives; the store as it was but for the two head-repair
slots. -/
structure Started (cause : StartCause) (reading : Option Nat) (auditOk journalOk : Bool) (s t : State) : Prop where
  power : t.dev.power = ⟨.scan, false⟩
  clock : t.dev.nvc.clock = reading
  /-- the sample time base, which SCAN_END starts (R195; log entry 3) -/
  time : t.dev.now = 0
  /-- R26: all four lines ACTIVE, no poll, no sample yet -/
  lines : (∀ l, lineOf t.dev l = ⟨.active, .idle, none, false, 0⟩) ∧ (∀ i, isPolled t.dev i = false) ∧ t.dev.clc.cycle = none ∧
    t.dev.clc.nextIndex = 0 ∧ t.dev.clc.nextLatch = 0
  settings : t.dev.nvc.settings = s.nv.settings.content.getD Settings.default ∧ t.dev.nvc.settingsFailed = s.nv.settings.isTorn
  unserved : t.dev.nvc.serving = false ∧ t.dev.nvc.writing = none
  /-- R188: the writes of the head repairs, the targets found failing or never written and the requests waiting, counted from 0 -/
  report : let repairs := (if (s.nv.auditCell (auditHead s.nv)).isTorn = true ∧ auditFollowing s.nv ≠ none then [auditOk] else []) ++
      (if (s.nv.journalCell (journalHead s.nv)).isTorn = true ∧ s.nv.nextTicket none ≤ 9999999 ∧
        s.nv.slotFree t.dev.txu.exportMark (nextPlace 4096 (journalHead s.nv)) = true then [journalOk] else [])
    t.dev.nvc.report = ⟨repairs.count true, repairs.count false, 0, scanFailures s.nv, blankTargets s.nv, (outstanding t.dev).length⟩
  /-- R195: what the scan found; SCAN_END adds the clock, the counter and the state -/
  found : t.dev.nvc.ready.cause = cause ∧ t.dev.nvc.ready.settingsValid = s.nv.settings.content.isSome ∧
    t.dev.nvc.ready.calibration = (match s.nv.calibration with
      | .valid _ => .valid
      | .torn => .invalid
      | .blank => .blank) ∧
    t.dev.nvc.ready.scanFail = scanFailures s.nv ∧ t.dev.nvc.ready.openVisits = t.dev.txu.visits.length ∧
    t.dev.nvc.ready.tares = t.dev.txu.tares.length ∧
    t.dev.nvc.ready.dropped = (tableRead s.nv.visits).countP (fun e => decide (¬ visitStays (tableRead s.nv.visits) e)) ∧
    t.dev.nvc.ready.freed + t.dev.txu.visits.length =
      (tableRead s.nv.visits).countP (fun e => decide (visitStays (tableRead s.nv.visits) e)) ∧
    t.dev.nvc.ready.auditRepair = (match (s.nv.auditCell (auditHead s.nv)).isTorn, auditFollowing s.nv with
      | true, some n => if auditOk then .written n else .none
      | _, _ => .none) ∧
    t.dev.nvc.ready.journalRepair = (if (s.nv.journalCell (journalHead s.nv)).isTorn = true ∧ s.nv.nextTicket none ≤ 9999999 then
      (if s.nv.slotFree t.dev.txu.exportMark (nextPlace 4096 (journalHead s.nv)) = true ∧ journalOk = true
        then .written (s.nv.nextTicket none) else .owed (s.nv.nextTicket none)) else .none)
  /-- R154, R169: the lock as its pin stands, and no request held back -/
  lock : t.dev.mst.lock = ⟨s.dev.mst.lock.raw, s.dev.mst.lock.raw, none⟩ ∧ t.dev.mst.held = []
  lsv : t.dev.lsv = Lsv.reset s.dev.lsv.beamIn.raw s.dev.lsv.beamOut.raw
  axu : t.dev.axu = Axu.reset
  csu : t.dev.csu = Csu.reset
  zsu : t.dev.zsu = { Zsu.reset with z := s.nv.calibration.content.map (·.zcal) }
  active : t.dev.mst.active = s.nv.calibration.content
  runs : t.dev.mst.run = none ∧ t.dev.mst.verif = none
  slots : ∀ i, slotOf t.dev i = Slot.reset
    (if ((s.nv.calibration.content.map fun r => (r.slots.sel i).configured).getD false) = true then .seeking else .unused)
  mark : t.dev.txu.exportMark = (match s.nv.exportRec.content, s.nv.oldest with
    | some e, _ => e
    | none, some n => n - 1
    | none, none => 0)
  cursor : t.dev.txu.cursor = none
  rx : t.dev.rx = Rx.reset true
  tx : t.dev.tx = { Tx.reset s.dev.tx.cts with rate := t.dev.nvc.settings.rate, par := t.dev.nvc.settings.par }
  /-- R208: every class enabled and none pending, but MET when the CAL-INVALID record finds the audit numbers exhausted (R181) -/
  notices : t.dev.ntc = ⟨PerNotice.all true, { PerNotice.all false with met := s.nv.calibration.isTorn && (auditRepaired s.nv).2.isNone },
    false⟩
  exe : t.dev.exe = ⟨none, .none⟩
  store : t.nv.settings = s.nv.settings ∧ t.nv.calibration = s.nv.calibration ∧ t.nv.status = s.nv.status ∧
    t.nv.tares = s.nv.tares ∧ t.nv.visits = s.nv.visits ∧ t.nv.exportRec = s.nv.exportRec
  audit : ∀ k, k ≠ auditHead s.nv ∨ (s.nv.auditCell k).isTorn = false → t.nv.auditCell k = s.nv.auditCell k
  /-- R182: the TORN record carries newest + 1; it carries no counter -/
  auditTorn : ∀ n, (s.nv.auditCell (auditHead s.nv)).isTorn = true → auditFollowing s.nv = some n →
    t.nv.auditCell (auditHead s.nv) = if auditOk then .valid ⟨n, .torn, reading, none⟩ else .torn
  journal : ∀ k, k ≠ nextPlace 4096 (journalHead s.nv) ∨ (s.nv.journalCell (journalHead s.nv)).isTorn = false →
    t.nv.journalCell k = s.nv.journalCell k
  /-- R149: no repair where the slot at the write position does not fail, or no number is left -/
  journalWhole : (s.nv.journalCell (journalHead s.nv)).isTorn = false ∨ 9999999 < s.nv.nextTicket none →
    t.nv.journal = s.nv.journal ∧ t.dev.txu.writePos = journalHead s.nv ∧ t.dev.txu.owedTorn = none ∧ t.dev.txu.fullUntilE = false
  /-- R149: the TORN record goes to the slot after the failing one, or its number is owed and the journal full -/
  journalTorn : (s.nv.journalCell (journalHead s.nv)).isTorn = true → s.nv.nextTicket none ≤ 9999999 →
    let n := s.nv.nextTicket none
    let slot := nextPlace 4096 (journalHead s.nv)
    (s.nv.slotFree t.dev.txu.exportMark slot = true →
      t.nv.journalCell slot = (if journalOk then .valid (JournalRec.make n .torn reading (t.dev.mst.active.map (·.counter)))
        else .torn) ∧
      t.dev.txu.writePos = nextPlace 4096 slot ∧ t.dev.txu.owedTorn = (if journalOk then none else some n) ∧
      t.dev.txu.fullUntilE = !journalOk) ∧
    (s.nv.slotFree t.dev.txu.exportMark slot = false → t.nv.journal = s.nv.journal ∧ t.dev.txu.writePos = journalHead s.nv ∧
      t.dev.txu.owedTorn = some n ∧ t.dev.txu.fullUntilE = true)
  /-- R153: the counter is the largest of the calibration record's, the status record's and that of the newest CAL-COMMIT held -/
  counter : let kept := max ((s.nv.calibration.content.map (·.counter)).getD 0) ((s.nv.status.content.map (·.counter)).getD 0)
    let commits := t.nv.audits.filter fun r => match r.body with
      | .calCommit .. => true
      | _ => false
    (commits = [] → t.dev.mst.counter = kept) ∧
    ∀ r ∈ commits, (∀ q ∈ commits, q ≠ r → q.number < r.number) → t.dev.mst.counter = max kept (r.counter.getD 0)
  /-- R153: metrology state and due date; the status write of a record whose status is not its own -/
  state : match s.nv.calibration with
    | .valid r =>
      (∀ st, s.nv.status.content = some st → st.counter = r.counter → t.dev.mst.state = st.state ∧ t.dev.mst.due = st.due) ∧
      ((∀ st, s.nv.status.content = some st → st.counter ≠ r.counter) → t.dev.mst.state = .suspect ∧ t.dev.mst.due = none ∧
        ⟨.status false, statusWrite s.nv ⟨.suspect, none, r.counter⟩⟩ ∈ outstanding t.dev)
    | _ => t.dev.mst.state = .uncalibrated ∧ t.dev.mst.due = none
  /-- R153, R182: the AUU's position and number, past the CAL-INVALID record asked for when the calibration record fails its check -/
  auu : let p := auditRepaired s.nv
    match s.nv.calibration.isTorn, p.2 with
    | true, some n => t.dev.auu = ⟨(appendedAt p.1 n).1, (appendedAt p.1 n).2, false⟩ ∧
        ⟨.calInvalid, .audit p.1 ⟨n, .calInvalid, reading, some t.dev.mst.counter⟩⟩ ∈ outstanding t.dev
    | true, none => t.dev.auu = ⟨p.1, none, true⟩
    | false, next => t.dev.auu = ⟨p.1, next, false⟩
  /-- R111: the stored-tare table after its duplicate repair -/
  tares : (∀ e, e ∈ t.dev.txu.tares ↔ e ∈ tableRead s.nv.tares ∧ tareStays (tableRead s.nv.tares) e) ∧
    t.dev.txu.tares.Sublist (tableRead s.nv.tares)
  /-- R111, R149: the open-visit table after its duplicate repair and visit reconciliation -/
  visits : (t.nv.tickets.map (·.number)).Nodup →
    (∀ e, e ∈ t.dev.txu.visits ↔ e ∈ tableRead s.nv.visits ∧ visitStays (tableRead s.nv.visits) e ∧ ¬ reconciled t.nv e.2) ∧
    t.dev.txu.visits.Sublist (tableRead s.nv.visits)
  /-- R111, R187: a slot whose record was dropped or freed is to be written FREE, at once while the share has room, else held -/
  freeing : (∀ k, (∃ e, (k, e) ∈ tableRead s.nv.tares ∧ (k, e) ∉ t.dev.txu.tares) ↔
      ⟨.freeTare k false, tareWrite s.nv k none⟩ ∈ outstanding t.dev ∨ ⟨false, k, false⟩ ∈ t.dev.txu.freeHeld) ∧
    (∀ k, (∃ e, (k, e) ∈ tableRead s.nv.visits ∧ (k, e) ∉ t.dev.txu.visits) ↔
      ⟨.freeVisit k false, visitWrite s.nv k none⟩ ∈ outstanding t.dev ∨ ⟨true, k, false⟩ ∈ t.dev.txu.freeHeld)
  /-- R113: the next visit number, from the open visits and the newest record that carries one -/
  nextVisit : (∀ r x, r ∈ t.nv.tickets → visitClosed r = some x →
      (∀ q ∈ t.nv.tickets, visitClosed q ≠ none → q ≠ r → q.number < r.number) →
      t.dev.txu.nextVisit = numberAfter (t.dev.txu.visits.map (·.2.number) ++ [x.1])) ∧
    ((∀ r ∈ t.nv.tickets, visitClosed r = none) → t.dev.txu.nextVisit = numberAfter (t.dev.txu.visits.map (·.2.number)))
  /-- R187: the scan asks for these writes alone -/
  requests : ∀ r ∈ outstanding t.dev, (∃ k, r = ⟨.freeTare k false, tareWrite s.nv k none⟩ ∨ r = ⟨.freeVisit k false, visitWrite s.nv k none⟩) ∨
    r.source = .status false ∨ r.source = .calInvalid
  attachments : t.dev.txu.awaiting = [] ∧ t.dev.txu.owed = [] ∧ t.dev.txu.copies = []
  pending : t.pending = s.pending

/-! ### Host commands -/

/-- The rows that name a host command. -/
def isHostCommand (i : Instr) : Bool := i.command?.isSome

/-- The rows that name a long command. -/
def isLongCommand (i : Instr) : Bool := (i.command?.map fun c => isLongTag c.1).getD false

end Sys2Proof.Safety
end

