-- ==== Sys2Proof/Certificates/Slice0/Obligations.lean ====
section
/-! DEFINITION. The statements for the provers. `becomes s d` is the state whose device has become d with its lights evaluated again;
every field a statement does not name stays as it was. -/

open Sys2Proof Sys2Proof.Machine Sys2Proof.Safety

/-! ### Steps, reset and the rules of every state -/

/-- One step takes the command at the front of the queue and runs it with the queue's rest. -/
def Obligations.StepRunsFrontCommand : Prop :=
  ∀ (c : Instr) (rest : List Instr) (s : State), s.pending = c :: rest → step s = exec c { s with pending := rest }

/-- Every command completes: none faults, none is refused, and none touches the queue of waiting commands. That an event which cannot
happen in a state, such as a reply with no poll, completes with no effect is the model's choice (log entry 2). -/
def Obligations.EveryCommandCompletes : Prop :=
  ∀ (c : Instr) (s : State), ∃ t, exec c s = .next t ∧ t.pending = s.pending

/-- What reset leaves (R26, R44, R62, R85, R109, R129, R150, R169, R176, R208). That the part is fresh from manufacture, after its
power-on scan, with the pins at these levels, is the model's choice (log entries 6, 7 and 18); the scan has found all 4,582 targets of its
store never written (R188; log entry 53).
The rules that every step keeps hold there. -/
def Obligations.ResetState : Prop :=
  ((∀ i, slotOf State.reset.dev i = Slot.reset .unused) ∧
  (∀ l, (lineOf State.reset.dev l).status = .active ∧ (lineOf State.reset.dev l).phase = .idle) ∧
  State.reset.dev.csu = ⟨[], Quad.const (Quad.const none), none⟩ ∧
  State.reset.dev.zsu = ⟨[], false, none, none, false, none⟩ ∧
  State.reset.dev.lsv.lane = .init ∧ State.reset.dev.lsv.current = none ∧ State.reset.dev.lsv.history = [] ∧
  State.reset.dev.lsv.nextPassage = 1 ∧ State.reset.dev.lsv.settle = none ∧ State.reset.dev.lsv.clear = none ∧
  State.reset.dev.lsv.modeIn = .auto ∧ State.reset.dev.lsv.modeOut = .auto ∧ State.reset.dev.lsv.greenIn = false ∧
  State.reset.dev.lsv.greenOut = false ∧ State.reset.dev.lsv.hitA = none ∧ State.reset.dev.lsv.hitB = none ∧
  State.reset.dev.lsv.hitC = none ∧ State.reset.dev.lsv.occupancy = .unknown ∧
  State.reset.dev.axu = ⟨false, [], [], none, none, 0, 0, 0, 0, []⟩ ∧
  State.reset.dev.txu.visits = [] ∧ State.reset.dev.txu.tares = [] ∧ State.reset.dev.txu.nextVisit = 1 ∧
  State.reset.dev.txu.exportMark = 0 ∧ State.reset.dev.txu.cursor = none ∧ State.reset.dev.txu.owedTorn = none ∧
  State.reset.dev.mst.active = none ∧ State.reset.dev.mst.state = .uncalibrated ∧ State.reset.dev.mst.counter = 0 ∧
  State.reset.dev.mst.run = none ∧ State.reset.dev.mst.verif = none ∧
  State.reset.dev.auu.writePos = 1 ∧ State.reset.dev.auu.next = some 1 ∧
  State.reset.dev.nvc.clock = none ∧ State.reset.dev.nvc.settings = Settings.default ∧ State.reset.dev.nvc.writing = none ∧
  State.reset.dev.nvc.queue = [] ∧ State.reset.dev.nvc.report = ⟨0, 0, 0, 0, 4582, 0⟩ ∧
  State.reset.dev.rx.fifo = [] ∧ State.reset.dev.rx.buf = [] ∧ State.reset.dev.tx.queue = [] ∧ State.reset.dev.exe.slot = none ∧
  (∀ c, State.reset.dev.ntc.enabled.get c = true ∧ State.reset.dev.ntc.pending.get c = false) ∧
  State.reset.nv = NvStore.blank ∧ State.reset.pending = []) ∧
  (StoreForm State.reset.nv ∧ ZeroRule State.reset.dev ∧ PortBounds State.reset.dev ∧ QueueServed State.reset.dev ∧
    LightRule State.reset.dev)

/-- Both lights follow R82, R83 and R85 after every command, from every state. -/
def Obligations.LightOutputsFollowRule : Prop :=
  ∀ (c : Instr) (s t : State), exec c s = .next t → LightRule t.dev

/-- Only the end of a write, a reset, a power failure and the repairs of the start-up scan change the non-volatile store. -/
def Obligations.StoreChangesOnlyAtWritesAndPower : Prop :=
  ∀ (c : Instr) (s t : State), exec c s = .next t →
    (∀ a j, c ≠ .powerOn a j) → (∀ p, c ≠ .resetLineLow p) → (∀ a j, c ≠ .resetLineRelease a j) →
    (∀ x, c ≠ .nvcWriteComplete x) → (∀ p, c ≠ .powerFailure p) → t.nv = s.nv

/-- The canonical form of the store's tables is kept by every step. -/
def Obligations.StoreFormKept : Prop :=
  ∀ s t : State, StoreForm s.nv → step s = .next t → StoreForm t.nv

/-- The rule of zero (R48) is kept by every step. -/
def Obligations.ZeroRuleKept : Prop :=
  ∀ s t : State, ZeroRule s.dev → step s = .next t → ZeroRule t.dev

/-- The bounds of the FIFO, the record buffer and the output queue are kept by every step, and a served queue of the NVC holds requests
only behind a write in progress. -/
def Obligations.QueuesKept : Prop :=
  (∀ s t : State, PortBounds s.dev → step s = .next t → PortBounds t.dev) ∧
  ∀ s t : State, QueueServed s.dev → step s = .next t → QueueServed t.dev

/-! ### The path of a command (R200 to R202) -/

/-- A completed record whose text is that of a well-formed host command runs that command, on the emptied buffer, when there is room
for the record it produces, and waits when there is none. What a host-command row stands for, that the room is that of the one record
dispatch produces (log entry 4), and that no record is dispatched while an AUD read waits for the report of a write, nor one whose own
read would wait (log entry 31), is the model's reading. -/
def Obligations.HostRecordDispatch : Prop :=
  ∀ (i : Instr) (g : Tag) (fs : List Text) (s : State), i.wf = true → i.command? = some (g, fs) →
    uartOn s.dev = true → s.dev.rx.complete = true → s.dev.rx.buf = recordText g fs → s.dev.rx.err = false →
    s.dev.rx.ovf = false →
    ∃ t, exec i { s with dev := { s.dev with rx := s.dev.rx.emptied } } = .next t ∧
      exec .recordDispatch s =
        .next (if s.dev.tx.replies = [] ∧ t.dev.tx.held = [] ∧ s.dev.tx.placing = [] ∧
            (s.dev.tx.queue = [] ∨ s.dev.tx.queue.length + (produced s.dev t.dev).length ≤ 2048)
          then t else becomes s s.dev)

/-- Records with an error mark, too long, not in command form, or of an unknown tag are refused, in this order (R200). The form of check 3
is that of section 11.2, a tag of three capitals or digits and fields of printable characters each after one or more spaces
(`CommandForm`); that it allows no space after the last field is the model's reading (log entry 10). -/
def Obligations.MalformedRecordRefused : Prop :=
  ∀ s : State, uartOn s.dev = true → s.dev.rx.complete = true → s.dev.tx.replies = [] → s.dev.tx.held = [] →
    s.dev.tx.placing = [] → s.dev.tx.queue = [] →
    (s.dev.rx.err = true ∨ s.dev.rx.ovf = true → ∀ (g : Tag) (rest : Text), s.dev.rx.buf = '>' :: (tagText g ++ rest) →
      exec .recordDispatch s = .next (becomes s (withReply
        (recordOf '#' (tagText g) [if s.dev.rx.err = true then ['C', 'H', 'R'] else ['L', 'E', 'N']])
        { s.dev with rx := s.dev.rx.emptied }))) ∧
    (s.dev.rx.err = true ∨ s.dev.rx.ovf = true → (∀ (g : Tag) (rest : Text), s.dev.rx.buf ≠ '>' :: (tagText g ++ rest)) →
      exec .recordDispatch s = .next (becomes s (withReply
        (recordOf '#' ['-', '-', '-'] [if s.dev.rx.err = true then ['C', 'H', 'R'] else ['L', 'E', 'N']])
        { s.dev with rx := s.dev.rx.emptied }))) ∧
    (s.dev.rx.err = false → s.dev.rx.ovf = false → (∀ name fs, ¬ CommandForm s.dev.rx.buf name fs) →
      exec .recordDispatch s = .next (becomes s (withReply (recordOf '#' ['-', '-', '-'] [['S', 'Y', 'N']])
        { s.dev with rx := s.dev.rx.emptied }))) ∧
    (s.dev.rx.err = false → s.dev.rx.ovf = false → ∀ name fs, CommandForm s.dev.rx.buf name fs →
      (∀ g, tagText g ≠ name) →
      exec .recordDispatch s = .next (becomes s (withReply (recordOf '#' ['-', '-', '-'] [['U', 'N', 'K']])
        { s.dev with rx := s.dev.rx.emptied })))

/-- Before READY every command is refused BSY (check 5 of R200), and a long command is while the long-operation slot holds a tag (check 6);
nothing else changes. -/
def Obligations.BusyRefusals : Prop :=
  ∀ (i : Instr) (g : Tag) (fs : List Text) (s : State), i.command? = some (g, fs) → uartOn s.dev = true →
    s.dev.ntc.readySent = false ∨ (isLongTag g = true ∧ s.dev.exe.slot ≠ none) →
    exec i s = .next (becomes s (refused g .bsy s.dev))

/-! ### Reads -/

/-- =WTR and =STA give the newest weight record as it stands, or its want, and change nothing else (R38, R41, R201, R207). -/
def Obligations.WeightReplies : Prop :=
  ∀ s : State, TakesCommands s.dev →
    (∀ r, s.dev.csu.newest = some r →
      let weight := match r.wstate with
        | .invalid => ['-', '-', '-', '-', '-']
        | .over => ['O', 'V', 'E', 'R']
        | .under => ['U', 'N', 'D', 'E', 'R']
        | .normal => tOpt tInt r.w
      let marks := tSet [(r.held, ['C', 'E', 'L', 'L', '-', 'H', 'E', 'L', 'D']),
        (r.clamped, ['C', 'L', 'A', 'M', 'P', 'E', 'D']),
        (r.zeroCentre, ['Z', 'E', 'R', 'O', '-', 'C', 'E', 'N', 'T', 'R', 'E'])]
      let zero := if s.dev.zsu.set then tSetWord else tUnset
      let still := if r.stable then tStable else tMotion
      let moduleText (m : Option ModuleLoad) : Text := match m with
        | none => ['-']
        | some x => (x.load.map tHundredths).getD ['-', '-', '-', '-', '-']
      exec (.wtr []) s = .next (becomes s (answered .wtr
        [tNat r.index.toNat, r.wstate.text, weight, marks, zero, still] s.dev)) ∧
      exec (.wtr [['G']]) s = .next (becomes s (answered .wtr
        ([tNat r.index.toNat, r.wstate.text, weight, marks, zero, still, (r.g.map tHundredths).getD ['-', '-', '-', '-', '-']] ++
          r.modules.toList.map moduleText) s.dev)) ∧
      exec (.sta []) s = .next (becomes s (answered .sta
        [tNat r.index.toNat, r.wstate.text, weight, marks, still, zero, tOpt tHundredths s.dev.zsu.z,
          tOpt tHundredths s.dev.zsu.zInit, if s.dev.zsu.trackLimit then tTrackLimit else ['-'],
          tOpt tHundredths s.dev.zsu.b1, s.dev.lsv.lane.text, tOpt tNat (s.dev.lsv.current.map (·.number)),
          if s.dev.mst.run.isSome then tCalibrating else s.dev.mst.state.text, tOpt tagText s.dev.exe.slot,
          (s.dev.nvc.clock.map tTime).getD tUnset] s.dev))) ∧
    (s.dev.csu.newest = none →
      exec (.wtr []) s = .next (becomes s (answered .wtr
        [['-'], tInvalid, ['-', '-', '-', '-', '-'], ['-'],
          if s.dev.zsu.set then tSetWord else tUnset, tMotion] s.dev))) ∧
    (∀ fs, fs ≠ [] → fs ≠ [['G']] → exec (.wtr fs) s = .next (becomes s (refused .wtr .rng s.dev))) ∧
    (∀ fs, fs ≠ [] → exec (.sta fs) s = .next (becomes s (refused .sta .rng s.dev)))

/-- =CEL gives one slot with its fields, or every slot and the lines' statuses; CLR sets the error counts to 0 after the reply, and
nothing else changes (R23); that the reply to CLR has the lines too is the model's reading (log entry 36).
=PAS gives the lane and the passages held in short, or one passage in full; a number not held is refused RNG (R81). The order of the
fields of a passage in full (log entry 9), the counts before its lists (log entry 33) and the forms of axle sets, solve outcomes and
PENDING intervals (log entry 44), the clock readings alone as times of the short form (log entry 36), the word OWED (log entry 47),
leading zeros in the number asked for (log entry 48) and the form of slots and temperatures (log entry 54) are the model's reading. -/
def Obligations.CellAndPassageReplies : Prop :=
  (∀ s : State, TakesCommands s.dev →
    exec (.cel []) s = .next (becomes s (answered .cel
      (SlotId.all.flatMap (slotFields s.dev) ++ Ix.all.map fun l => (lineOf s.dev l).status.text) s.dev)) ∧
    (∀ i : SlotId,
      exec (.cel [slotText i]) s = .next (becomes s (answered .cel
        (let x := slotOf s.dev i
         [x.state.text, tNat x.hold, tOpt SlotOutcome.text x.lastOutcome, tOpt tInt x.lastRaw, tOpt StatusFlags.text x.lastFlags,
          tOpt tNat (expectedSerial s.dev i), tOpt tNat x.serialLow, tOpt tNat x.serialHigh, tOpt tInt x.lastTemp,
          tOpt tInt x.tempInUse, tOpt tNat x.diag, tNat x.nBad, tNat x.nSilent, tNat x.nLate, tNat x.nStale,
          if x.state = .faulted then tNat x.run else ['-']]) s.dev))) ∧
    (∃ slots : Slots Slot,
      exec (.cel [tClr]) s = .next (becomes s (answered .cel
        (SlotId.all.flatMap (slotFields s.dev) ++ Ix.all.map fun l => (lineOf s.dev l).status.text)
        { s.dev with clc := { s.dev.clc with slots := slots } })) ∧
      ∀ i, slots.sel i = { slotOf s.dev i with nBad := 0, nSilent := 0, nLate := 0, nStale := 0 })) ∧
  (∀ s : State, TakesCommands s.dev →
    exec (.pas []) s = .next (becomes s (answered .pas
      ([s.dev.lsv.lane.text, tOpt tNat (s.dev.lsv.current.map (·.number))] ++
        (s.dev.lsv.current.toList ++ s.dev.lsv.history.reverse).flatMap passageLine) s.dev)) ∧
    (∀ n, 1 ≤ n → n ≤ 65535 →
      (∀ p, (s.dev.lsv.current.toList ++ s.dev.lsv.history.reverse).find? (fun p => p.number == n) = some p →
        exec (.pas [tNat n]) s = .next (becomes s (answered .pas (passageWhole p) s.dev))) ∧
      ((∀ p ∈ s.dev.lsv.current.toList ++ s.dev.lsv.history, p.number ≠ n) →
        exec (.pas [tNat n]) s = .next (becomes s (refused .pas .rng s.dev)))) ∧
    (∀ f, readRange 1 65535 f = none → exec (.pas [f]) s = .next (becomes s (refused .pas .rng s.dev))) ∧
    (∀ fs, 1 < fs.length → exec (.pas fs) s = .next (becomes s (refused .pas .rng s.dev))))

/-- =VIS and =TRL give the lists in order, eight entries and the place of the next, or one entry in full with its summary, age and mark;
what is not held is refused VNF or TNF, any other field RNG (R119, R122, R123, R124, R128).
=JST and =MST give the journal and the metrology as they stand (R145, R184). =AUD gives at most 16 records of a range, at most up to
newest, and the number of the next; slots found failing are counted (R183, R188). The counts before lists (log entry 33), the hours of a
negative age, the absent counts under an UNSET clock, the next number past the last, the end of a list, the point count without a run, the
counter without an active record and W by its weight alone (log entry 36), a changed-item list as one field (log entry 44), the step CCM
after its installation (log entry 30), the form of the due date (log entry 54), and the moment at which an AUD read that meets a write in
progress is made, the replies behind it waiting with it (log entry 31), an absent stored time taken as the clock's first and no age
without an opened time (log entry 45), a TORN entry without time and counter (log entry 30), the words of marks (log entry 47) and leading
zeros (log entry 48), are the model's reading. -/
def Obligations.RecordReplies : Prop :=
  (∀ s : State, TakesCommands s.dev →
    let age (v : VisitRec) : Option Int := match s.dev.nvc.clock, v.opened with
      | some t, some o => some ((t : Int) - o)
      | _, _ => none
    let stale (v : VisitRec) : Bool := match age v with
      | some a => decide (3600 * (s.dev.nvc.settings.stale : Int) < a)
      | none => false
    let full (v : VisitRec) : List Text :=
      let w := v.first
      let inWrite : Option Summary := (outstanding s.dev).findSome? fun r => match r.source, r.write with
        | .attach n _, .visit _ _ c => if n = v.number then c.content.bind (·.summary) else none
        | _, _ => none
      let given : Text × Option Summary := match v.summary with
        | some x => (['A', 'T', 'T', 'A', 'C', 'H', 'E', 'D'], some x)
        | none =>
          if (∃ e ∈ s.dev.txu.awaiting, e.visit = v.number) then (['A', 'W', 'A', 'I', 'T', 'I', 'N', 'G'], none)
          else match s.dev.txu.owed.find? (fun e => e.visit = v.number), inWrite with
            | some e, _ => (['O', 'W', 'E', 'D'], match s.dev.lsv.history.find? (fun p => p.number = e.passage) with
              | some p => some ⟨p.groups.map fun g => ⟨g.kind, g.load, g.limit, g.excess⟩, p.result.getD .absent, p.flags⟩
              | none => (s.dev.txu.copies.find? fun c => c.1 = e.passage).map (·.2))
            | none, some x => (['O', 'W', 'E', 'D'], some x)
            | none, none => (['N', 'O', 'N', 'E'], none)
      [tNat v.number, v.ref, v.dir.text, tOpt tTime v.opened,
        joinWith '/' [tInt w.weight, tNat w.d, tOpt tTime w.time, tOpt tNat w.counter, tOpt tNat w.passage, w.source.text], given.1] ++
        (match given.2 with
          | some x => tNat x.groups.length :: x.groups.map (fun g =>
              joinWith '/' [g.kind.text, g.load.text, tNat g.limit, tOpt tInt g.excess]) ++ [x.result.text, x.flags.text]
          | none => [['0'], ['-'], ['-']]) ++
        [(match age v with
          | some a => tInt (a.tdiv 3600)
          | none => ['-']), if stale v then tStale else ['-']]
    (∀ vs : List VisitRec, vs.Perm (s.dev.txu.visits.map (·.2)) → vs.Pairwise (fun a b => a.number < b.number) →
      let list (n : Nat) : List Text :=
        let page := vs.filter fun v => n ≤ v.number
        [tNat vs.length, if s.dev.nvc.clock = none then ['-'] else tNat (vs.countP stale)] ++
          ((page.take 8).flatMap fun v => [tNat v.number, v.ref, if stale v then tStale else ['-']]) ++
          page[8]?.toList.map fun v => tNat v.number
      exec (.vis []) s = .next (becomes s (answered .vis (list 1) s.dev)) ∧
      ∀ n, 1 ≤ n → n ≤ 65535 → exec (.vis [tList, tNat n]) s = .next (becomes s (answered .vis (list n) s.dev))) ∧
    (∀ n, 1 ≤ n → n ≤ 65535 →
      (∀ slot v, findVisit s.dev n = some (slot, v) →
        exec (.vis [tNum, tNat n]) s = .next (becomes s (answered .vis (full v) s.dev))) ∧
      (findVisit s.dev n = none → exec (.vis [tNum, tNat n]) s = .next (becomes s (refused .vis .vnf s.dev)))) ∧
    (∀ r, readRef r = some r →
      (∀ slot v, findVisitRef s.dev r = some (slot, v) →
        exec (.vis [tRef, r]) s = .next (becomes s (answered .vis (full v) s.dev))) ∧
      (findVisitRef s.dev r = none → exec (.vis [tRef, r]) s = .next (becomes s (refused .vis .vnf s.dev)))) ∧
    (∀ key f, (key ≠ tList ∧ key ≠ tNum ∧ key ≠ tRef) ∨ (key ≠ tRef ∧ readRange 1 65535 f = none) ∨ (key = tRef ∧ readRef f = none) →
      exec (.vis [key, f]) s = .next (becomes s (refused .vis .rng s.dev))) ∧
    (∀ fs, fs.length ≠ 0 → fs.length ≠ 2 → exec (.vis fs) s = .next (becomes s (refused .vis .rng s.dev)))) ∧
  (∀ s : State, TakesCommands s.dev →
    let expiry (t : TareEntry) : Nat := t.stored.getD 0 + 86400 * t.days
    let expired (t : TareEntry) : Bool := match s.dev.nvc.clock with
      | some c => decide (expiry t ≤ c)
      | none => false
    let source (t : TareEntry) : Text := match t.source with
      | .static => ['S', 'T', 'A', 'T', 'I', 'C']
      | .keyed => ['K', 'E', 'Y', 'E', 'D']
    (∀ ts : List TareEntry, ts.Perm (s.dev.txu.tares.map (·.2)) → ts.Pairwise (fun a b => refLt a.ref b.ref = true) →
      let list (r : Text) : List Text :=
        let page := ts.filter fun t => !refLt t.ref r
        [tNat ts.length, if s.dev.nvc.clock = none then ['-'] else tNat (ts.countP expired)] ++
          ((page.take 8).flatMap fun t => [t.ref, tInt t.tare, source t, if expired t then tExpired else ['-']]) ++
          page[8]?.toList.map fun t => t.ref
      exec (.trl []) s = .next (becomes s (answered .trl (list []) s.dev)) ∧
      ∀ r, readRef r = some r → exec (.trl [tList, r]) s = .next (becomes s (answered .trl (list r) s.dev))) ∧
    (∀ r, readRef r = some r →
      (∀ slot t, findTare s.dev r = some (slot, t) →
        exec (.trl [tRef, r]) s = .next (becomes s (answered .trl [t.ref, tInt t.tare, source t, tNat t.d, tOpt tNat t.counter,
          tOpt tTime t.wtime, tOpt tTime t.stored, tNat t.days, tTime (expiry t), if expired t then tExpired else ['-']] s.dev))) ∧
      (findTare s.dev r = none → exec (.trl [tRef, r]) s = .next (becomes s (refused .trl .tnf s.dev)))) ∧
    (∀ key f, (key ≠ tList ∧ key ≠ tRef) ∨ readRef f = none →
      exec (.trl [key, f]) s = .next (becomes s (refused .trl .rng s.dev))) ∧
    (∀ fs, fs.length ≠ 0 → fs.length ≠ 2 → exec (.trl fs) s = .next (becomes s (refused .trl .rng s.dev)))) ∧
  (∀ s : State, TakesCommands s.dev →
    exec (.jst []) s = .next (becomes s (answered .jst (journalShown s.nv s.dev) s.dev)) ∧
    exec (.mst []) s = .next (becomes s (answered .mst (metrologyShown s.dev) s.dev)) ∧
    (∀ fs, fs ≠ [] → exec (.jst fs) s = .next (becomes s (refused .jst .rng s.dev)) ∧
      exec (.mst fs) s = .next (becomes s (refused .mst .rng s.dev)))) ∧
  (∀ s : State, TakesCommands s.dev →
    exec (.aud []) s = .next (becomes s (answered .aud
      [tOpt tNat s.nv.auditOldest, tOpt tNat s.nv.auditNewest, (s.dev.auu.next.map tNat).getD tExhausted,
        tNat s.nv.audits.length] s.dev)) ∧
    (∀ a b, 1 ≤ a → a ≤ b → b ≤ 9999999 →
      let asked (reply : Device) : Prop := exec (.aud [tNat a, tNat b]) s = .next (becomes s reply) ∧
        (b = 9999999 → exec (.aud [tNat a]) s = .next (becomes s reply))
      (s.nv.audits = [] → asked (refused .aud .rng s.dev)) ∧
      (∀ lo hi, s.nv.auditOldest = some lo → s.nv.auditNewest = some hi →
        (a < lo ∨ hi < a → asked (refused .aud .rng s.dev)) ∧
        (lo ≤ a → a ≤ hi →
          let page := List.range' a (min 16 (min b hi + 1 - a))
          let next : Option Nat := if a + 16 ≤ min b hi then some (a + 16) else none
          let meets : Prop := ∃ src slot r, s.dev.nvc.writing = some ⟨src, .audit slot r⟩ ∧
            ∃ n ∈ page, slotOfAudit s.nv.audit n = some slot
          (¬ meets → asked (answered .aud (auditShown s.nv page next)
            { s.dev with nvc := { s.dev.nvc with report :=
              { s.dev.nvc.report with readFail := min (s.dev.nvc.report.readFail + page.countP (readFails s.nv)) 65535 } } })) ∧
          (meets → asked { s.dev with tx := { s.dev.tx with held := s.dev.tx.held ++ [.read ⟨page, next⟩] } })))) ∧
    (∀ f g, readRange 1 9999999 f = none ∨ readRange 1 9999999 g = none ∨ (∃ a b, readRange 1 9999999 f = some a ∧
        readRange 1 9999999 g = some b ∧ b < a) → exec (.aud [f, g]) s = .next (becomes s (refused .aud .rng s.dev))) ∧
    (∀ f, readRange 1 9999999 f = none → exec (.aud [f]) s = .next (becomes s (refused .aud .rng s.dev))) ∧
    (∀ fs, 2 < fs.length → exec (.aud fs) s = .next (becomes s (refused .aud .rng s.dev))))

/-- GET reads the settings in force, all or one, whatever long command is in flight; GET NVC reads the error report and GET NVC CLR clears
it after the reply; any other field is refused RNG (R191, R188).
CLK sets the clock and answers the reading; a CALIBRATED part whose due date has passed becomes SUSPECT at that moment, with MET raised
and a status write requested (R177, R192). Without a field it reads the clock. The words of the share and of the settings record in GET
NVC (log entry 47), the form of SETL (log entry 54) and the place of the count of never-written targets (log entry 53) are the model's. A
CLK that finds the part overdue while a status write is outstanding is no part of this statement. -/
def Obligations.SettingsAndClockCommands : Prop :=
  (∀ s : State, TakesCommands s.dev →
    exec (.get []) s = .next (becomes s (answered .get (SettingItem.all.flatMap fun i => [i.text, i.value s.dev.nvc.settings])
      s.dev)) ∧
    (∀ i : SettingItem,
      exec (.get [i.text]) s = .next (becomes s (answered .get [i.text, i.value s.dev.nvc.settings] s.dev))) ∧
    (∀ fs, fs ≠ [] → (∀ i : SettingItem, fs ≠ [i.text]) → exec (.get fs) s = .next (becomes s (refused .get .rng s.dev))) ∧
    (let r := s.dev.nvc.report
     let fields := [tNat r.passed, tNat r.nvf, tNat r.readFail, tNat r.scanFail, tNat r.blank, tNat r.high, tNat s.dev.nvc.queue.length,
       tOpt (fun w => Share.text w.source.share) s.dev.nvc.writing,
       if s.dev.nvc.settingsFailed then tFail else ['-']]
     exec (.getNvc []) s = .next (becomes s (answered .get fields s.dev)) ∧
     exec (.getNvc [tClr]) s = .next (becomes s (answered .get fields
       { s.dev with nvc := { s.dev.nvc with report := ⟨0, 0, 0, 0, 0, (outstanding s.dev).length⟩ } }))) ∧
    (∀ fs, fs ≠ [] → fs ≠ [tClr] → exec (.getNvc fs) s = .next (becomes s (refused .get .rng s.dev)))) ∧
  (∀ s : State, TakesCommands s.dev →
    exec (.clk []) s = .next (becomes s (answered .clk [(s.dev.nvc.clock.map tTime).getD tUnset] s.dev)) ∧
    (∀ f, readTime f = none → exec (.clk [f]) s = .next (becomes s (refused .clk .rng s.dev))) ∧
    (∀ f t, readTime f = some t →
      ((s.dev.mst.state ≠ .calibrated ∨ ∀ due, s.dev.mst.due = some due → t / 86400 ≤ due) →
        exec (.clk [f]) s = .next (becomes s (answered .clk [tTime t]
          { s.dev with nvc := { s.dev.nvc with clock := some t } }))) ∧
      (∀ due, s.dev.mst.state = .calibrated → s.dev.mst.due = some due → due < t / 86400 → QueueServed s.dev →
        statusBusy s.dev = false →
        exec (.clk [f]) s = .next (becomes s
          (requested ⟨.status false, statusWrite s.nv ⟨.suspect, some due, s.dev.mst.counter⟩⟩
            (noticed .met (answered .clk [tTime t]
              { s.dev with nvc := { s.dev.nvc with clock := some t },
                           mst := { s.dev.mst with state := .suspect } })))))))

/-! ### Immediate commands that change the part -/

/-- LIT sets a light's mode, evaluates its output at once and answers both modes and outputs; it changes nothing else (R83).
NTE enables or disables a class, and either way leaves it not pending; SYS cannot be set (R206); that =NTE gives SYS first is
the model's choice (log entry 36). -/
def Obligations.LightAndNoticeCommands : Prop :=
  (∀ s : State, TakesCommands s.dev → running s.dev = true →
    let reply (d : Device) : Device := answered .lit
      [d.lsv.modeIn.text, if lightOut d.lsv.modeIn (entryAuto d) then tGreen else tRed,
        d.lsv.modeOut.text, if lightOut d.lsv.modeOut (exitAuto d) then tGreen else tRed] d
    exec (.lit []) s = .next (becomes s (reply s.dev)) ∧
    (∀ m word, (m, word) ∈ [(LightMode.auto, tAuto), (.forceRed, tRed), (.forceGreen, tGreen)] →
      exec (.lit [tIn, word]) s = .next (becomes s (reply { s.dev with lsv := { s.dev.lsv with modeIn := m } })) ∧
      exec (.lit [tOut, word]) s = .next (becomes s (reply { s.dev with lsv := { s.dev.lsv with modeOut := m } }))) ∧
    (∀ light, exec (.lit [light]) s = .next (becomes s (refused .lit .rng s.dev)))) ∧
  (∀ s : State, TakesCommands s.dev →
    let words (n : Ntc) : List Text :=
      [Notice.sys, .met, .cel, .lne, .axl, .jrn].flatMap fun c => [c.text, if n.enabled.get c then tOn else tOff]
    exec (.nte []) s = .next (becomes s (answered .nte (words s.dev.ntc) s.dev)) ∧
    (∀ c, c ≠ Notice.sys →
      (let n := { s.dev.ntc with enabled := s.dev.ntc.enabled.put c true, pending := s.dev.ntc.pending.put c false }
       exec (.nte [c.text, tOn]) s = .next (becomes s (answered .nte (words n) { s.dev with ntc := n }))) ∧
      (let n := { s.dev.ntc with enabled := s.dev.ntc.enabled.put c false, pending := s.dev.ntc.pending.put c false }
       exec (.nte [c.text, tOff]) s = .next (becomes s (answered .nte (words n) { s.dev with ntc := n })))) ∧
    (∀ word, exec (.nte [Notice.text .sys, word]) s = .next (becomes s (refused .nte .rng s.dev))))

/-- ABT answers the tag in flight, or IDLE; it ends a waiting ZER, capture or run capture ABT, stops a stream, and leaves a command in any
of its writes, or ended, alone (R51, R58, R148, R158, R203); what it does to an axle wait is WaitsEnd's. A field is refused RNG. -/
def Obligations.AbortCommand : Prop :=
  ∀ s : State, TakesCommands s.dev →
    (s.dev.exe.slot = none → s.dev.exe.stage = .none →
      exec (.abt []) s = .next (becomes s (answered .abt [tIdle] s.dev))) ∧
    (∀ g, s.dev.exe.slot = some g →
      ((∃ t, s.dev.exe.stage = .zerWait t) ∨ (∃ c t, s.dev.exe.stage = .capWait c t) ∨
          (∃ c t w, s.dev.exe.stage = .runWait c t w) →
        exec (.abt []) s = .next (becomes s (endedWith '#' g [Code.text .abt] (answered .abt [tagText g] s.dev)))) ∧
      (∀ x, s.dev.exe.stage = .stream x →
        exec (.abt []) s = .next (becomes s (atStage (.stream { x with stop := true }) (answered .abt [tagText g] s.dev)))) ∧
      ((∃ x r, s.dev.exe.stage = .record x r) ∨ (∃ x, s.dev.exe.stage = .owedTorn x) ∨ (∃ x n, s.dev.exe.stage = .tornAfter x n) ∨
          (∃ x r k b h, s.dev.exe.stage = .freeing x r k b h) ∨ (∃ a b, s.dev.exe.stage = .wg1Write a b) ∨
          (∃ a b c e f, s.dev.exe.stage = .tareWrite a b c e f) ∨ (∃ a, s.dev.exe.stage = .exportWrite a) ∨
          (∃ a, s.dev.exe.stage = .settingsWrite a) ∨ (∃ a b c e f, s.dev.exe.stage = .ccmAudit a b c e f) ∨
          (∃ a b c, s.dev.exe.stage = .ccmRecord a b c) ∨ (∃ a b c, s.dev.exe.stage = .ccmStatus a b c) ∨
          (∃ a b c, s.dev.exe.stage = .vcmAudit a b c) ∨ (∃ a b c, s.dev.exe.stage = .vcmStatus a b c) ∨ s.dev.exe.stage = .ended →
        exec (.abt []) s = .next (becomes s (answered .abt [tagText g] s.dev)))) ∧
    (∀ fs, fs ≠ [] → exec (.abt fs) s = .next (becomes s (refused .abt .rng s.dev)))

/-- COP: its checks in order, then the run opens with the active record's values or the defaults, MET is raised and a waiting ZER
ends CAL (R155, R51). The word DEFAULT in =COP is the model's choice (log entry 36). -/
def Obligations.CalibrationRunOpens : Prop :=
  ∀ s : State, TakesCommands s.dev →
    (s.dev.mst.lock.state = false → exec (.cop []) s = .next (becomes s (refused .cop .lck s.dev))) ∧
    (s.dev.mst.lock.state = true → s.dev.lsv.lane ≠ .clear → s.dev.lsv.lane ≠ .init →
      exec (.cop []) s = .next (becomes s (refused .cop .lan s.dev))) ∧
    (s.dev.mst.lock.state = true → s.dev.lsv.lane = .clear ∨ s.dev.lsv.lane = .init →
      (s.dev.mst.run ≠ none ∨ s.dev.mst.verif ≠ none → exec (.cop []) s = .next (becomes s (refused .cop .ses s.dev))) ∧
      (s.dev.mst.run = none → s.dev.mst.verif = none →
        (HeldReq.discard ∈ s.dev.mst.held → exec (.cop []) s = .next (becomes s (refused .cop .bsy s.dev))) ∧
        (HeldReq.discard ∉ s.dev.mst.held →
          (65535 ≤ s.dev.mst.counter → exec (.cop []) s = .next (becomes s (refused .cop .rng s.dev))) ∧
          (s.dev.mst.counter < 65535 →
            let opened := noticed .met (answered .cop
              [tNat s.dev.mst.counter, if s.dev.mst.active.isSome then tActive else tDefault]
              { s.dev with mst := { s.dev.mst with run := some (match s.dev.mst.active with
                | some r => ⟨some r.max, some r.d, r.p, r.n, r.window, r.band, r.vint, some r.zcal, some r.zcal, r.slots,
                    Quad.const (Quad.const ⟨false, false, none⟩)⟩
                | none => ⟨none, none, 10, 8, 1000, 2, 365, none, none,
                    Quad.const (Quad.const ⟨false, none, 0, none, none, none, none, none⟩),
                    Quad.const (Quad.const ⟨false, false, none⟩)⟩) } })
            ((∀ t, s.dev.exe.stage ≠ .zerWait t) → exec (.cop []) s = .next (becomes s opened)) ∧
            (∀ t, s.dev.exe.stage = .zerWait t → s.dev.exe.slot = some .zer →
              exec (.cop []) s = .next (becomes s (endedWith '#' .zer [Code.text .cal] opened)))))))

/-- CPA: refused SES without a run and BSY with a calibration step in flight; else it reads or sets items of the working copy, and only
them, and refuses RNG what R156 does not name. CFG NO clears the slot's marks and zero mean, CFG YES restores the active record's fields
or leaves k = 0 alone; after CFG and LCEL, Zcal is kept as copied without a zero capture, and with one it is the sum of the configured
slots' zero means as cell weights, rounded and limited to the slot's range (R160). The order of the first three checks, what CFG YES
clears, and that a step which has ended is in flight no more (log entry 30), the words of the capture marks (log entry 47), leading zeros
(log entry 48) and Tcal as a whole number of 0.1 °C (log entry 54, the model's choice) are the model's reading, as is CFG YES once a
failed write has dropped the active record (log entry 55, its choice). -/
def Obligations.WorkingCopyItems : Prop :=
  ∀ s : State, TakesCommands s.dev →
    (s.dev.mst.run = none → ∀ fs, exec (.cpa fs) s = .next (becomes s (refused .cpa .ses s.dev))) ∧
    (∀ w, s.dev.mst.run = some w →
      let holding (x : WorkCopy) (d : Device) : Device := { d with mst := { d.mst with run := some x } }
      let wrong (fs : List Text) : Prop := exec (.cpa fs) s = .next (becomes s (refused .cpa .rng s.dev))
      let sets (fs : List Text) (x : WorkCopy) : Prop :=
        exec (.cpa fs) s = .next (becomes s (holding x (answered .cpa fs s.dev)))
      (runStep s.dev ≠ none → ∀ fs, exec (.cpa fs) s = .next (becomes s (refused .cpa .bsy s.dev))) ∧
      (runStep s.dev = none →
        let whole : List RecordItem := [.max, .div, .per, .flt, .win, .band, .vint]
        let value : RecordItem → Text
          | .max => tOpt tNat w.max
          | .div => tOpt tNat w.d
          | .per => tNat w.p
          | .flt => tNat w.n
          | .win => tNat w.window
          | .band => tNat w.band
          | .vint => tNat w.vint
          | .zcal => ['-']
        (∀ item ∈ whole, exec (.cpa [item.text]) s = .next (becomes s (answered .cpa [item.text, value item] s.dev))) ∧
        (∀ i : SlotId, let c := w.slots.sel i
          exec (.cpa [slotText i]) s = .next (becomes s (answered .cpa
            [slotText i, if c.configured then tYes else tNo, tOpt (fun l => tNat (l / 100)) c.lcell, tInt c.k, tOpt tInt c.z,
              tOpt tInt c.tcal, tOpt tNat c.s, tOpt (fun l => tNat (l / 100)) c.lref, tOpt tNat c.serial,
              tSet [((w.marks.sel i).zeroCaptured, ['Z', 'E', 'R', 'O']), ((w.marks.sel i).spanCaptured, ['S', 'P', 'A', 'N'])]]
            s.dev))) ∧
        (∀ n, 500 ≤ n → n ≤ 150000 → sets [RecordItem.text .max, tNat n] { w with max := some n }) ∧
        (∀ n ∈ [1, 2, 5, 10, 20, 50], sets [RecordItem.text .div, tNat n] { w with d := some n }) ∧
        (∀ n ∈ [5, 10, 20], sets [RecordItem.text .per, tNat n] { w with p := n }) ∧
        (∀ n, 1 ≤ n → n ≤ 32 → sets [RecordItem.text .flt, tNat n] { w with n := n }) ∧
        (∀ n, 200 ≤ n → n ≤ 3000 → sets [RecordItem.text .win, tNat n] { w with window := n }) ∧
        (∀ n, 1 ≤ n → n ≤ 6 → sets [RecordItem.text .band, tNat n] { w with band := n }) ∧
        (∀ n, 30 ≤ n → n ≤ 730 → sets [RecordItem.text .vint, tNat n] { w with vint := n }) ∧
        (∀ (i : SlotId) (k : Int), -512 ≤ k → k ≤ 511 →
          sets [slotText i, SlotItem.text .tco, tInt k] { w with slots := w.slots.put i { w.slots.sel i with k := k } }) ∧
        (let settles (fs : List Text) (x : WorkCopy) : Prop :=
          ((∀ i, (x.marks.sel i).zeroCaptured = false) → sets fs { x with zcal := x.copied }) ∧
          ((∃ i, (x.marks.sel i).zeroCaptured = true) → ∃ v : SlotId → Int, (∀ i, ZeroPart x i (v i)) ∧
            sets fs { x with zcal := some ((slotsUsed x).map v).sum })
        (∀ (i : SlotId) (n : Nat), 1000 ≤ n → n ≤ 50000 → settles [slotText i, SlotItem.text .lcel, tNat n]
          { w with slots := w.slots.put i { w.slots.sel i with lcell := some (100 * n) } }) ∧
        (∀ i : SlotId, settles [slotText i, SlotItem.text .cfg, tNo]
          { w with slots := w.slots.put i { w.slots.sel i with configured := false },
                   marks := w.marks.put i ⟨false, false, none⟩ }) ∧
        (∀ i : SlotId, settles [slotText i, SlotItem.text .cfg, tYes]
          { w with slots := w.slots.put i (match s.dev.mst.active with
                     | some r => if (r.slots.sel i).configured then r.slots.sel i else ⟨true, none, 0, none, none, none, none, none⟩
                     | none => ⟨true, none, 0, none, none, none, none, none⟩),
                   marks := w.marks.put i ⟨false, false, none⟩ })) ∧
        (∀ f, (∀ item ∈ whole, f ≠ item.text) → ((∀ i, f ≠ slotText i) → wrong [f]) ∧ ∀ t, wrong [f, t]) ∧
        (∀ t, (readRange 500 150000 t = none → wrong [RecordItem.text .max, t]) ∧
          ((∀ n ∈ [1, 2, 5, 10, 20, 50], readNat t ≠ some n) → wrong [RecordItem.text .div, t]) ∧
          ((∀ n ∈ [5, 10, 20], readNat t ≠ some n) → wrong [RecordItem.text .per, t]) ∧
          (readRange 1 32 t = none → wrong [RecordItem.text .flt, t]) ∧
          (readRange 200 3000 t = none → wrong [RecordItem.text .win, t]) ∧
          (readRange 1 6 t = none → wrong [RecordItem.text .band, t]) ∧
          (readRange 30 730 t = none → wrong [RecordItem.text .vint, t])) ∧
        (∀ f g t, (∀ i, f ≠ slotText i) ∨ (∀ item ∈ [SlotItem.cfg, .lcel, .tco], g ≠ item.text) → wrong [f, g, t]) ∧
        (∀ (i : SlotId) t, (t ≠ tYes → t ≠ tNo → wrong [slotText i, SlotItem.text .cfg, t]) ∧
          (readRange 1000 50000 t = none → wrong [slotText i, SlotItem.text .lcel, t]) ∧
          ((∀ k, readInt t = some k → k < -512 ∨ 511 < k) → wrong [slotText i, SlotItem.text .tco, t])) ∧
        (∀ fs, fs = [] ∨ 3 < fs.length → wrong fs)))

/-- CDX discards the open run: the run closes, MET is raised, and the CAL-DISCARD record is requested, or owed while a write of the
status share is outstanding (R167).
VOP: its checks in order, then the verification run opens with no point, and MET is raised (R170). That a field is refused first, and
that a calibration step which has ended is in flight no more, is the model's reading (log entry 30). -/
def Obligations.RunDiscardAndVerification : Prop :=
  (∀ (s : State) (w : WorkCopy), TakesCommands s.dev → s.dev.mst.run = some w →
    let closed := noticed .met (answered .cdx [tNat s.dev.mst.counter] { s.dev with mst := { s.dev.mst with run := none } })
    (runStep s.dev ≠ none → exec (.cdx []) s = .next (becomes s (refused .cdx .bsy s.dev))) ∧
    (runStep s.dev = none → statusBusy s.dev = true →
      exec (.cdx []) s = .next (becomes s { closed with mst := { closed.mst with held := closed.mst.held ++ [.discard] } })) ∧
    (∀ n, runStep s.dev = none → statusBusy s.dev = false → QueueServed s.dev → s.dev.auu.next = some n → n < 9999999 →
      exec (.cdx []) s = .next (becomes s (requested
        ⟨.discard, .audit s.dev.auu.writePos ⟨n, .calDiscard, s.dev.nvc.clock, some s.dev.mst.counter⟩⟩
        { closed with auu := { closed.auu with writePos := if s.dev.auu.writePos ≥ 256 then 1 else s.dev.auu.writePos + 1,
                                               next := some (n + 1) } })))) ∧
  (∀ s : State, TakesCommands s.dev →
    exec (.vop []) s = .next (becomes s (
      if s.dev.exe.slot ≠ none then refused .vop .bsy s.dev
      else if s.dev.mst.run ≠ none then refused .vop .cal s.dev
      else if s.dev.mst.verif ≠ none then refused .vop .ses s.dev
      else if s.dev.mst.state = .uncalibrated then refused .vop .unc s.dev
      else if s.dev.lsv.lane ≠ .clear ∧ s.dev.lsv.lane ≠ .onDeck then refused .vop .lan s.dev
      else noticed .met (answered .vop [s.dev.mst.state.text, tOpt tDate s.dev.mst.due, tNat s.dev.mst.counter]
        { s.dev with mst := { s.dev.mst with verif := some [] } }))))

/-! ### Long commands as they are taken -/

/-- ZER: its checks in order, then the wait begins with the capture timeout as deadline (R50). That a field is refused before the other
checks is the model's reading (log entry 30).
WG1: its checks in order (R114), the last six those of every trade capture (R56), then the capture wait begins. -/
def Obligations.ZeroAndFirstWeighing : Prop :=
  (∀ s : State, TakesLong s.dev →
    exec (.zer []) s = .next (becomes s (
      if s.dev.mst.run ≠ none then refused .zer .cal s.dev
      else if s.dev.mst.state = .uncalibrated then refused .zer .unc s.dev
      else if s.dev.lsv.lane ≠ .init ∧ s.dev.lsv.lane ≠ .clear then refused .zer .lan s.dev
      else acceptedAs .zer (.zerWait (s.dev.now + 1000 * s.dev.nvc.settings.cto)) s.dev)) ∧
    (∀ fs, fs ≠ [] → exec (.zer fs) s = .next (becomes s (refused .zer .rng s.dev)))) ∧
  (∀ (s : State) (ref : Text) (dir : Direction), TakesLong s.dev → readRef ref = some ref →
    exec (.wg1 [ref, dir.text]) s = .next (becomes s (
      if (∃ v ∈ s.dev.txu.visits, v.2.ref = ref) then refused .wg1 .dup s.dev
      else if 48 ≤ s.dev.txu.visits.length then refused .wg1 .tbl s.dev
      else if s.dev.nvc.clock = none then refused .wg1 .tim s.dev
      else if s.dev.mst.run ≠ none then refused .wg1 .cal s.dev
      else if s.dev.mst.state = .uncalibrated then refused .wg1 .unc s.dev
      else if s.dev.mst.verif ≠ none then refused .wg1 .cal s.dev
      else if s.dev.zsu.set = false then refused .wg1 .zro s.dev
      else if s.dev.lsv.lane ≠ .onDeck then refused .wg1 .lan s.dev
      else if s.dev.lsv.beamIn.state = true ∨ s.dev.lsv.beamOut.state = true then refused .wg1 .bem s.dev
      else acceptedAs .wg1 (.capWait (.wg1 ref dir) (s.dev.now + 1000 * s.dev.nvc.settings.cto)) s.dev)))

/-- WGG, WG2 and WGS: the issue checks in the order of R139, WG2's VNF and WGS's TNF and EXP among them, then those of a trade capture
(R56); each that passes begins its capture wait. Leading zeros in a number (log entry 48), and an absent stored time taken as the clock's
first (log entry 45), are the model's reading. -/
def Obligations.TicketWeighings : Prop :=
  ∀ s : State, TakesLong s.dev →
    let checked (g : Tag) (next : Device) : Device :=
      if s.dev.mst.run ≠ none then refused g .cal s.dev
      else if s.dev.mst.state = .uncalibrated then refused g .unc s.dev
      else if s.dev.mst.verif ≠ none then refused g .cal s.dev
      else if s.dev.nvc.clock = none then refused g .tim s.dev
      else if journalFull s.nv s.dev = true then refused g .ful s.dev
      else if 9999999 < s.nv.nextTicket s.dev.txu.owedTorn then refused g .num s.dev
      else next
    let captured (g : Tag) (c : CapCmd) : Device :=
      if s.dev.zsu.set = false then refused g .zro s.dev
      else if s.dev.lsv.lane ≠ .onDeck then refused g .lan s.dev
      else if s.dev.lsv.beamIn.state = true ∨ s.dev.lsv.beamOut.state = true then refused g .bem s.dev
      else acceptedAs g (.capWait c (s.dev.now + 1000 * s.dev.nvc.settings.cto)) s.dev
    let expired (e : TareEntry) : Prop := e.stored.getD 0 + 86400 * e.days ≤ s.dev.nvc.clock.getD 0
    (∀ f, readRef f = none → exec (.wgg [f]) s = .next (becomes s (refused .wgg .rng s.dev)) ∧
      exec (.wgs [f]) s = .next (becomes s (refused .wgs .rng s.dev))) ∧
    (∀ f, readRange 1 65535 f = none → exec (.wg2 [f]) s = .next (becomes s (refused .wg2 .rng s.dev))) ∧
    (∀ fs, fs.length ≠ 1 → exec (.wgg fs) s = .next (becomes s (refused .wgg .rng s.dev)) ∧
      exec (.wg2 fs) s = .next (becomes s (refused .wg2 .rng s.dev)) ∧
      exec (.wgs fs) s = .next (becomes s (refused .wgs .rng s.dev))) ∧
    (∀ ref, readRef ref = some ref → exec (.wgg [ref]) s = .next (becomes s (checked .wgg (captured .wgg (.wgg ref))))) ∧
    (∀ n, 1 ≤ n → n ≤ 65535 →
      (findVisit s.dev n = none → exec (.wg2 [tNat n]) s = .next (becomes s (checked .wg2 (refused .wg2 .vnf s.dev)))) ∧
      (∀ slot v, findVisit s.dev n = some (slot, v) →
        exec (.wg2 [tNat n]) s = .next (becomes s (checked .wg2 (captured .wg2 (.wg2 n)))))) ∧
    (∀ ref, readRef ref = some ref →
      (findTare s.dev ref = none → exec (.wgs [ref]) s = .next (becomes s (checked .wgs (refused .wgs .tnf s.dev)))) ∧
      (∀ slot e, findTare s.dev ref = some (slot, e) →
        (expired e → exec (.wgs [ref]) s = .next (becomes s (checked .wgs (refused .wgs .exp s.dev)))) ∧
        (¬ expired e → exec (.wgs [ref]) s = .next (becomes s (checked .wgs (captured .wgs (.wgs ref e)))))))

/-- TRS and VPT: their checks in order, then the capture wait begins (R125, R172, R56). -/
def Obligations.TareAndPointCaptures : Prop :=
  ∀ s : State, TakesLong s.dev →
    (∀ ref days, readRef ref = some ref → 1 ≤ days → days ≤ 365 →
      exec (.trs [ref, tNat days]) s = .next (becomes s (
        if (∀ e ∈ s.dev.txu.tares, e.2.ref ≠ ref) ∧ 64 ≤ s.dev.txu.tares.length then refused .trs .tbl s.dev
        else if s.dev.nvc.clock = none then refused .trs .tim s.dev
        else if s.dev.mst.run ≠ none then refused .trs .cal s.dev
        else if s.dev.mst.state = .uncalibrated then refused .trs .unc s.dev
        else if s.dev.mst.verif ≠ none then refused .trs .cal s.dev
        else if s.dev.zsu.set = false then refused .trs .zro s.dev
        else if s.dev.lsv.lane ≠ .onDeck then refused .trs .lan s.dev
        else if s.dev.lsv.beamIn.state = true ∨ s.dev.lsv.beamOut.state = true then refused .trs .bem s.dev
        else acceptedAs .trs (.capWait (.trs ref days) (s.dev.now + 1000 * s.dev.nvc.settings.cto)) s.dev))) ∧
    (∀ r x, s.dev.mst.active = some r → x < 10 ^ 40 →
      exec (.vpt [tNat x]) s = .next (becomes s (
        if r.max < x then refused .vpt .rng s.dev
        else if (∃ l, s.dev.mst.verif = some l ∧ 8 ≤ l.length) then refused .vpt .tbl s.dev
        else if s.dev.mst.run ≠ none then refused .vpt .cal s.dev
        else if s.dev.mst.state = .uncalibrated then refused .vpt .unc s.dev
        else if s.dev.mst.verif = none then refused .vpt .ses s.dev
        else if s.dev.zsu.set = false then refused .vpt .zro s.dev
        else if s.dev.lsv.lane ≠ .clear ∧ s.dev.lsv.lane ≠ .onDeck then refused .vpt .lan s.dev
        else if s.dev.lsv.beamIn.state = true ∨ s.dev.lsv.beamOut.state = true then refused .vpt .bem s.dev
        else acceptedAs .vpt (.capWait (.vpt x) (s.dev.now + 1000 * s.dev.nvc.settings.cto)) s.dev)))

/-- TRK: its checks in order, then it makes a keyed entry and requests its write in the slot that holds the reference, else the lowest
free one (R126); TRD requests FREE for the entry's slot, or is refused TNF (R127). That a negative weight is read as a well-formed field,
and so meets CAL and UNC before RNG (log entry 30), that leading zeros are (log entry 48), and that TRK ends TBL where every slot without
an entry has a freeing write to come (log entry 26), is the model's reading. -/
def Obligations.TareTableCommands : Prop :=
  ∀ s : State, TakesLong s.dev → QueueServed s.dev →
    (∀ (ref ft : Text) (t : Int) (days : Nat), readRef ref = some ref → readInt ft = some t → 1 ≤ days → days ≤ 365 →
      let trk (d : Device) : Prop := exec (.trk [ref, ft, tNat days]) s = .next (becomes s d)
      (s.dev.mst.run ≠ none → trk (refused .trk .cal s.dev)) ∧
      (s.dev.mst.run = none → s.dev.mst.state = .uncalibrated ∨ s.dev.mst.active = none → trk (refused .trk .unc s.dev)) ∧
      (∀ r, s.dev.mst.run = none → s.dev.mst.state ≠ .uncalibrated → s.dev.mst.active = some r →
        (t < 0 ∨ (r.max : Int) < t ∨ t % r.d ≠ 0 → trk (refused .trk .rng s.dev)) ∧
        (0 ≤ t → t ≤ r.max → t % r.d = 0 →
          (findTare s.dev ref = none → 64 ≤ s.dev.txu.tares.length → trk (refused .trk .tbl s.dev)) ∧
          (findTare s.dev ref ≠ none ∨ s.dev.txu.tares.length < 64 →
            (s.dev.nvc.clock = none → trk (refused .trk .tim s.dev)) ∧
            (∀ now slot, s.dev.nvc.clock = some now →
              (∃ old, findTare s.dev ref = some (slot, old)) ∨
                (findTare s.dev ref = none ∧ firstPlace (tareSlotFree s.dev) 64 = some slot) →
              let e : TareEntry := ⟨ref, t, .keyed, r.d, none, none, some now, days⟩
              trk (atStage (.tareWrite .trk slot (some e) ref (findTare s.dev ref).isSome)
                (requested ⟨.longOp, tareWrite s.nv slot (some e)⟩ (acceptedAs .trk .none s.dev)))) ∧
            (∀ now, s.dev.nvc.clock = some now → findTare s.dev ref = none → firstPlace (tareSlotFree s.dev) 64 = none →
              trk (endedWith '#' .trk [['T', 'B', 'L']] (acceptedAs .trk .none s.dev))))))) ∧
    (∀ f ft fd, readRef f = none ∨ readInt ft = none ∨ readRange 1 365 fd = none →
      exec (.trk [f, ft, fd]) s = .next (becomes s (refused .trk .rng s.dev))) ∧
    (∀ fs, fs.length ≠ 3 → exec (.trk fs) s = .next (becomes s (refused .trk .rng s.dev))) ∧
    (∀ ref, readRef ref = some ref →
      (∀ slot e, findTare s.dev ref = some (slot, e) →
        exec (.trd [ref]) s = .next (becomes s
          (atStage (.tareWrite .trd slot none ref false)
            (requested ⟨.longOp, tareWrite s.nv slot none⟩ (acceptedAs .trd .none s.dev))))) ∧
      (findTare s.dev ref = none → exec (.trd [ref]) s = .next (becomes s (refused .trd .tnf s.dev))))

/-- VCL and VOD: the issue checks in order, then they make a CANCEL or VOID record of the next number and request its journal write, or
first that of an owed TORN (R120, R134, R135, R139, R143).
JEX requests the write of the export record, completes at once where E stands already, and is refused RNG below E or above
newest (R144). SET requests the write of the new settings, or is refused RNG (R190): pairs of an item and a value, taken in order, none
named twice, each value in its item's range and on its step (section 10.3). Leading zeros in a number and the form of SETL's value are
the model's reading (log entry 48). -/
def Obligations.FirstWrites : Prop :=
  (∀ s : State, TakesLong s.dev → QueueServed s.dev →
    let checked (g : Tag) (next : Device) : Device :=
      if s.dev.mst.run ≠ none then refused g .cal s.dev
      else if s.dev.mst.state = .uncalibrated then refused g .unc s.dev
      else if s.dev.mst.verif ≠ none then refused g .cal s.dev
      else if s.dev.nvc.clock = none then refused g .tim s.dev
      else if journalFull s.nv s.dev = true then refused g .ful s.dev
      else if 9999999 < s.nv.nextTicket s.dev.txu.owedTorn then refused g .num s.dev
      else next
    let numbered (n : Nat) (body : JournalBody) : JournalRec :=
      JournalRec.make n body s.dev.nvc.clock (s.dev.mst.active.map (·.counter))
    let writes (g : Tag) (b : DraftBody) (body : JournalBody) : Device := match s.dev.txu.owedTorn with
      | none => atStage (.record ⟨b, none, false⟩ (numbered (s.nv.nextTicket none) body))
          (requested ⟨.longOp, .journal s.dev.txu.writePos (numbered (s.nv.nextTicket none) body)⟩ (acceptedAs g .none s.dev))
      | some m => atStage (.owedTorn ⟨b, none, false⟩)
          (requested ⟨.longOp, .journal s.dev.txu.writePos (numbered m .torn)⟩ (acceptedAs g .none s.dev))
    (∀ n, 1 ≤ n → n ≤ 65535 →
      (findVisit s.dev n = none → exec (.vcl [tNat n]) s = .next (becomes s (checked .vcl (refused .vcl .vnf s.dev)))) ∧
      (∀ slot v, findVisit s.dev n = some (slot, v) →
        exec (.vcl [tNat n]) s = .next (becomes s (checked .vcl (writes .vcl (.cancel v.number v.ref) (.cancel v.number v.ref)))))) ∧
    (∀ n, 1 ≤ n → n ≤ 9999999 →
      let held : Prop := ∃ r, s.nv.ticket n = some r ∧ match r.body with
        | .ticket .. => True
        | .onepass .. => True
        | .gross .. => True
        | _ => False
      let voided : Prop := ∃ r ∈ s.nv.tickets, r.body = .void n
      (held ∧ ¬ voided → exec (.vod [tNat n]) s = .next (becomes s (checked .vod (writes .vod (.void n) (.void n))))) ∧
      (¬ held ∨ voided → exec (.vod [tNat n]) s = .next (becomes s (checked .vod (refused .vod .rng s.dev))))) ∧
    (∀ f, readRange 1 65535 f = none → exec (.vcl [f]) s = .next (becomes s (refused .vcl .rng s.dev))) ∧
    (∀ f, readRange 1 9999999 f = none → exec (.vod [f]) s = .next (becomes s (refused .vod .rng s.dev))) ∧
    (∀ fs, fs.length ≠ 1 → exec (.vcl fs) s = .next (becomes s (refused .vcl .rng s.dev)) ∧
      exec (.vod fs) s = .next (becomes s (refused .vod .rng s.dev)))) ∧
  (∀ s : State, TakesLong s.dev → QueueServed s.dev →
    (∀ n hi, n < 10 ^ 40 → s.nv.newest = some hi →
      exec (.jex [tNat n]) s = .next (becomes s (
        if n < s.dev.txu.exportMark ∨ hi < n then refused .jex .rng s.dev
        else if n = s.dev.txu.exportMark then endedWith '=' .jex [tNat n, tNat (hi - n)] (acceptedAs .jex .none s.dev)
        else atStage (.exportWrite n) (requested ⟨.longOp, exportWrite s.nv n⟩ (acceptedAs .jex .none s.dev))))) ∧
    (∀ n, n < 10 ^ 40 → s.nv.newest = none → exec (.jex [tNat n]) s = .next (becomes s (refused .jex .rng s.dev))) ∧
    (∀ fs new, fs ≠ [] → readSettings s.dev.nvc.settings [] fs = some new →
      exec (.set fs) s = .next (becomes s
        (atStage (.settingsWrite new) (requested ⟨.longOp, .settings new⟩ (acceptedAs .set .none s.dev))))) ∧
    (∀ fs, fs = [] ∨ readSettings s.dev.nvc.settings [] fs = none →
      exec (.set fs) s = .next (becomes s (refused .set .rng s.dev)))) ∧
  (∀ (x : Settings) (seen : List SettingItem),
    readSettings x seen [] = some x ∧ (∀ f, readSettings x seen [f] = none) ∧
    (∀ f v rest, (∀ i : SettingItem, f ≠ i.text) → readSettings x seen (f :: v :: rest) = none) ∧
    (∀ (i : SettingItem) v rest, readSettings x seen (i.text :: v :: rest) =
      if i ∈ seen then none else (i.assign x v).bind fun y => readSettings y (i :: seen) rest)) ∧
  (∀ (x : Settings) (v : Text),
    let number (i : SettingItem) (lo hi : Nat) (put : Nat → Settings) : Prop :=
      (∀ n, lo ≤ n → n ≤ hi → i.assign x (tNat n) = some (put n)) ∧ (readRange lo hi v = none → i.assign x v = none)
    number .clrt 1 30 (fun n => { x with clrt := n }) ∧ number .occ 5 200 (fun n => { x with occ := n }) ∧
    number .dab 50 400 (fun n => { x with dab := n }) ∧ number .gsp 100 400 (fun n => { x with gsp := n }) ∧
    number .grd 0 5 (fun n => { x with grd := n }) ∧ number .nmin 3 20 (fun n => { x with nmin := n }) ∧
    number .lstr 0 150000 (fun n => { x with lstr := n }) ∧ number .lsgl 0 150000 (fun n => { x with lsgl := n }) ∧
    number .ltan 0 150000 (fun n => { x with ltan := n }) ∧ number .ltri 0 150000 (fun n => { x with ltri := n }) ∧
    number .lmul 0 150000 (fun n => { x with lmul := n }) ∧ number .lgrs 0 150000 (fun n => { x with lgrs := n }) ∧
    number .cto 2 60 (fun n => { x with cto := n }) ∧ number .axw 10 600 (fun n => { x with axw := n }) ∧
    number .hold 1 8 (fun n => { x with hold := n }) ∧ number .stale 1 240 (fun n => { x with stale := n }) ∧
    (∀ n, 5 ≤ n → n ≤ 100 → SettingItem.assign x (tNat (n / 10) ++ ['.'] ++ tNat (n % 10)) .setl = some { x with setl := n }) ∧
    (∀ n, 1 ≤ n → n ≤ 10 → SettingItem.assign x (tNat n) .setl = some { x with setl := 10 * n }) ∧
    (∀ y, SettingItem.assign x v .setl = some y → 5 ≤ y.setl ∧ y.setl ≤ 100 ∧ y = { x with setl := y.setl }) ∧
    (∀ r : Rate, SettingItem.assign x (tNat r.bits) .rate = some { x with rate := r }) ∧
    ((∀ r : Rate, v ≠ tNat r.bits) → SettingItem.assign x v .rate = none) ∧
    (∀ p : Parity, SettingItem.assign x p.text .par = some { x with par := p }) ∧
    ((∀ p : Parity, v ≠ p.text) → SettingItem.assign x v .par = none))

/-- JRD streams from a number held and JNX from the cursor; JNX above newest completes at once with nothing sent, and below oldest or with
no cursor is refused RNG (R146, R147).
STREAM_ITEM (R146 to R148): with nothing formed waiting to be sent, the next record is placed as it stands in the journal; the stream ends
when its count is sent, when it has passed newest, or when it was stopped, with the cursor at the next number. That the =JNX sent above
newest has first and last absent, and that a failing slot is sent as a TORN record with time and counter absent and counted as sent,
formed and placed in one step, is the model's reading (log entry 30), and that the ending record waits for the empty queue its choice (log
entry 58). A reply that waits, to be placed or behind an AUD read, goes before an item (R204; log entry 31). -/
def Obligations.JournalStreams : Prop :=
  (∀ s : State, TakesLong s.dev → ∀ lo hi, s.nv.oldest = some lo → s.nv.newest = some hi → lo ≤ hi →
    ∀ c, 1 ≤ c → c ≤ 4096 →
    (∀ a, a < 10 ^ 40 → exec (.jrd [tNat a, tNat c]) s = .next (becomes s (
      if a < lo ∨ hi < a then refused .jrd .rng s.dev
      else acceptedAs .jrd (.stream ⟨.jrd, a, a, c, 0, false⟩) s.dev))) ∧
    (s.dev.txu.cursor = none → exec (.jnx [tNat c]) s = .next (becomes s (refused .jnx .rng s.dev))) ∧
    (∀ k, s.dev.txu.cursor = some k → exec (.jnx [tNat c]) s = .next (becomes s (
      if k < lo then refused .jnx .rng s.dev
      else if hi < k then endedWith '=' .jnx [['-'], ['-'], ['0']] (acceptedAs .jnx .none s.dev)
      else acceptedAs .jnx (.stream ⟨.jnx, k, k, c, 0, false⟩) s.dev)))) ∧
  (∀ (x : Stream) (s : State), s.dev.exe.stage = .stream x → s.dev.tx.queue ≠ [] ∨ s.dev.tx.placing ≠ [] ∨ RepliesWait s.dev →
    exec .streamItem s = .next (becomes s s.dev)) ∧
  ∀ (x : Stream) (g : Tag) (lo hi : Nat) (s : State), uartOn s.dev = true → s.dev.exe = ⟨some g, .stream x⟩ →
    s.dev.tx.queue = [] → s.dev.tx.placing = [] → ¬ RepliesWait s.dev → s.dev.tx.longs = [] → noticeTurn s.dev = false →
    s.nv.oldest = some lo → s.nv.newest = some hi →
    (∀ r, x.stop = false → 0 < x.left → lo ≤ x.next → x.next ≤ hi → s.nv.ticket x.next = some r →
      (r.item ++ ['\r', '\n']).length ≤ 2048 →
      exec .streamItem s = .next (becomes s { s.dev with
        tx := { s.dev.tx with queue := r.item ++ ['\r', '\n'], lastNotice := false,
                              sending := s.dev.tx.sending || s.dev.tx.cts },
        exe := ⟨some g, .stream { x with next := x.next + 1, left := x.left - 1, sent := x.sent + 1 }⟩ })) ∧
    (x.stop = false → 0 < x.left → lo ≤ x.next → x.next ≤ hi → s.nv.ticket x.next = none → x.next < 10 ^ 9 →
      exec .streamItem s = .next (becomes s { s.dev with
        tx := { s.dev.tx with queue := (JournalRec.make x.next .torn none none).item ++ ['\r', '\n'], lastNotice := false,
                              sending := s.dev.tx.sending || s.dev.tx.cts },
        nvc := { s.dev.nvc with report := { s.dev.nvc.report with readFail := min (s.dev.nvc.report.readFail + 1) 65535 } },
        exe := ⟨some g, .stream { x with next := x.next + 1, left := x.left - 1, sent := x.sent + 1 }⟩ })) ∧
    (x.stop = true ∨ x.left = 0 ∨ hi < x.next →
      exec .streamItem s = .next (becomes s (endedWith '=' g
        ((if x.sent = 0 then [['-'], ['-'], ['0']] else [tNat x.start, tNat (x.next - 1), tNat x.sent]) ++
          (if x.stop = true then [tStopped] else []))
        { s.dev with txu := { s.dev.txu with cursor := some x.next } })))

/-- CZE and CSP: their checks in order, then a run capture waits with an empty raw window (R158, R161). Each sample record then slides the
window or, when it does not qualify, empties it; with Kr records and at most 24 counts of spread in every slot configured in the working
copy the capture ends (R157). CZE takes each such slot's rounded mean, temperature and serial and marks it (R159). CSP forms the module's
S and ends RNG with it out of range, or gives each slot of the module s, Lref and its mark (R162). Zcal is then formed afresh while the
run holds a zero capture (R160). The word DIFF of a serial that differs (log entry 47), that it stands where the active record expects
none (log entry 36), that =CZE and =CSP name no slots and =CZE sends Tcal as a whole number of 0.1 °C (log entry 54), and that the record
which moves the lane is taken by the lane first (log entry 56), are the model's choice. -/
def Obligations.RunCaptures : Prop :=
  (∀ s : State, TakesLong s.dev →
    (s.dev.mst.run = none → exec (.cze []) s = .next (becomes s (refused .cze .ses s.dev)) ∧
      ∀ fs, exec (.csp fs) s = .next (becomes s (refused .csp .ses s.dev))) ∧
    (∀ w, s.dev.mst.run = some w →
      exec (.cze []) s = .next (becomes s (
        if s.dev.lsv.lane ≠ .clear ∧ s.dev.lsv.lane ≠ .init then refused .cze .lan s.dev
        else if (∀ i ∈ SlotId.all, (w.slots.sel i).configured = false) then refused .cze .inc s.dev
        else acceptedAs .cze (.runWait .cze (s.dev.now + 1000 * s.dev.nvc.settings.cto) []) s.dev)) ∧
      (∀ (m : Ix) (x : Nat), x < 10 ^ 40 →
        let is := (SlotId.ofLine m).filter fun i => (w.slots.sel i).configured
        exec (.csp [tNat (m.toNat + 1), tNat x]) s = .next (becomes s (
          if is = [] then refused .csp .rng s.dev
          else if (∃ i ∈ is, (w.slots.sel i).lcell = none) then refused .csp .inc s.dev
          else if x < 1000 ∨ (is.map fun i => (w.slots.sel i).lcell.getD 0).sum < 100 * x then refused .csp .rng s.dev
          else if (∃ i ∈ is, (w.slots.sel i).z = none ∨ (w.slots.sel i).tcal = none) then refused .csp .inc s.dev
          else acceptedAs .csp (.runWait (.csp m x) (s.dev.now + 1000 * s.dev.nvc.settings.cto) []) s.dev))))) ∧
  ∀ (sr : SampleRecord) (cmd : RunCmd) (k : Nat) (win : List (Slots (Option Int))) (g : Tag) (w : WorkCopy) (row : Slots (Option Int))
    (d : Device), d.mst.run = some w → d.exe = ⟨some g, .runWait cmd k win⟩ → (∀ i, row.sel i = (sr.slots.sel i).raw) →
    slotsUsed w ≠ [] →
    let kr := 2000 / (match d.mst.active with
      | some r => r.p
      | none => 10)
    let fit : Prop := ∀ i ∈ slotsUsed w, (sr.slots.sel i).outcome = .good ∧
      (∃ f, (sr.slots.sel i).flags = some f ∧ f.ovl = false ∧ f.tmp = false) ∧ (slotOf d i).serialHigh ≠ none ∧
      (slotOf d i).serialLow ≠ none ∧ (sr.slots.sel i).temp ≠ none
    let slid := (win ++ [row]).drop ((win ++ [row]).length - kr)
    let still : Prop := slid.length = kr ∧
      ∀ i ∈ slotsUsed w, ∀ a ∈ slid, ∀ b ∈ slid, (a.sel i).getD 0 - (b.sel i).getD 0 ≤ 24
    let serial (i : SlotId) : Option Nat := match (slotOf d i).serialHigh, (slotOf d i).serialLow with
      | some hi, some lo => some (hi * 4096 + lo)
      | _, _ => none
    0 < kr →
    (¬ fit → mstRecord sr d = atStage (.runWait cmd k []) d) ∧
    (fit → ¬ still → mstRecord sr d = atStage (.runWait cmd k slid) d) ∧
    (fit → still → cmd = .cze → ∃ (x : WorkCopy) (u : SlotId → Int),
      x = { w with slots := x.slots, marks := x.marks, zcal := some ((slotsUsed w).map u).sum } ∧ (∀ i, ZeroPart x i (u i)) ∧
      (∀ i, (w.slots.sel i).configured = false → x.slots.sel i = w.slots.sel i ∧ x.marks.sel i = w.marks.sel i) ∧
      (∀ i ∈ slotsUsed w, ∃ z, Nearest (rawSum slid i) kr z ∧
        x.slots.sel i = { w.slots.sel i with z := some z, tcal := (sr.slots.sel i).temp, serial := serial i } ∧
        x.marks.sel i = { w.marks.sel i with zeroCaptured := true, zeroMean := some (rawSum slid i, kr) }) ∧
      mstRecord sr d = endedWith '=' g (tOpt tHundredths x.zcal :: (slotsUsed w).flatMap (fun i => let c := x.slots.sel i
        [tOpt tInt c.z, tOpt tInt c.tcal, tOpt tNat c.serial, if c.serial = expectedSerial d i then ['-'] else ['D', 'I', 'F', 'F']]))
        { d with mst := { d.mst with run := some x } }) ∧
    (∀ m load, fit → still → cmd = .csp m load →
      let is := (SlotId.ofLine m).filter fun i => (w.slots.sel i).configured
      ∃ (o : SlotId → Int) (span : Int),
        (∀ i ∈ is, Nearest ((w.slots.sel i).k * ((sr.slots.sel i).temp.getD 0 - (w.slots.sel i).tcal.getD 0)) 100 (o i)) ∧
        let delta (i : SlotId) : Int := rawSum slid i - ((w.slots.sel i).z.getD 0 + o i) * kr
        Nearest ((is.map delta).sum) kr span ∧
        (span < 1000 ∨ 2000000 < span → mstRecord sr d = endedWith '#' g [['R', 'N', 'G'], tInt span] d) ∧
        (1000 ≤ span → span ≤ 2000000 → ∃ (x : WorkCopy) (u h : SlotId → Int),
          x = { w with slots := x.slots, marks := x.marks, zcal := x.zcal } ∧ (∀ i, ZeroPart x i (u i)) ∧
          ((∃ i, (w.marks.sel i).zeroCaptured = true) → x.zcal = some ((slotsUsed w).map u).sum) ∧
          ((∀ i, (w.marks.sel i).zeroCaptured = false) → x.zcal = w.zcal) ∧
          (∀ i, i ∉ is → x.slots.sel i = w.slots.sel i ∧ x.marks.sel i = w.marks.sel i) ∧
          (∀ i ∈ is, x.slots.sel i = { w.slots.sel i with s := some span.toNat, lref := some (100 * load) } ∧
            x.marks.sel i = { w.marks.sel i with spanCaptured := true }) ∧
          (∀ i ∈ is, Nearest (100 * delta i) kr (h i)) ∧
          mstRecord sr d = endedWith '=' g ([tNat (m.toNat + 1), tNat load, tInt span] ++ is.map fun i => tHundredths (h i))
            { d with mst := { d.mst with run := some x } }))

/-- CCM: its checks in order (R163), then it takes the next audit number and the slot at the write position for a CAL-COMMIT record of its
first 32 changed items with the counter the record will have (R164, R165); VCM: its checks, then the same for a VERIFY record of the
points and their verdict (R174). The changed items are, in their fixed order, MAX to ZCAL and then each slot's, those in which the
working copy differs from the active record, or without one those present (R164). That the stage keeps the clock as it stands at the
acceptance for the commit time and the due date (log entry 24), and that the count is that of every changed item, listed or not (log
entry 30), are the model's reading, and that without an active record every configured slot needs its captures, whatever dropped that
record, is its choice (log entry 55). -/
def Obligations.CommitAndVerifyBegin : Prop :=
  ∀ (s : State), TakesLong s.dev → QueueServed s.dev →
    let audited (g : Tag) (now n : Nat) (st : Stage) (body : AuditBody) (counter : Nat) : Device :=
      atStage st (requested ⟨.longOp, .audit s.dev.auu.writePos ⟨n, body, some now, some counter⟩⟩
        (acceptedAs g .none { s.dev with auu := { s.dev.auu with
          writePos := if s.dev.auu.writePos ≥ 256 then 1 else s.dev.auu.writePos + 1,
          next := if n ≥ 9999999 then none else some (n + 1) } }))
    (s.dev.mst.run = none → exec (.ccm []) s = .next (becomes s (refused .ccm .ses s.dev))) ∧
    (∀ w, s.dev.mst.run = some w →
      let capacity : Bool := match w.max, w.d with
        | some mx, some dv => decide (mx % dv = 0 ∧ 500 ≤ mx / dv ∧ mx / dv ≤ 10000)
        | _, _ => false
      let known (i : SlotId) : Bool := match s.dev.mst.active with
        | some r => (r.slots.sel i).configured
        | none => false
      let differs {α : Type} [DecidableEq α] (old : CalRecord → α) (new : α) : Bool := match s.dev.mst.active with
        | some r => decide (old r ≠ new)
        | none => true
      let comes {α : Type} [DecidableEq α] (old : CalRecord → Option α) (new : Option α) : Bool := match s.dev.mst.active with
        | some r => decide (old r ≠ new)
        | none => new.isSome
      let whole : List (RecordItem × Bool) := [(.max, comes (fun r => some r.max) w.max), (.div, comes (fun r => some r.d) w.d),
        (.per, differs (·.p) w.p), (.flt, differs (·.n) w.n), (.win, differs (·.window) w.window), (.band, differs (·.band) w.band),
        (.vint, differs (·.vint) w.vint), (.zcal, comes (fun r => some r.zcal) w.zcal)]
      let ofSlot (i : SlotId) : List (SlotItem × Bool) :=
        let c := w.slots.sel i
        [(.cfg, differs (fun r => (r.slots.sel i).configured) c.configured), (.lcel, comes (fun r => (r.slots.sel i).lcell) c.lcell),
          (.tco, differs (fun r => (r.slots.sel i).k) c.k), (.zcnt, comes (fun r => (r.slots.sel i).z) c.z),
          (.tcal, comes (fun r => (r.slots.sel i).tcal) c.tcal), (.span, comes (fun r => (r.slots.sel i).s) c.s),
          (.lref, comes (fun r => (r.slots.sel i).lref) c.lref), (.serl, comes (fun r => (r.slots.sel i).serial) c.serial)]
      let items : List ChangedItem := ((whole.filter (·.2)).map fun e => .whole e.1) ++
        [⟨.i0, .i0⟩, ⟨.i0, .i1⟩, ⟨.i0, .i2⟩, ⟨.i0, .i3⟩, ⟨.i1, .i0⟩, ⟨.i1, .i1⟩, ⟨.i1, .i2⟩, ⟨.i1, .i3⟩,
          ⟨.i2, .i0⟩, ⟨.i2, .i1⟩, ⟨.i2, .i2⟩, ⟨.i2, .i3⟩, ⟨.i3, .i0⟩, ⟨.i3, .i1⟩, ⟨.i3, .i2⟩, ⟨.i3, .i3⟩].flatMap fun i =>
          ((ofSlot i).filter (·.2)).map fun e => .slot i e.1
      exec (.ccm []) s = .next (becomes s (
        if s.dev.mst.lock.state = false then refused .ccm .lck s.dev
        else match s.dev.nvc.clock with
          | none => refused .ccm .tim s.dev
          | some now =>
            if capacity = false then refused .ccm .rng s.dev
            else if ∀ i ∈ SlotId.all, (w.slots.sel i).configured = false then refused .ccm .inc s.dev
            else if ∃ i ∈ SlotId.all, (w.slots.sel i).configured = true ∧ known i = false ∧
                ((w.slots.sel i).lcell = none ∨ (w.marks.sel i).zeroCaptured = false ∨ (w.marks.sel i).spanCaptured = false) then
              refused .ccm .inc s.dev
            else if 65535 ≤ s.dev.mst.counter then refused .ccm .rng s.dev
            else match s.dev.auu.next with
              | none => refused .ccm .num s.dev
              | some n => audited .ccm now n (.ccmAudit (items.take 32) (decide (items.length > 32)) items.length now false)
                  (.calCommit (items.take 32) (decide (items.length > 32))) (s.dev.mst.counter + 1)))) ∧
    (s.dev.mst.verif = none → exec (.vcm []) s = .next (becomes s (refused .vcm .ses s.dev))) ∧
    (∀ points, s.dev.mst.verif = some points →
      let pass := decide (2 ≤ points.length) && points.all (·.pass)
      exec (.vcm []) s = .next (becomes s (
        match s.dev.nvc.clock, s.dev.auu.next with
        | none, _ => refused .vcm .tim s.dev
        | some _, none => refused .vcm .num s.dev
        | some now, some n => audited .vcm now n (.vcmAudit pass now n) (.verify points pass) s.dev.mst.counter))) ∧
    (∀ fs, fs ≠ [] → exec (.ccm fs) s = .next (becomes s (refused .ccm .rng s.dev)) ∧
      exec (.vcm fs) s = .next (becomes s (refused .vcm .rng s.dev)))

/-! ### Power, reset, start-up and the clock -/

/-- POWER_ON, and RESET_LINE_RELEASE of a held part, run the start-up scan (R193, R194, and the reset rules of the blocks): every volatile
part at its reset value, the lines ACTIVE and unpolled (R26), the settings and the calibration record as stored, the clock UNSET at
power-on and kept by a reset, the lock as it stands, the metrology state, counter and due date of R153, the tables after the repairs of
R111 and R149, the next visit number of R113, the error report and the READY report of what was found (R188, R195), the notices of R208,
and the store unchanged but for the head repairs (R149, R182). That POWER_ON with the supply on and RESET_LINE_RELEASE of a part not held
start nothing (log entry 2), and that POWER_ON with RESET low leaves the part held in reset (log entry 16), are the model's choice; the
head repairs' corners (log entries 12, 15, 22 and 30), the time that starts at 0 (log entry 3), the MET of exhausted audit numbers (log
entry 17), the visit number of a torn visit write (log entry 40) and an absent opened or stored time taken as the earliest (log entry 45),
which of two equal visits stays (log entry 50) the cleared mark of a refused append (log entry 52) and the next audit number where no slot
holds the last ones given (log entry 57) are its reading. -/
def Obligations.StartUpScan : Prop :=
  ∀ (a j : Bool) (s : State),
    (s.dev.power.phase = .off → s.dev.power.resetLow = false →
      ∃ t, exec (.powerOn a j) s = .next t ∧ Started .power none a j s t) ∧
    (s.dev.power.phase = .off → s.dev.power.resetLow = true →
      exec (.powerOn a j) s = .next { s with dev := (Device.cleared .held true s.dev.lsv.beamIn.raw s.dev.lsv.beamOut.raw
        s.dev.mst.lock.raw s.dev.tx.cts .power none) }) ∧
    (s.dev.power.phase = .held → ∃ t, exec (.resetLineRelease a j) s = .next t ∧ Started .reset s.dev.nvc.clock a j s t) ∧
    (s.dev.power.phase ≠ .held → exec (.resetLineRelease a j) s = .next (becomes s
      { s.dev with power := { s.dev.power with resetLow := false } })) ∧
    (s.dev.power.phase ≠ .off → exec (.powerOn a j) s = .next (becomes s s.dev))

/-- RESET_LINE_LOW and POWER_FAILURE leave the write in progress as its phase gives and every other part of the store as it was, and
clear all that is volatile; the clock outlives a reset, not a power failure (R185, R193). -/
def Obligations.ResetAndPowerLoss : Prop :=
  ∀ (p : WritePhase) (s : State),
    let left : NvStore := match s.dev.nvc.writing, p with
      | some r, .altering => s.nv.land false r.write
      | some r, .verifying => s.nv.land true r.write
      | _, _ => s.nv
    (s.dev.power.phase = .scan ∨ s.dev.power.phase = .run →
      exec (.resetLineLow p) s = .next { s with nv := left, dev := (Device.cleared .held true s.dev.lsv.beamIn.raw
        s.dev.lsv.beamOut.raw s.dev.mst.lock.raw s.dev.tx.cts .reset s.dev.nvc.clock) }) ∧
    (s.dev.power.phase ≠ .off →
      exec (.powerFailure p) s = .next { s with nv := left, dev := (Device.cleared .off s.dev.power.resetLow
        s.dev.lsv.beamIn.raw s.dev.lsv.beamOut.raw s.dev.mst.lock.raw s.dev.tx.cts .power none) })

/-- SCAN_END starts the sample clock at index 0, takes the raw beams and lock, begins to serve the write queue, forms the READY report
and raises SYS, and JRN when the journal calls for it (R85, R145, R154, R195).
CLOCK_SECOND adds a second to a set clock, which becomes UNSET past 2099-12-31 23:59:59; an UNSET clock stays so. A CALIBRATED
part whose due date is thereby passed becomes SUSPECT (R177, R192). -/
def Obligations.ScanEndAndClock : Prop :=
  (∀ s : State, s.dev.power.phase = .scan →
    ∃ t, exec .scanEnd s = .next t ∧ t.nv = s.nv ∧ t.dev.power = ⟨.run, s.dev.power.resetLow⟩ ∧ t.dev.now = 0 ∧
      t.dev.clc = { s.dev.clc with nextIndex := 0, nextLatch := 0 } ∧
      t.dev.lsv = { s.dev.lsv with beamIn := ⟨s.dev.lsv.beamIn.raw, s.dev.lsv.beamIn.raw, none⟩,
                                   beamOut := ⟨s.dev.lsv.beamOut.raw, s.dev.lsv.beamOut.raw, none⟩,
                                   greenIn := t.dev.lsv.greenIn, greenOut := t.dev.lsv.greenOut } ∧
      t.dev.mst = { s.dev.mst with lock := ⟨s.dev.mst.lock.raw, s.dev.mst.lock.raw, none⟩ } ∧
      t.dev.nvc.serving = true ∧ QueueServed t.dev ∧ outstanding t.dev = outstanding s.dev ∧
      t.dev.nvc.ready = { s.dev.nvc.ready with clock := s.dev.nvc.clock, counter := s.dev.mst.counter, state := s.dev.mst.state } ∧
      t.dev.ntc.pending.sys = (s.dev.ntc.enabled.sys || s.dev.ntc.pending.sys) ∧
      t.dev.ntc.pending.jrn = (s.dev.ntc.pending.jrn ||
        (s.dev.ntc.enabled.jrn && (decide (3584 ≤ s.nv.unexported s.dev.txu.exportMark) || journalFull s.nv s.dev))) ∧
      t.dev.csu = s.dev.csu ∧ t.dev.zsu = s.dev.zsu ∧ t.dev.axu = s.dev.axu ∧ t.dev.txu = s.dev.txu ∧ t.dev.auu = s.dev.auu ∧
      t.dev.rx = s.dev.rx ∧ t.dev.tx = s.dev.tx ∧ t.dev.exe = s.dev.exe ∧ t.dev.nvc.clock = s.dev.nvc.clock) ∧
  (∀ s : State,
    (s.dev.power.phase = .off → exec .clockSecond s = .next (becomes s s.dev)) ∧
    (s.dev.power.phase ≠ .off →
      let next : Option Nat := match s.dev.nvc.clock with
        | some c => if c + 1 < 36525 * 86400 then some (c + 1) else none
        | none => none
      ((s.dev.mst.state ≠ .calibrated ∨ ∀ due c, s.dev.mst.due = some due → next = some c → c / 86400 ≤ due) →
        exec .clockSecond s = .next (becomes s { s.dev with nvc := { s.dev.nvc with clock := next } })) ∧
      (∀ due c, s.dev.power.phase = .run → s.dev.mst.state = .calibrated → s.dev.mst.due = some due → next = some c →
        due < c / 86400 → QueueServed s.dev → statusBusy s.dev = false →
        exec .clockSecond s = .next (becomes s
          (requested ⟨.status false, statusWrite s.nv ⟨.suspect, some due, s.dev.mst.counter⟩⟩
            (noticed .met { s.dev with nvc := { s.dev.nvc with clock := next }, mst := { s.dev.mst with state := .suspect } }))))))

/-! ### Cell lines -/

/-- SAMPLE_INSTANT takes the next index and latch instant (R2, R3): every ACTIVE line is latched and gaps toward its first poll, a
SHORTED line is not; a polled slot of an ACTIVE line without an outcome gets LATE (R5); the polled slots are those configured in the
active record or the working copy (R4), an unpolled one reads NOT-POLLED (R11), and a polled one of a SHORTED line gets SILENT (R24).
The store, the intake and the output queue stay. That `now` moves to the latch instant (log entry 3) and that the index wraps past its
last 40-bit value (log entry 19) are the model's reading. -/
def Obligations.SampleInstant : Prop :=
  ∀ s : State, running s.dev = true →
    ∃ t, exec .sampleInstant s = .next t ∧ t.nv = s.nv ∧ t.dev.rx = s.dev.rx ∧ t.dev.tx.queue = s.dev.tx.queue ∧
      t.dev.power = s.dev.power ∧ t.dev.now = max s.dev.now s.dev.clc.nextLatch ∧
      t.dev.clc.nextIndex = s.dev.clc.nextIndex + 1 ∧ t.dev.clc.nextLatch = s.dev.clc.nextLatch + periodMs s.dev ∧
      (∃ h, t.dev.clc.cycle = some ⟨s.dev.clc.nextIndex, s.dev.clc.nextLatch, h⟩) ∧
      (∀ i, isPolled t.dev i = (configured s.dev i || workConfigured s.dev i)) ∧
      (∀ l, (lineOf s.dev l).status = .active → (lineOf t.dev l).status = .active ∧ (lineOf t.dev l).pulse = some .latch ∧
        (lineOf t.dev l).phase = if ∃ i ∈ SlotId.ofLine l, isPolled t.dev i = true then .gap else .idle) ∧
      (∀ l, (lineOf s.dev l).status = .shorted → (lineOf t.dev l).status = .shorted ∧ (lineOf t.dev l).pulse = none) ∧
      (∀ i,
        let h := s.dev.nvc.settings.hold
        let x := if s.dev.clc.cycle ≠ none ∧ isPolled s.dev i = true ∧ (slotOf s.dev i).cycle = none
          then missSlot h .late (slotOf s.dev i) else slotOf s.dev i
        let y : Slot := { x with
          cycle := none
          lastOutcome := if isPolled t.dev i = true then x.lastOutcome else some .notPolled }
        slotOf t.dev i = if isPolled t.dev i = true ∧ (lineOf s.dev i.line).status = .shorted then missSlot h .silent y else y)

/-- POLL_PULSE drives the poll of the line's next polled slot; REPLY_WAIT_TIMEOUT gives the waiting slot SILENT; QUIET_WAIT_END lets the
line go on (R4, R7, R11). A line that goes on has its next gap, or is idle when no polled slot of it is without an outcome. That a reply
timeout with no poll waiting and a quiet end with no quiet wait change nothing is the model's choice (log entry 2). -/
def Obligations.LinePolling : Prop :=
  ∀ (l : Ix) (s : State), running s.dev = true →
    (∀ i rest, (lineOf s.dev l).status = .active → (lineOf s.dev l).phase = .gap → unpolled s.dev l = i :: rest →
      exec (.pollPulse l) s = .next (becomes s { s.dev with clc := { s.dev.clc with lines := (s.dev.clc.lines.set l
        { lineOf s.dev l with pulse := some (.poll i.addr), phase := .waiting i.addr }) } })) ∧
    (∀ a, (lineOf s.dev l).phase = .waiting a → isPolled s.dev ⟨l, a⟩ = true →
      ∃ t, exec (.replyWaitTimeout l) s = .next t ∧ t.nv = s.nv ∧ t.dev.rx = s.dev.rx ∧ t.dev.tx.queue = s.dev.tx.queue ∧
        slotOf t.dev ⟨l, a⟩ = missSlot s.dev.nvc.settings.hold .silent (slotOf s.dev ⟨l, a⟩) ∧
        (∀ i, i ≠ ⟨l, a⟩ → slotOf t.dev i = slotOf s.dev i) ∧ (∀ k, k ≠ l → lineOf t.dev k = lineOf s.dev k) ∧
        lineOf t.dev l = { lineOf s.dev l with phase := if unpolled t.dev l = [] then .idle else .gap }) ∧
    ((lineOf s.dev l).phase = .quiet →
      ∃ t, exec (.quietWaitEnd l) s = .next t ∧ t.nv = s.nv ∧ t.dev.rx = s.dev.rx ∧ t.dev.tx.queue = s.dev.tx.queue ∧
        t.dev.clc.slots = s.dev.clc.slots ∧ (∀ k, k ≠ l → lineOf t.dev k = lineOf s.dev k) ∧
        lineOf t.dev l = { lineOf s.dev l with phase := if unpolled s.dev l = [] then .idle else .gap }) ∧
    ((∀ a, (lineOf s.dev l).phase ≠ .waiting a) → exec (.replyWaitTimeout l) s = .next (becomes s s.dev)) ∧
    ((lineOf s.dev l).phase ≠ .quiet → exec (.quietWaitEnd l) s = .next (becomes s s.dev))

/-- A reference is in range from 38.4 to 57.6 part ticks (R6), and a symbol of length t is good with value v when 48 t / R lies within a
quarter of v + 10 (R7); lengths are in 1/64 part ticks, as the edges' times are (R1).
The fields of a frame with eight good symbols, and its check (R8): a right check makes a valid frame with the rolling count, the
side bits, the raw count and the flags; a wrong one makes the frame BAD. -/
def Obligations.FrameFields : Prop :=
  (∀ ref, refOk ref = true ↔ 384 * 64 ≤ 10 * ref ∧ 10 * ref ≤ 576 * 64) ∧
  (∀ (ref : Nat) (syms vs : List Nat), 0 < ref →
    (symbolValues ref syms = some vs ↔
      List.Forall₂ (fun t v => v ≤ 15 ∧ 4 * ((48 * t : Int) - (v + 10) * ref).natAbs ≤ ref) syms vs)) ∧
  ∀ (ref : Nat) (syms : List Nat) (v1 v2 v3 v4 v5 v6 v7 v8 : Nat), refOk ref = true →
    symbolValues ref syms = some [v1, v2, v3, v4, v5, v6, v7, v8] →
    let u : Int := v2 * 65536 + v3 * 4096 + v4 * 256 + v5 * 16 + v6
    let right : Bool := v8 == (1 * v1 + 2 * v2 + 3 * v3 + 4 * v4 + 5 * v5 + 6 * v6 + 7 * v7) % 16
    decodeFrame ref syms = (if right then some
        ⟨v1 / 4, v1.testBit 1, v1.testBit 0, if u ≤ 524287 then u else u - 1048576,
          ⟨v7.testBit 3, v7.testBit 2, v7.testBit 1, v7.testBit 0⟩⟩ else none) ∧
    (right = false → ∀ (l a : Ix) (s : State), running s.dev = true → (lineOf s.dev l).phase = .waiting a →
      isPolled s.dev ⟨l, a⟩ = true →
      ∃ t, exec (.replyFrame l ref syms) s = .next t ∧ (slotOf t.dev ⟨l, a⟩).lastOutcome = some .bad) ∧
    (right = true → -524288 ≤ (if u ≤ 524287 then u else u - 1048576) ∧ (if u ≤ 524287 then u else u - 1048576) ≤ 524287)

/-- A valid frame acts on the slot that was polled (R10 to R19), no other slot and no other line, and its line goes on (R9). A slot that
enters MISMATCH asks for its CELL-MISMATCH record, of the slot, the expected serial and the one found, with the next audit number and the
slot at the write position (R19, R180); while an earlier request of it stands, its owed mark stands instead; with the audit numbers
exhausted the append is refused and none is made (R181; the first refusal since the reset is taken as the first, log entry 52). A change
of the slot's state raises CEL (R23). That each serial of the record may be absent is the model's reading (log entry 23). -/
def Obligations.ReplyFrameActs : Prop :=
  ∀ (l a : Ix) (ref : Nat) (syms : List Nat) (f : Frame) (s : State), running s.dev = true →
    (lineOf s.dev l).phase = .waiting a → isPolled s.dev ⟨l, a⟩ = true → decodeFrame ref syms = some f →
    let x := frameSlot s.dev.nvc.settings.hold (expectedSerial s.dev ⟨l, a⟩) f (slotOf s.dev ⟨l, a⟩)
    ∃ t, exec (.replyFrame l ref syms) s = .next t ∧ t.nv = s.nv ∧ t.dev.rx = s.dev.rx ∧ t.dev.tx.queue = s.dev.tx.queue ∧
      (∀ i, i ≠ ⟨l, a⟩ → slotOf t.dev i = slotOf s.dev i) ∧ (∀ k, k ≠ l → lineOf t.dev k = lineOf s.dev k) ∧
      lineOf t.dev l = { lineOf s.dev l with phase := if unpolled t.dev l = [] then .idle else .gap } ∧
      x.lastRaw = some f.raw ∧ x.lastCount = some f.count ∧ x.lastFlags = some f.flags ∧
      x.lastOutcome = some (if (slotOf s.dev ⟨l, a⟩).lastCount = some f.count then .stale
        else if f.raw = -524288 then .warmUp else if f.flags.err = true then .cellErr
        else if f.flags.sup = true then .sup else .good) ∧
      (x.state ≠ .mismatch ∨ (slotOf s.dev ⟨l, a⟩).state = .mismatch → slotOf t.dev ⟨l, a⟩ = x) ∧
      (x.state = .mismatch → (slotOf s.dev ⟨l, a⟩).state ≠ .mismatch →
        slotOf t.dev ⟨l, a⟩ = (if x.requested = true then { x with owed := true }
          else { x with owed := false, requested := s.dev.auu.next.isSome })) ∧
      (x.state ≠ .mismatch ∨ (slotOf s.dev ⟨l, a⟩).state = .mismatch ∨ x.requested = true → t.dev.auu = s.dev.auu) ∧
      (x.state = .mismatch → (slotOf s.dev ⟨l, a⟩).state ≠ .mismatch → x.requested = false →
        (∀ n, s.dev.auu.next = some n →
          let found : Option Nat := match x.serialHigh, x.serialLow with
            | some hi, some lo => some (hi * 4096 + lo)
            | _, _ => none
          ⟨.mismatch ⟨l, a⟩, .audit s.dev.auu.writePos ⟨n, .cellMismatch ⟨l, a⟩ (expectedSerial s.dev ⟨l, a⟩) found,
            s.dev.nvc.clock, some s.dev.mst.counter⟩⟩ ∈ outstanding t.dev ∧
          t.dev.auu = ⟨(appendedAt s.dev.auu.writePos n).1, (appendedAt s.dev.auu.writePos n).2, s.dev.auu.refused⟩) ∧
        (s.dev.auu.next = none → t.dev.auu = { s.dev.auu with refused := true })) ∧
      (x.state ≠ (slotOf s.dev ⟨l, a⟩).state → s.dev.ntc.enabled.cel = true → t.dev.ntc.pending.cel = true)

/-- What a valid frame leaves in its slot: outcome and counts (R11), the state step (R16 to R18), the temperature freeze (R15), the side
assembly with its restart, gap and twentieth bit (R13), the stored message (R14), and the identity check of items 1 to 3 (R19). That
the hold count stays on entry into MISMATCH and FAULTED, and into LIVE from VERIFYING, is the model's choice (log entry 35). -/
def Obligations.SideMessages : Prop :=
  ∀ (h : Nat) (expected : Option Nat) (f : Frame) (x : Slot),
    let o : SlotOutcome := if x.lastCount = some f.count then .stale else if f.raw = -524288 then .warmUp
      else if f.flags.err = true then .cellErr else if f.flags.sup = true then .sup else .good
    let a := stepSlot h o { x with
      cycle := some o, lastOutcome := some o, nStale := if o = .stale then min (x.nStale + 1) 65535 else x.nStale
      lastCount := some f.count, lastRaw := some f.raw, lastFlags := some f.flags
      frozen := f.flags.tmp, tempInUse := if f.flags.tmp = true then x.tempInUse else x.lastTemp }
    let bits := if f.sideStart = true then [f.sideData] else if x.assembly = [] then [] else x.assembly ++ [f.sideData]
    let number (l : List Bool) : Nat := l.foldl (fun n b => 2 * n + b.toNat) 0
    let item := number (bits.take 4)
    let v := number ((bits.drop 4).take 12)
    let temp : Int := max (-400) (min 850 (if v < 2048 then (v : Int) else v - 4096))
    let b : Slot := match item with
      | 1 => { a with assembly := [], serialLow := some v }
      | 2 => { a with assembly := [], serialHigh := some v }
      | 3 => { a with assembly := [], lastTemp := some temp, tempReceived := true,
                      tempInUse := if f.flags.tmp = true then a.tempInUse else some temp }
      | 4 => { a with assembly := [], diag := some v }
      | _ => { a with assembly := [] }
    let checked : Slot := match b.serialHigh, b.serialLow with
      | some hi, some lo =>
        if b.state ≠ .verifying ∧ b.state ≠ .live ∧ b.state ≠ .holding then b
        else if expected ≠ some (hi * 4096 + lo) then { b with state := .mismatch }
        else if b.state = .verifying ∧ b.tempReceived = true ∧ b.tempInUse ≠ none then { b with state := .live }
        else b
      | _, _ => b
    let right : Prop := number (bits.drop 16) = (item + v / 256 + v / 16 % 16 + v % 16) % 16
    (o = .stale → frameSlot h expected f x = { a with assembly := [] }) ∧
    (o ≠ .stale → bits.length < 20 → frameSlot h expected f x = { a with assembly := bits }) ∧
    (o ≠ .stale → 20 ≤ bits.length → ¬ right → frameSlot h expected f x = { a with assembly := [] }) ∧
    (o ≠ .stale → 20 ≤ bits.length → right →
      frameSlot h expected f x = if item = 1 ∨ item = 2 ∨ item = 3 then checked else b)

/-- FRAME_EDGE_TIMEOUT, BAD_FRAME at an edge that fails, and REPLY_FRAME without a valid frame give the polled slot BAD and begin the
quiet wait (R6, R7, R8, R11); CEL is raised when the slot's state changes, and nothing else changes. A BAD_FRAME whose edges are all
good, by `edgesBad`, changes nothing: the model's choice (log entry 2). -/
def Obligations.BadFrames : Prop :=
  ∀ (l a : Ix) (s : State), running s.dev = true → (lineOf s.dev l).phase = .waiting a → isPolled s.dev ⟨l, a⟩ = true →
    let x := missSlot s.dev.nvc.settings.hold .bad (slotOf s.dev ⟨l, a⟩)
    let heard := { s.dev with clc := { s.dev.clc with slots := s.dev.clc.slots.put ⟨l, a⟩ x,
                                                      lines := s.dev.clc.lines.set l { lineOf s.dev l with phase := .quiet } } }
    let t := becomes s (if x.state = (slotOf s.dev ⟨l, a⟩).state then heard else noticed .cel heard)
    exec (.frameEdgeTimeout l) s = .next t ∧
    (∀ ref syms, edgesBad ref syms = true → exec (.badFrame l ref syms) s = .next t) ∧
    (∀ ref syms, edgesBad ref syms = false → exec (.badFrame l ref syms) s = .next (becomes s s.dev)) ∧
    (∀ ref syms, decodeFrame ref syms = none → exec (.replyFrame l ref syms) s = .next t)

/-- The states of a slot (R16 to R18, R20): what each outcome does in LIVE, HOLDING, FAULTED, SEEKING, VERIFYING and MISMATCH, under the
hold limit h. The outcomes without a valid frame, BAD, SILENT and LATE (`missSlot`): the outcome is the cycle's and the last, its error
count is one higher up to 65,535 and the others stay (R11), the side assembly is emptied (R13), what the frames before left stays, and
the state steps as for any outcome. The hold count that stays on entry into FAULTED is the model's reading (log entry 35). -/
def Obligations.SlotStates : Prop :=
  ∀ (h : Nat) (o : SlotOutcome) (x : Slot),
    (x.state = .live ∨ x.state = .holding → o = .good → (stepSlot h o x).state = .live ∧ (stepSlot h o x).hold = 0) ∧
    (x.state = .live → o.isMiss = true → (stepSlot h o x).state = .holding ∧ (stepSlot h o x).hold = 1) ∧
    (x.state = .holding → o.isMiss = true →
      (x.hold + 1 ≤ h → stepSlot h o x = { x with hold := x.hold + 1 }) ∧
      (h < x.hold + 1 → (stepSlot h o x).state = .faulted ∧ (stepSlot h o x).run = 0)) ∧
    (x.state = .live ∨ x.state = .holding ∨ x.state = .verifying → o = .warmUp ∨ o = .cellErr →
      (stepSlot h o x).state = .faulted ∧ (stepSlot h o x).run = 0) ∧
    (x.state = .faulted → o ≠ .good → stepSlot h o x = { x with run := 0 }) ∧
    (x.state = .faulted → o = .good → x.run + 1 < 8 → stepSlot h o x = { x with run := x.run + 1 }) ∧
    (x.state = .faulted → o = .good → 8 ≤ x.run + 1 → (stepSlot h o x).state = .verifying ∧
      (stepSlot h o x).serialLow = none ∧ (stepSlot h o x).serialHigh = none ∧ (stepSlot h o x).hold = 0) ∧
    (x.state = .seeking →
      (o = .good → stepSlot h o x = { x with state := .verifying, serialLow := none, serialHigh := none, tempReceived := false,
                                             hold := 0 }) ∧
      (o = .cellErr → stepSlot h o x = { x with state := .faulted, run := 0 }) ∧
      (o ≠ .good → o ≠ .cellErr → stepSlot h o x = x)) ∧
    (x.state = .verifying →
      (o = .good → stepSlot h o x = { x with hold := 0 }) ∧
      (o.isMiss = true → x.hold + 1 ≤ h → stepSlot h o x = { x with hold := x.hold + 1 }) ∧
      (o.isMiss = true → h < x.hold + 1 → stepSlot h o x = { x with state := .faulted, run := 0 })) ∧
    (o.isMiss = true ↔ o = .bad ∨ o = .silent ∨ o = .late ∨ o = .stale ∨ o = .sup) ∧
    (o = .bad ∨ o = .silent ∨ o = .late →
      let y := missSlot h o x
      y.cycle = some o ∧ y.lastOutcome = some o ∧ y.assembly = [] ∧
      y.nBad = (if o = .bad then min (x.nBad + 1) 65535 else x.nBad) ∧
      y.nSilent = (if o = .silent then min (x.nSilent + 1) 65535 else x.nSilent) ∧
      y.nLate = (if o = .late then min (x.nLate + 1) 65535 else x.nLate) ∧ y.nStale = x.nStale ∧
      y = { x with cycle := y.cycle, lastOutcome := y.lastOutcome, assembly := y.assembly, nBad := y.nBad, nSilent := y.nSilent,
                   nLate := y.nLate, state := (stepSlot h o x).state, hold := (stepSlot h o x).hold, run := (stepSlot h o x).run }) ∧
    (x.state = .mismatch ∨ x.state = .unused → stepSlot h o x = x)

/-- LINE_SHORTED, SHORT_RETRY and LINE_RECOVERY (R24, R25): a shorted line is no longer polled and its configured slots but MISMATCH ones
are FAULTED, the slot being polled with BAD and the other polled ones without an outcome with SILENT; each second it gets a latch pulse
and is watched; recovered, it is ACTIVE and those slots are SEEKING. That the SILENT outcomes come at once (log entry 14), that a retry
or recovery of an ACTIVE line changes nothing (log entry 2), the move of `now` (log entry 3), and the hold count that stays in FAULTED
and SEEKING and the rolling count that a slot of the working copy alone keeps at a recovery (log entry 35) are the model's reading. -/
def Obligations.LineFaults : Prop :=
  ∀ (l : Ix) (s : State), running s.dev = true →
    ((lineOf s.dev l).status = .active →
      ∃ t, exec (.lineShorted l) s = .next t ∧ t.nv = s.nv ∧ t.dev.rx = s.dev.rx ∧ t.dev.tx.queue = s.dev.tx.queue ∧
        lineOf t.dev l = ⟨.shorted, .idle, none, false, s.dev.now + 1000⟩ ∧ (∀ k, k ≠ l → lineOf t.dev k = lineOf s.dev k) ∧
        (∀ i, i.line = l → configured s.dev i = true → (slotOf s.dev i).state ≠ .mismatch →
          (slotOf t.dev i).state = .faulted ∧ (slotOf t.dev i).run = 0) ∧
        (∀ i, i.line = l → (slotOf s.dev i).state = .mismatch → (slotOf t.dev i).state = .mismatch) ∧
        (∀ i, i.line = l →
          let h := s.dev.nvc.settings.hold
          let x := if (lineOf s.dev l).phase = .waiting i.addr ∧ isPolled s.dev i = true then missSlot h .bad (slotOf s.dev i)
            else slotOf s.dev i
          let y : Slot := if configured s.dev i = true ∧ x.state ≠ .mismatch then { x with state := .faulted, run := 0 } else x
          slotOf t.dev i = if isPolled s.dev i = true ∧ y.cycle = none then missSlot h .silent y else y) ∧
        (∀ i, (lineOf s.dev i.line).status = .active → i.line ≠ l → slotOf t.dev i = slotOf s.dev i) ∧
        (s.dev.ntc.enabled.cel = true → t.dev.ntc.pending.cel = true)) ∧
    ((lineOf s.dev l).status = .shorted →
      exec (.shortRetry l) s = .next (becomes s { s.dev with now := max s.dev.now (lineOf s.dev l).nextRetry, clc :=
        { s.dev.clc with lines := s.dev.clc.lines.set l { lineOf s.dev l with pulse := some .latch, watching := true,
                                                                              nextRetry := (lineOf s.dev l).nextRetry + 1000 } } })) ∧
    ((lineOf s.dev l).status = .shorted → (lineOf s.dev l).watching = true →
      ∃ t, exec (.lineRecovery l) s = .next t ∧ t.nv = s.nv ∧ t.dev.rx = s.dev.rx ∧ t.dev.tx = s.dev.tx ∧
        t.dev.csu = s.dev.csu ∧ t.dev.zsu = s.dev.zsu ∧ t.dev.mst = s.dev.mst ∧ t.dev.nvc = s.dev.nvc ∧
        lineOf t.dev l = ⟨.active, .idle, (lineOf s.dev l).pulse, false, 0⟩ ∧ (∀ k, k ≠ l → lineOf t.dev k = lineOf s.dev k) ∧
        (∀ i, i.line = l → configured s.dev i = true → (slotOf s.dev i).state ≠ .mismatch →
          slotOf t.dev i = { slotOf s.dev i with state := .seeking, lastCount := none }) ∧
        (∀ i, i.line ≠ l ∨ configured s.dev i = false ∨ (slotOf s.dev i).state = .mismatch →
          slotOf t.dev i = slotOf s.dev i) ∧
        (s.dev.ntc.enabled.cel = true → t.dev.ntc.pending.cel = true)) ∧
    ((lineOf s.dev l).status = .active → exec (.shortRetry l) s = .next (becomes s s.dev) ∧
      exec (.lineRecovery l) s = .next (becomes s s.dev))

/-! ### Beams, strips, lane timers, the lock and deadlines -/

/-- BEAM_LEVEL_CHANGE and LOCK_LEVEL_CHANGE (R63, R154): the raw level changes; while the part runs, a debounce starts at the change that
leaves the debounced state, and is abandoned on a return to it; nothing else changes but the time.
BEAM_CHANGE 100 ms after the raw level left the debounced state (R63): the debounced state follows. A beam that becomes BLOCKED moves
the lane as R67 to R69 say, opening a passage of cause BEAM-IN from CLEAR, and ends a capture wait BEM (R58); a beam that becomes CLEAR
does neither. A lane that moves ends a ZER and a CZE that wait LAN (R51, R158), and a CSP waits on. The settle timer runs on, starts at
the change or stops as its condition, ENTERING with both beams CLEAR and the deck OCCUPIED, goes on to hold, comes to hold or ceases, and
so does the clear timer with its own, a passage with both beams CLEAR and the deck EMPTY (R68 to R71). That `now` moves to the event's
time is the model's choice (log entry 3). -/
def Obligations.InputsDebounced : Prop :=
  (∀ (level : Bool) (time : Nat) (s : State),
    let moved (x : Input) : Input :=
      if s.dev.power.phase = .run then
        { x with raw := level, debounce := if level = x.state then none else some (x.debounce.getD time) }
      else { x with raw := level }
    let d := if s.dev.power.phase = .run then { s.dev with now := max s.dev.now time } else s.dev
    exec (.beamLevelChange .entry level time) s = .next (becomes s { d with lsv := { d.lsv with beamIn := moved d.lsv.beamIn } }) ∧
    exec (.beamLevelChange .exit level time) s = .next (becomes s { d with lsv := { d.lsv with beamOut := moved d.lsv.beamOut } }) ∧
    exec (.lockLevelChange level time) s = .next (becomes s { d with mst := { d.mst with lock := moved d.mst.lock } })) ∧
  ∀ (b : Beam) (t0 : Nat) (s : State), running s.dev = true → (beamOf s.dev b).debounce = some t0 →
    let lane : Lane := if (beamOf s.dev b).raw = false then s.dev.lsv.lane
      else match s.dev.lsv.lane, b with
        | .clear, .entry => .entering
        | .onDeck, .entry => .entering
        | .entering, .exit => .leaving
        | .onDeck, .exit => .leaving
        | x, _ => x
    ∃ t, exec (.beamChange b) s = .next t ∧ t.nv = s.nv ∧ t.dev.rx = s.dev.rx ∧ t.dev.tx.queue = s.dev.tx.queue ∧
      t.dev.clc = s.dev.clc ∧ t.dev.csu = s.dev.csu ∧ t.dev.zsu = s.dev.zsu ∧ t.dev.mst = s.dev.mst ∧ t.dev.nvc = s.dev.nvc ∧
      t.dev.lsv.history = s.dev.lsv.history ∧ t.dev.now = max s.dev.now (t0 + 100) ∧
      beamOf t.dev b = ⟨(beamOf s.dev b).raw, (beamOf s.dev b).raw, none⟩ ∧ (∀ k, k ≠ b → beamOf t.dev k = beamOf s.dev k) ∧
      t.dev.lsv.lane = lane ∧ t.dev.lsv.occupancy = s.dev.lsv.occupancy ∧
      (let clear : Prop := (beamOf t.dev .entry).state = false ∧ (beamOf t.dev .exit).state = false
       t.dev.lsv.settle = (if lane = .entering ∧ clear ∧ s.dev.lsv.occupancy = .occupied then some (s.dev.lsv.settle.getD (t0 + 100))
         else none) ∧
       t.dev.lsv.clear = (if (lane = .entering ∨ lane = .onDeck ∨ lane = .leaving) ∧ clear ∧ s.dev.lsv.occupancy = .empty
         then some (s.dev.lsv.clear.getD (t0 + 100)) else none)) ∧
      ((beamOf s.dev b).raw = true → s.dev.lsv.lane = .clear → b = .entry → ∃ p, t.dev.lsv.current = some p ∧
        p.number = s.dev.lsv.nextPassage ∧ p.cause = .beamIn ∧ p.openAt = t0 + 100 ∧ p.ring = [] ∧ p.axles = []) ∧
      (s.dev.lsv.lane ≠ .clear ∨ b = .exit → t.dev.lsv.current = s.dev.lsv.current) ∧
      (∀ c k g, (beamOf s.dev b).raw = true → s.dev.exe.stage = .capWait c k → s.dev.exe.slot = some g →
        t.dev.exe.stage = .ended ∧ t.dev.tx.longs = s.dev.tx.longs ++ [recordOf '#' (tagText g) [['B', 'E', 'M']]]) ∧
      (∀ g, lane ≠ s.dev.lsv.lane → s.dev.exe.slot = some g →
        (∃ k, s.dev.exe.stage = .zerWait k) ∨ (∃ k w, s.dev.exe.stage = .runWait .cze k w) →
        t.dev.exe = ⟨some g, .ended⟩ ∧ t.dev.tx.longs = s.dev.tx.longs ++ [recordOf '#' (tagText g) [['L', 'A', 'N']]]) ∧
      ((∀ c k, s.dev.exe.stage ≠ .capWait c k) → lane = s.dev.lsv.lane ∨ (∃ m x k w, s.dev.exe.stage = .runWait (.csp m x) k w) →
        t.dev.exe = s.dev.exe ∧ t.dev.tx = s.dev.tx)

/-- STRIP_HIT (R64, R67 to R71, R79, R87): an edge less than 40 ms after the strip's last accepted hit is ignored; an accepted one opens a
passage from CLEAR on strip A, takes ON_DECK back to ENTERING on strips B and C, is a tailgate on strip A in LEAVING, and is counted by
the AXU in ENTERING. The samples latched at or after a tailgate's hit are the new passage's (R94, R108). A lane that moves ends LAN a ZER,
a capture and a CZE that wait (R51, R58, R158). In a passage, or opening one, a hit restarts or starts the settle timer, and the clear
timer, at its time where the timer's other conditions hold in the lane it leaves, and else leaves it stopped (R68, R70). The move of `now`
(log entry 3), and that a passage opened from CLEAR has no sample of before its opening (log entry 43), are the model's choice. -/
def Obligations.StripHit : Prop :=
  ∀ (k : Strip) (time : Nat) (s : State), running s.dev = true → s.dev.clc.cycle ≠ none →
    (∀ last, lastHitOf s.dev k = some last → time < last + 40 →
      exec (.stripHit k time) s = .next (becomes s { s.dev with now := max s.dev.now time })) ∧
    ((∀ last, lastHitOf s.dev k = some last → last + 40 ≤ time) →
      ∃ t, exec (.stripHit k time) s = .next t ∧ t.nv = s.nv ∧ t.dev.rx = s.dev.rx ∧ t.dev.tx.queue = s.dev.tx.queue ∧
        t.dev.clc = s.dev.clc ∧ t.dev.csu = s.dev.csu ∧ t.dev.zsu = s.dev.zsu ∧ t.dev.now = max s.dev.now time ∧
        lastHitOf t.dev k = some time ∧ (∀ j, j ≠ k → lastHitOf t.dev j = lastHitOf s.dev j) ∧
        (s.dev.lsv.lane = .init ∨ (s.dev.lsv.lane = .clear ∧ k ≠ .a) → t.dev = refreshLights (storeHit k time
          { s.dev with now := max s.dev.now time })) ∧
        (s.dev.lsv.lane = .clear → k = .a → t.dev.lsv.lane = .entering ∧ t.dev.axu.hitsA = 1 ∧ t.dev.axu.pendingA = [time] ∧
          t.dev.axu.samples = [] ∧ ∃ p, t.dev.lsv.current = some p ∧ p.number = s.dev.lsv.nextPassage ∧ p.cause = .aHit ∧ p.openAt = time) ∧
        (∀ p, s.dev.lsv.lane = .entering → s.dev.lsv.current = some p → t.dev.lsv.lane = .entering ∧
          (k = .a → t.dev.axu.hitsA = s.dev.axu.hitsA + 1) ∧ (k = .b → t.dev.axu.hitsB = s.dev.axu.hitsB + 1) ∧
          (k = .c → t.dev.axu.hitsC = s.dev.axu.hitsC + 1)) ∧
        (s.dev.lsv.lane = .onDeck → t.dev.lsv.lane = (if k = .a then .onDeck else .entering)) ∧
        (s.dev.lsv.lane ≠ .init → s.dev.lsv.lane ≠ .clear ∨ k = .a →
          let clear : Prop := s.dev.lsv.beamIn.state = false ∧ s.dev.lsv.beamOut.state = false
          t.dev.lsv.beamIn = s.dev.lsv.beamIn ∧ t.dev.lsv.beamOut = s.dev.lsv.beamOut ∧ t.dev.lsv.occupancy = s.dev.lsv.occupancy ∧
          t.dev.lsv.settle = (if t.dev.lsv.lane = .entering ∧ clear ∧ s.dev.lsv.occupancy = .occupied then some time else none) ∧
          t.dev.lsv.clear = (if clear ∧ s.dev.lsv.occupancy = .empty then some time else none)) ∧
        (s.dev.lsv.lane = .leaving → k ≠ .a → t.dev.lsv.lane = .leaving) ∧
        (∀ p, s.dev.lsv.lane = .leaving → s.dev.lsv.current = some p → k = .a → t.dev.lsv.lane = .entering ∧
          t.dev.axu.hitsA = 1 ∧ t.dev.axu.pendingA = [time] ∧
          t.dev.axu.samples = s.dev.axu.samples.filter (fun x => decide (time ≤ x.latch)) ∧
          (∃ q, t.dev.lsv.current = some q ∧ q.number = s.dev.lsv.nextPassage ∧ q.cause = .tailgate ∧
            q.flags.tailgateIn = true ∧ q.openAt = time) ∧
          (∃ q, t.dev.lsv.history.getLast? = some q ∧ q.number = p.number ∧ q.closeCause = some .tailgate ∧
            q.closeAt = some time ∧ q.flags.tailgateOut = true)) ∧
        (∀ g, t.dev.lsv.lane ≠ s.dev.lsv.lane → s.dev.exe.slot = some g →
          (∃ n, s.dev.exe.stage = .zerWait n) ∨ (∃ c n, s.dev.exe.stage = .capWait c n) ∨ (∃ n w, s.dev.exe.stage = .runWait .cze n w) →
          t.dev.exe = ⟨some g, .ended⟩ ∧ t.dev.tx.longs = s.dev.tx.longs ++ [recordOf '#' (tagText g) [['L', 'A', 'N']]]) ∧
        (t.dev.lsv.lane = s.dev.lsv.lane → t.dev.exe = s.dev.exe ∧ t.dev.tx = s.dev.tx))

/-- SETTLE_TIMER_EXPIRES takes ENTERING to ON_DECK (R68); CLEAR_TIMER_EXPIRES closes the current passage CLEAR into the history of at most
four and takes the lane to CLEAR (R70, R76, R77). LNE, and AXL at a close, are raised. The move of `now` is the model's choice (log
entry 3). -/
def Obligations.LaneTimers : Prop :=
  ∀ (t0 : Nat) (s : State), running s.dev = true →
    (s.dev.lsv.settle = some t0 → s.dev.lsv.lane = .entering →
      ∃ t, exec .settleTimerExpires s = .next t ∧ t.nv = s.nv ∧ t.dev.rx = s.dev.rx ∧ t.dev.tx.queue = s.dev.tx.queue ∧
        t.dev.clc = s.dev.clc ∧ t.dev.csu = s.dev.csu ∧ t.dev.zsu = s.dev.zsu ∧ t.dev.axu = s.dev.axu ∧
        t.dev.lsv.lane = .onDeck ∧ t.dev.lsv.settle = none ∧ t.dev.lsv.current = s.dev.lsv.current ∧
        t.dev.lsv.history = s.dev.lsv.history ∧ t.dev.now = max s.dev.now (t0 + 100 * s.dev.nvc.settings.setl) ∧
        (s.dev.ntc.enabled.lne = true → t.dev.ntc.pending.lne = true)) ∧
    (∀ p, s.dev.lsv.clear = some t0 → s.dev.lsv.current = some p → s.dev.lsv.history.length ≤ 4 →
      s.dev.lsv.lane = .entering ∨ s.dev.lsv.lane = .onDeck ∨ s.dev.lsv.lane = .leaving →
      ∃ t, exec .clearTimerExpires s = .next t ∧ t.nv = s.nv ∧ t.dev.rx = s.dev.rx ∧ t.dev.tx.queue = s.dev.tx.queue ∧
        t.dev.clc = s.dev.clc ∧ t.dev.csu = s.dev.csu ∧ t.dev.zsu = s.dev.zsu ∧ t.dev.axu = Axu.reset ∧
        t.dev.lsv.lane = .clear ∧ t.dev.lsv.current = none ∧ t.dev.lsv.settle = none ∧ t.dev.lsv.clear = none ∧
        t.dev.lsv.history.length = min 4 (s.dev.lsv.history.length + 1) ∧
        (∃ q, t.dev.lsv.history.getLast? = some q ∧ q.number = p.number ∧ q.closeCause = some .clear ∧
          q.closeAt = some (t0 + 1000 * s.dev.nvc.settings.clrt) ∧ q.ring = p.ring ∧ q.result ≠ none) ∧
        t.dev.now = max s.dev.now (t0 + 1000 * s.dev.nvc.settings.clrt) ∧
        (s.dev.ntc.enabled.lne = true → t.dev.ntc.pending.lne = true) ∧
        (s.dev.ntc.enabled.axl = true → t.dev.ntc.pending.axl = true))

/-- What a weight record does to the lane. Its occupancy, OCCUPIED from the threshold on, EMPTY below it, UNKNOWN without a G, is held
(R65). With the lane CLEAR an OCCUPIED record opens a passage of cause LOAD at its latch and takes the lane to ENTERING (R67, R73), which
ends waits LAN (R51, R58, R158); else the two timers follow their conditions: the settle timer in ENTERING with both beams CLEAR and the
deck OCCUPIED, the clear timer in a passage with both beams CLEAR and the deck EMPTY, each starting where it was stopped and stopping
where its condition ceases (R68, R70). A record that reached the part with the lane INIT only holds its occupancy (R66; log entry 11).
That a timer which a record starts runs from the reading `now` (log entry 46), and that the ZSU has judged the record before (log entry
56), is the model's choice. -/
def Obligations.OccupancyActs : Prop :=
  ∀ (wasInit : Bool) (wr : WeightRecord) (d : Device),
    let limit := d.nvc.settings.occ * (100 * (match d.mst.active with
      | some r => r.d
      | none => 1))
    let occ : Occupancy := match wr.g with
      | none => .unknown
      | some g => if (limit : Int) ≤ g then .occupied else .empty
    let clear : Bool := d.lsv.beamIn.state == false && d.lsv.beamOut.state == false
    let timer (holds : Prop) [Decidable holds] (old : Option Nat) : Option Nat := if holds then some (old.getD d.now) else none
    let t := laneRecord wasInit wr d
    (wasInit = true → t = { d with lsv := { d.lsv with occupancy := occ } }) ∧
    (wasInit = false → d.lsv.lane = .clear → occ = .occupied →
      t.lsv.lane = .entering ∧ t.lsv.occupancy = .occupied ∧ t.lsv.history = d.lsv.history ∧ t.lsv.clear = none ∧
      t.lsv.settle = (if clear = true then some d.now else none) ∧
      (∃ p, t.lsv.current = some p ∧ p.number = d.lsv.nextPassage ∧ p.cause = .load ∧ p.openAt = wr.latch ∧
        p.openTime = d.nvc.clock ∧ p.ring = [] ∧ p.axles = [] ∧ p.intervals = []) ∧
      t.lsv.nextPassage = (if d.lsv.nextPassage ≥ 65535 then 1 else d.lsv.nextPassage + 1) ∧
      t.clc = d.clc ∧ t.csu = d.csu ∧ t.zsu = d.zsu ∧ t.mst = d.mst ∧ t.txu = d.txu ∧ t.nvc = d.nvc ∧ t.now = d.now ∧
      (d.ntc.enabled.lne = true → t.ntc.pending.lne = true) ∧
      (∀ g, d.exe.slot = some g → (∃ n, d.exe.stage = .zerWait n) ∨ (∃ c n, d.exe.stage = .capWait c n) ∨
          (∃ n w, d.exe.stage = .runWait .cze n w) →
        t.exe = ⟨some g, .ended⟩ ∧ t.tx = { d.tx with longs := d.tx.longs ++ [recordOf '#' (tagText g) [['L', 'A', 'N']]] })) ∧
    (wasInit = false → d.lsv.lane ≠ .clear ∨ occ ≠ .occupied → t = { d with lsv := { d.lsv with
      occupancy := occ
      settle := timer (d.lsv.lane = .entering ∧ clear = true ∧ occ = .occupied) d.lsv.settle
      clear := timer ((d.lsv.lane = .entering ∨ d.lsv.lane = .onDeck ∨ d.lsv.lane = .leaving) ∧ clear = true ∧ occ = .empty)
        d.lsv.clear } })

/-- LOCK_POSITION_CHANGE (R154, R158, R168): the lock position follows and MET is raised. A lock that closes ends a CZE or CSP LCK and
discards an open run, with its CAL-DISCARD record requested or owed; an accepted commit only remembers it. The move of `now` is the
model's choice (log entry 3). -/
def Obligations.LockPosition : Prop :=
  ∀ (t0 : Nat) (s : State), running s.dev = true → s.dev.mst.lock.debounce = some t0 →
    let moved := noticed .met { s.dev with now := max s.dev.now (t0 + 100),
                                           mst := { s.dev.mst with lock := ⟨s.dev.mst.lock.raw, s.dev.mst.lock.raw, none⟩ } }
    (s.dev.mst.lock.raw = true → exec .lockPositionChange s = .next (becomes s moved)) ∧
    (s.dev.mst.lock.raw = false →
      (s.dev.mst.run = none → s.dev.exe.stage = .none → exec .lockPositionChange s = .next (becomes s moved)) ∧
      (∀ items more count time b, s.dev.exe.stage = .ccmAudit items more count time b →
        exec .lockPositionChange s = .next (becomes s (atStage (.ccmAudit items more count time true) moved))) ∧
      (∀ more count b, s.dev.exe.stage = .ccmRecord more count b →
        exec .lockPositionChange s = .next (becomes s (atStage (.ccmRecord more count true) moved))) ∧
      (∀ w, s.dev.mst.run = some w → s.dev.exe.stage = .none → QueueServed s.dev →
        let closed := noticed .met { moved with mst := { moved.mst with run := none } }
        (statusBusy s.dev = true → exec .lockPositionChange s = .next (becomes s
          { closed with mst := { closed.mst with held := closed.mst.held ++ [.discard] } })) ∧
        (∀ n, statusBusy s.dev = false → s.dev.auu.next = some n → n < 9999999 →
          exec .lockPositionChange s = .next (becomes s (requested
            ⟨.discard, .audit s.dev.auu.writePos ⟨n, .calDiscard, s.dev.nvc.clock, some s.dev.mst.counter⟩⟩
            { closed with auu := { closed.auu with writePos := if s.dev.auu.writePos ≥ 256 then 1 else s.dev.auu.writePos + 1,
                                                   next := some (n + 1) } })))) ∧
      (∀ w g c k win, s.dev.mst.run = some w → s.dev.exe.stage = .runWait c k win → s.dev.exe.slot = some g →
        ∃ t, exec .lockPositionChange s = .next t ∧ t.dev.mst.run = none ∧ t.dev.exe.stage = .ended ∧
          t.dev.tx.longs = s.dev.tx.longs ++ [recordOf '#' (tagText g) [['L', 'C', 'K']]]))

/-- ZER_DEADLINE, CAPTURE_DEADLINE and RUN_CAPTURE_DEADLINE end their waits MOT and change nothing else (R51, R58, R158, R161). At
AXLE_WAIT_EXPIRES, or at ABT, the ticket is made without a summary and its journal write requested, after the owed TORN's when one is
owed (R141, R134, R135, R138). That `now` moves to the deadline (log entry 3), and that a record has its time absent where the clock has
become UNSET (log entry 45), are the model's choice. -/
def Obligations.WaitsEnd : Prop :=
  ∀ (k : Nat) (g : Tag) (s : State), s.dev.exe.slot = some g →
    let late := { s.dev with now := max s.dev.now k }
    (s.dev.exe.stage = .zerWait k → exec .zerDeadline s = .next (becomes s (endedWith '#' g [['M', 'O', 'T']] late))) ∧
    (∀ c, s.dev.exe.stage = .capWait c k →
      exec .captureDeadline s = .next (becomes s (endedWith '#' g [['M', 'O', 'T']] late))) ∧
    (∀ c w, s.dev.exe.stage = .runWait c k w →
      exec .runCaptureDeadline s = .next (becomes s (endedWith '#' g [['M', 'O', 'T']] late))) ∧
    (∀ x n, s.dev.exe.stage = .axleWait x n k → s.dev.txu.owedTorn = none → QueueServed s.dev →
      let x' : Draft := { x with summary := none, tailgate := match s.dev.lsv.current with
        | some p => p.flags.tailgateIn || p.flags.tailgateOut
        | none => false }
      let rec' := JournalRec.make (s.nv.nextTicket none) (recordBody (s.dev.mst.state == .suspect) x') s.dev.nvc.clock
        (s.dev.mst.active.map (·.counter))
      let issued (d : Device) : Device := atStage (.record x' rec') (requested ⟨.longOp, .journal s.dev.txu.writePos rec'⟩ d)
      exec .axleWaitExpires s = .next (becomes s (issued late)) ∧
      (TakesCommands s.dev → exec (.abt []) s = .next (becomes s (issued (answered .abt [tagText g] s.dev))))) ∧
    (∀ x n m, s.dev.exe.stage = .axleWait x n k → s.dev.txu.owedTorn = some m → QueueServed s.dev →
      let x' : Draft := { x with summary := none, tailgate := match s.dev.lsv.current with
        | some p => p.flags.tailgateIn || p.flags.tailgateOut
        | none => false }
      let torn := JournalRec.make m .torn s.dev.nvc.clock (s.dev.mst.active.map (·.counter))
      let issued (d : Device) : Device := atStage (.owedTorn x') (requested ⟨.longOp, .journal s.dev.txu.writePos torn⟩ d)
      exec .axleWaitExpires s = .next (becomes s (issued late)) ∧
      (TakesCommands s.dev → exec (.abt []) s = .next (becomes s (issued (answered .abt [tagText g] s.dev))))) ∧
    (s.dev.exe.stage = .ended → exec .zerDeadline s = .next (becomes s s.dev) ∧ exec .captureDeadline s = .next (becomes s s.dev) ∧
      exec .runCaptureDeadline s = .next (becomes s s.dev) ∧ exec .axleWaitExpires s = .next (becomes s s.dev))

/-! ### Writes of the non-volatile store -/

/-- NVC_WRITE_COMPLETE ends the write in progress (R185): its one target holds the new content, or fails its check after NVF, every
other part of the store is as it was, and the counts of the error report follow (R188).
Of a target of two copies, the newest content is the valid copy's, and of two valid ones that whose sequence number is one more, modulo
4, than the other's, copy 1 where neither is; a write goes to the other copy with the number after, modulo 4, or with 0 where no copy is
valid (R110), and then to copy 1: the model's choice (log entry 25). So are the writes of visits, tares, status and export mark formed. -/
def Obligations.WriteCompletes : Prop :=
  (∀ (α : Type) (t : TwoCopy α),
    (∀ a b, t.c1 = .valid a → t.c2 = .valid b →
      t.newest = some (if b.seq = (a.seq + 1) % 4 then (true, b) else (false, a))) ∧
    (∀ a, t.c1 = .valid a → (∀ b, t.c2 ≠ .valid b) → t.newest = some (false, a)) ∧
    (∀ b, (∀ a, t.c1 ≠ .valid a) → t.c2 = .valid b → t.newest = some (true, b)) ∧
    ((∀ a, t.c1 ≠ .valid a) → (∀ b, t.c2 ≠ .valid b) → t.newest = none) ∧
    t.content = t.newest.map (fun x => x.2.content) ∧
    t.target = (match t.newest with
      | some (second, c) => (!second, (c.seq + 1) % 4)
      | none => (false, 0))) ∧
  (∀ (nv : NvStore) (slot n : Nat) (x : StatusRec) (e : Option TareEntry) (v : Option VisitRec),
    statusWrite nv x = .status nv.status.target.1 ⟨nv.status.target.2, x⟩ ∧
    exportWrite nv n = .exportRec nv.exportRec.target.1 ⟨nv.exportRec.target.2, n⟩ ∧
    tareWrite nv slot e = .tare slot (nv.tareSlot slot).target.1 ⟨(nv.tareSlot slot).target.2, e⟩ ∧
    visitWrite nv slot v = .visit slot (nv.visitSlot slot).target.1 ⟨(nv.visitSlot slot).target.2, v⟩) ∧
  ∀ (ok : Bool) (r : WriteReq) (s : State), running s.dev = true → s.dev.nvc.writing = some r →
    ∃ t, exec (.nvcWriteComplete ok) s = .next t ∧ QueueServed t.dev ∧
      t.dev.nvc.report.passed = (if ok then min (s.dev.nvc.report.passed + 1) 65535 else s.dev.nvc.report.passed) ∧
      t.dev.nvc.report.nvf = (if ok then s.dev.nvc.report.nvf else min (s.dev.nvc.report.nvf + 1) 65535) ∧
      t.dev.rx = s.dev.rx ∧ t.dev.tx.queue = s.dev.tx.queue ∧ t.dev.power = s.dev.power ∧ t.dev.now = s.dev.now ∧
      (match r.write with
        | .settings x => t.nv = { s.nv with settings := t.nv.settings } ∧ t.nv.settings = (if ok then .valid x else .torn)
        | .calibration x => t.nv = { s.nv with calibration := t.nv.calibration } ∧
            t.nv.calibration = (if ok then .valid x else .torn)
        | .status second c => t.nv = { s.nv with status := t.nv.status } ∧
            (if second then t.nv.status.c2 else t.nv.status.c1) = (if ok then .valid c else .torn) ∧
            (if second then t.nv.status.c1 = s.nv.status.c1 else t.nv.status.c2 = s.nv.status.c2)
        | .audit slot x => t.nv = { s.nv with audit := t.nv.audit } ∧ t.nv.auditCell slot = (if ok then .valid x else .torn) ∧
            ∀ k, k ≠ slot → t.nv.auditCell k = s.nv.auditCell k
        | .tare slot second c => t.nv = { s.nv with tares := t.nv.tares } ∧
            (if second then (t.nv.tareSlot slot).c2 else (t.nv.tareSlot slot).c1) = (if ok then .valid c else .torn) ∧
            (if second then (t.nv.tareSlot slot).c1 = (s.nv.tareSlot slot).c1
              else (t.nv.tareSlot slot).c2 = (s.nv.tareSlot slot).c2) ∧
            ∀ k, k ≠ slot → t.nv.tareSlot k = s.nv.tareSlot k
        | .visit slot second c => t.nv = { s.nv with visits := t.nv.visits } ∧
            (if second then (t.nv.visitSlot slot).c2 else (t.nv.visitSlot slot).c1) = (if ok then .valid c else .torn) ∧
            (if second then (t.nv.visitSlot slot).c1 = (s.nv.visitSlot slot).c1
              else (t.nv.visitSlot slot).c2 = (s.nv.visitSlot slot).c2) ∧
            ∀ k, k ≠ slot → t.nv.visitSlot k = s.nv.visitSlot k
        | .journal slot x => t.nv = { s.nv with journal := t.nv.journal } ∧
            t.nv.journalCell slot = (if ok then .valid x else .torn) ∧ ∀ k, k ≠ slot → t.nv.journalCell k = s.nv.journalCell k
        | .exportRec second c => t.nv = { s.nv with exportRec := t.nv.exportRec } ∧
            (if second then t.nv.exportRec.c2 else t.nv.exportRec.c1) = (if ok then .valid c else .torn) ∧
            (if second then t.nv.exportRec.c1 = s.nv.exportRec.c1 else t.nv.exportRec.c2 = s.nv.exportRec.c2))

/-- What the report of a long command's write does: TRS, TRK and TRD enter or drop the tare (R125 to R127), JEX moves E (R144), SET
brings the settings into force and ends with =SET and every setting (R190); an NVF leaves all three as they were and ends the command
NVF. The settings in force take each HOLDING or VERIFYING slot beyond the new hold limit to FAULTED, raising CEL (R22), and end a running
lane timer that has already run its new length: the settle timer with ON_DECK, the clear timer with the close of the passage (R72). That
the export write ends the full state a head repair left (log entry 12), the hold count that stays in FAULTED (log entry 35) and the close
instant of a passage so closed (log entry 41) are the model's reading, and so is the form of SETL in =SET (log entry 54). -/
def Obligations.LongWriteReports : Prop :=
  ∀ (ok : Bool) (w : NvWrite) (g : Tag) (s : State), running s.dev = true → s.dev.nvc.writing = some ⟨.longOp, w⟩ →
    s.dev.nvc.queue = [] → s.dev.exe.slot = some g →
    let told := { s.dev with nvc := { s.dev.nvc with writing := none, report := if ok
      then { s.dev.nvc.report with passed := min (s.dev.nvc.report.passed + 1) 65535 }
      else { s.dev.nvc.report with nvf := min (s.dev.nvc.report.nvf + 1) 65535 } } }
    let after (d : Device) : State := becomes { s with nv := s.nv.land ok w } d
    (∀ h slot c ref rep, s.dev.exe.stage = .tareWrite h slot c ref rep → exec (.nvcWriteComplete ok) s = .next (after (
      if ok then
        match c with
        | some e => endedWith '=' g (tareFields e rep) { told with txu := { told.txu with tares := nvPut told.txu.tares slot e } }
        | none => endedWith '=' g [ref] { told with txu := { told.txu with tares := nvErase told.txu.tares slot } }
      else endedWith '#' g [['N', 'V', 'F']] told))) ∧
    (∀ n, s.dev.exe.stage = .exportWrite n → exec (.nvcWriteComplete ok) s = .next (after (
      if ok then endedWith '=' g [tNat n, tNat ((s.nv.land ok w).unexported n)]
        { told with txu := { told.txu with exportMark := n, fullUntilE := false } }
      else endedWith '#' g [['N', 'V', 'F']] told))) ∧
    (∀ new, s.dev.exe.stage = .settingsWrite new →
      (ok = false → exec (.nvcWriteComplete ok) s = .next (after (endedWith '#' g [['N', 'V', 'F']] told))) ∧
      (ok = true → ∃ t, exec (.nvcWriteComplete ok) s = .next t ∧ t.nv = s.nv.land ok w ∧ t.dev.nvc.settings = new ∧
        t.dev.exe = ⟨some g, .ended⟩ ∧ t.dev.tx = { s.dev.tx with longs := s.dev.tx.longs ++
          [recordOf '=' (tagText g) (SettingItem.all.flatMap fun i => [i.text, i.value new])] } ∧
        t.dev.lsv.modeIn = s.dev.lsv.modeIn ∧ t.dev.lsv.modeOut = s.dev.lsv.modeOut ∧ t.dev.mst = s.dev.mst ∧
        t.dev.zsu = s.dev.zsu ∧ t.dev.csu = s.dev.csu ∧ t.dev.rx = s.dev.rx ∧ t.dev.clc.lines = s.dev.clc.lines ∧
        (let beyond (x : Slot) : Prop := (x.state = .holding ∨ x.state = .verifying) ∧ new.hold < x.hold
         (∀ i, slotOf t.dev i = if beyond (slotOf s.dev i) then { slotOf s.dev i with state := .faulted, run := 0 } else slotOf s.dev i) ∧
         ((∃ i, beyond (slotOf s.dev i)) → s.dev.ntc.enabled.cel = true → t.dev.ntc.pending.cel = true)) ∧
        ((∀ t0, s.dev.lsv.lane = .entering → s.dev.lsv.settle = some t0 → s.dev.now < t0 + 100 * new.setl) →
          (∀ t0, inPassage s.dev.lsv.lane = true → s.dev.lsv.clear = some t0 → s.dev.now < t0 + 1000 * new.clrt) →
          t.dev.lsv.lane = s.dev.lsv.lane ∧ t.dev.lsv.current = s.dev.lsv.current ∧ t.dev.lsv.history = s.dev.lsv.history ∧
          t.dev.lsv.settle = s.dev.lsv.settle ∧ t.dev.lsv.clear = s.dev.lsv.clear) ∧
        (∀ t0, s.dev.lsv.lane = .entering → s.dev.lsv.settle = some t0 → t0 + 100 * new.setl ≤ s.dev.now →
          s.dev.lsv.occupancy = .occupied → t.dev.lsv.lane = .onDeck ∧ t.dev.lsv.settle = none ∧ t.dev.lsv.clear = none ∧
          t.dev.lsv.current = s.dev.lsv.current ∧ t.dev.lsv.history = s.dev.lsv.history ∧
          (s.dev.ntc.enabled.lne = true → t.dev.ntc.pending.lne = true)) ∧
        (∀ t0 p, inPassage s.dev.lsv.lane = true → s.dev.lsv.settle = none → s.dev.lsv.clear = some t0 →
          t0 + 1000 * new.clrt ≤ s.dev.now → s.dev.lsv.current = some p →
          t.dev.lsv.lane = .clear ∧ t.dev.lsv.settle = none ∧ t.dev.lsv.clear = none ∧ t.dev.lsv.current = none ∧
          (∃ q, t.dev.lsv.history.getLast? = some q ∧ q.number = p.number ∧ q.closeCause = some .clear ∧ q.closeAt = some
            (match s.dev.csu.newest with
              | some wr => max s.dev.now (wr.latch + 1)
              | none => s.dev.now)) ∧
          (s.dev.ntc.enabled.lne = true → t.dev.ntc.pending.lne = true) ∧
          (s.dev.ntc.enabled.axl = true → t.dev.ntc.pending.axl = true))))

/-- What the report of a write of the Transaction Unit's records does. WG1's visit write: the visit is open and =WG1 tells it, and the
attachment owed to it is written next; or its entry goes and WG1 ends NVF (R115, R117). A record's write: the command completes, or the
visit of a TICKET or CANCEL is freed next; NVF writes the TORN record of its number in the slot after, and the command ends NVF, with the
number as detail for a weighing command (R120, R135, R142, R143); an owed TORN written first is followed by the command's own record, and
stays owed at NVF (R134, R135). The freeing write is made a second time on its first NVF (R121). An attachment write enters the summary,
or leaves none, and lets a freeing write held behind it go (R117, R118, R121); a start-up freeing write is made a second time on its first
NVF (R111). The write position is past each journal write reported (R130), and JRN is raised as R145 says (also in a journal full before
the write: log entry 51). The absent net field of =WGG (log entry 36), and the absent time of a record made with the clock UNSET (log
entry 45), are the model's choice. -/
def Obligations.JournalWriteReports : Prop :=
  ∀ (ok : Bool) (src : Requester) (w : NvWrite) (s : State), running s.dev = true → s.dev.nvc.writing = some ⟨src, w⟩ →
    s.dev.nvc.queue = [] →
    let nv := s.nv.land ok w
    let told := reported ok s.dev
    let after (d : Device) : Prop := exec (.nvcWriteComplete ok) s = .next (becomes { s with nv := nv } d)
    let level (d : Device) : Device :=
      if (nv.unexported d.txu.exportMark = 3584 ∧ s.nv.unexported d.txu.exportMark ≠ 3584) ∨ journalFull nv d = true
      then noticed .jrn d else d
    let numbered (n : Nat) (body : JournalBody) : JournalRec :=
      JournalRec.make n body s.dev.nvc.clock (s.dev.mst.active.map (·.counter))
    (∀ g, src = .longOp → s.dev.exe.slot = some g →
      (∀ slot v, s.dev.exe.stage = .wg1Write slot v → s.dev.txu.freeHeld = [] →
        let opened := { told with txu := { told.txu with visits := nvPut told.txu.visits slot v } }
        let f := v.first
        let said := endedWith '=' .wg1 [tNat v.number, v.ref, v.dir.text, tInt f.weight, tNat f.d, tOpt tNat f.counter,
          tOpt tNat f.passage, tOpt tTime f.time]
        (ok = true → g = .wg1 → s.dev.txu.owed = [] → after (owing [] (said opened))) ∧
        (∀ n, ok = true → g = .wg1 → s.dev.txu.owed = [⟨v.number, n⟩] → findVisit s.dev v.number = none →
          after (owing [] (requested ⟨.attach v.number slot, visitWrite nv slot (some { v with summary := summaryHeld s.dev n })⟩
            (said { opened with txu := { opened.txu with owed := [] } })))) ∧
        (ok = false → (∀ e ∈ s.dev.txu.owed, e.visit = v.number) →
          after (endedWith '#' g [['N', 'V', 'F']] (unattached v.number told)))) ∧
      (∀ slot r, w = .journal slot r →
        let place := if slot ≥ 4096 then 1 else slot + 1
        let moved := { told with txu := { told.txu with writePos := place } }
        (∀ x rec, s.dev.exe.stage = .record x rec →
          (ok = true →
            let closes (n : Nat) : Prop :=
              (findVisit s.dev n = none → after (endedWith '=' g (recordShown rec) (level moved))) ∧
              (∀ k v, findVisit s.dev n = some (k, v) →
                after (atStage (.freeing x rec k false false)
                  (requested ⟨.longOp, visitWrite nv k none⟩ (unattached n (level moved)))))
            match rec.body with
            | .ticket n .. => closes n
            | .cancel n _ => closes n
            | _ => after (endedWith '=' g (recordShown rec) (level moved))) ∧
          (ok = false → after (atStage (.tornAfter x rec.number)
            (requested ⟨.longOp, .journal place (numbered rec.number .torn)⟩ moved)))) ∧
        (∀ x n, s.dev.exe.stage = .tornAfter x n →
          let detail : List Text := match x.body with
            | .void _ => []
            | .cancel .. => []
            | _ => [tNat n]
          (ok = true → after (endedWith '#' g (['N', 'V', 'F'] :: detail) (level moved))) ∧
          (ok = false → after (endedWith '#' g (['N', 'V', 'F'] :: detail)
            { moved with txu := { moved.txu with owedTorn := some n } }))) ∧
        (∀ x, s.dev.exe.stage = .owedTorn x →
          let rec' := numbered (nv.nextTicket none) (recordBody (s.dev.mst.state == .suspect) x)
          (ok = true → after (atStage (.record x rec') (requested ⟨.longOp, .journal place rec'⟩
            (level { moved with txu := { moved.txu with owedTorn := none } })))) ∧
          (ok = false → after (endedWith '#' g [['N', 'V', 'F']] moved)))) ∧
      (∀ x rec k second h, s.dev.exe.stage = .freeing x rec k second h → s.dev.txu.freeHeld = [] → s.dev.txu.owed = [] →
        let freed := { told with txu := { told.txu with visits := nvErase told.txu.visits k } }
        (ok = true → after (owing [] (endedWith '=' g (recordShown rec) freed))) ∧
        (ok = false → second = false → after (atStage (.freeing x rec k true false)
          (requested ⟨.longOp, visitWrite nv k none⟩ told))) ∧
        (ok = false → second = true → after (owing [] (endedWith '#' g [['N', 'V', 'F'], tNat rec.number] freed))))) ∧
    (∀ n k second seq v, src = .attach n k → w = .visit k second ⟨seq, some v⟩ → s.dev.txu.freeHeld = [] →
      let entered := if ok then { told with txu := { told.txu with visits := nvPut told.txu.visits k v } } else told
      (s.dev.txu.owed = [] → (∀ x rec j b, s.dev.exe.stage ≠ .freeing x rec j b true) → after (owing [] entered)) ∧
      (∀ x rec j b, s.dev.txu.owed = [] → s.dev.exe.stage = .freeing x rec j b true →
        after (owing [] (atStage (.freeing x rec j b false) (requested ⟨.longOp, visitWrite nv j none⟩ entered)))) ∧
      (∀ m q j u, s.dev.txu.owed = [⟨m, q⟩] → (∀ x rec j b, s.dev.exe.stage ≠ .freeing x rec j b true) →
        findVisit entered m = some (j, u) →
        after (owing [] (requested ⟨.attach m j, visitWrite nv j (some { u with summary := summaryHeld s.dev q })⟩
          { entered with txu := { entered.txu with owed := [] } })))) ∧
    (∀ k second, s.dev.txu.freeHeld = [] → s.dev.txu.owed = [] →
      (src = .freeVisit k second → (ok = true ∨ second = true → after (owing [] told)) ∧
        (ok = false → second = false → after (owing [] (requested ⟨.freeVisit k true, visitWrite nv k none⟩ told)))) ∧
      (src = .freeTare k second → (ok = true ∨ second = true → after (owing [] told)) ∧
        (ok = false → second = false → after (owing [] (requested ⟨.freeTare k true, tareWrite nv k none⟩ told)))))

/-- What the report of an audit or a status write does. CCM's audit record: the counter, and the write of the calibration record; at NVF
the command ends and the run stays, but for a lock that closed meanwhile (R165, R166, R168). VCM's audit record: the verdict, the due
date, MET and the status write; at NVF the run stays open (R174, R175). The status write either waits for: its reply, or one more write on
the first NVF and the counter or the verdict as detail on the second (R165, R166, R174, R175); what is held in those two moments is the
model's reading (log entries 24 and 27), as is a VCM whose own record took the last audit number (log entry 17). A status write held back
goes next (R187), a slot's CELL-MISMATCH report frees its request (R19), and an AUD read that waited is answered at an audit write's
report, the replies taken after it going behind it (R186, R204; its moment is log entry 31). -/
def Obligations.AuditAndStatusReports : Prop :=
  ∀ (ok : Bool) (src : Requester) (w : NvWrite) (s : State), running s.dev = true → s.dev.nvc.writing = some ⟨src, w⟩ →
    s.dev.nvc.queue = [] →
    let nv := s.nv.land ok w
    let told := reported ok s.dev
    let after (d : Device) : Prop := exec (.nvcWriteComplete ok) s = .next (becomes { s with nv := nv } d)
    (∀ g, s.dev.exe.slot = some g → s.dev.tx.held = [] →
      (∀ items more count time b run, src = .longOp → s.dev.exe.stage = .ccmAudit items more count time b → s.dev.mst.run = some run →
        let n := s.dev.mst.counter + 1
        let ended := endedWith '#' g [['N', 'V', 'F']] told
        (ok = true → after (atStage (.ccmRecord more count b) (requested ⟨.longOp, .calibration
          ⟨run.max.getD 0, run.d.getD 0, run.p, run.n, run.window, run.band, run.vint, run.zcal.getD 0, run.slots, n, time⟩⟩
          { told with mst := { told.mst with counter := n } }))) ∧
        (ok = false → b = false → after ended) ∧
        (∀ k, ok = false → b = true → s.dev.auu.next = some k → k < 9999999 →
          let closed := noticed .met { ended with mst := { ended.mst with run := none } }
          after (requested ⟨.discard, .audit s.dev.auu.writePos ⟨k, .calDiscard, s.dev.nvc.clock, some s.dev.mst.counter⟩⟩
            { closed with auu := { closed.auu with writePos := if s.dev.auu.writePos ≥ 256 then 1 else s.dev.auu.writePos + 1,
                                                   next := some (k + 1) } }))) ∧
      (∀ pass time n, src = .longOp → s.dev.exe.stage = .vcmAudit pass time n →
        let state : MetState := if pass then .calibrated else .suspect
        let due := if pass then some (time / 86400 + (s.dev.mst.active.map (·.vint)).getD 0) else s.dev.mst.due
        (ok = true → after (atStage (.vcmStatus pass n false) (requested
          ⟨.status true, statusWrite nv ⟨state, due, s.dev.mst.counter⟩⟩
          (noticed .met { told with mst := { told.mst with verif := none, state := state, due := due } })))) ∧
        (ok = false → after (endedWith '#' g [['N', 'V', 'F']] told))) ∧
      (∀ more count second, src = .status true → s.dev.mst.held = [] → s.dev.exe.stage = .ccmStatus more count second →
        (ok = true → after (endedWith '=' g [tNat s.dev.mst.counter, tOpt tTime (s.dev.mst.active.map (·.commitTime)),
          tOpt tDate s.dev.mst.due, tNat count, if more then ['M', 'O', 'R', 'E'] else ['-']] told)) ∧
        (ok = false → second = false → after (atStage (.ccmStatus more count true) (requested
          ⟨.status true, statusWrite nv ⟨s.dev.mst.state, s.dev.mst.due, s.dev.mst.counter⟩⟩ told))) ∧
        (ok = false → second = true → after (endedWith '#' g [['N', 'V', 'F'], tNat s.dev.mst.counter] told))) ∧
      (∀ pass n second, src = .status true → s.dev.mst.held = [] → s.dev.exe.stage = .vcmStatus pass n second →
        let verdict : Text := if pass then ['P', 'A', 'S', 'S'] else ['F', 'A', 'I', 'L']
        (ok = true → after (endedWith '=' g [verdict, tNat n, s.dev.mst.state.text, tOpt tDate s.dev.mst.due] told)) ∧
        (ok = false → second = false → after (atStage (.vcmStatus pass n true) (requested
          ⟨.status true, statusWrite nv ⟨s.dev.mst.state, s.dev.mst.due, s.dev.mst.counter⟩⟩ told))) ∧
        (ok = false → second = true → after (endedWith '#' g [['N', 'V', 'F'], verdict] told)))) ∧
    (src = .status false → s.dev.mst.held = [] → after told) ∧
    (∀ i, src = .mismatch i → s.dev.tx.held = [] → (slotOf s.dev i).owed = false →
      after (storeSlot i { slotOf s.dev i with requested := false } told)) ∧
    (∀ rec f, src = .discard → s.dev.tx.held = [] → s.dev.mst.held = [.status rec f] →
      after (requested ⟨.status f, statusWrite nv rec⟩ { told with mst := { told.mst with held := [] } })) ∧
    (∀ ns next (behind : List Text), src = .discard → s.dev.mst.held = [] →
      s.dev.tx.held = .read ⟨ns, next⟩ :: behind.map .formed →
      after { told with
        tx := { told.tx with held := [],
                             replies := told.tx.replies ++ recordOf '=' ['A', 'U', 'D'] (auditShown nv ns next) :: behind }
        nvc := { told.nvc with report :=
          { told.nvc.report with readFail := min (told.nvc.report.readFail + ns.countP (readFails nv)) 65535 } } })

/-- A commit's calibration write (R165, R166): when it passes, its record is active, the run is closed, the state CALIBRATED with the due
date VINT days after the commit day, and the lane, zero and filter are as R43, R61 and R80 say: the current passage closes COMMIT into
the history and the lane goes to INIT, zero is UNSET with TRACK-LIMIT cleared, and the last-good records are formed again with the new
fields. Each slot is as R21 says: UNUSED when not configured, SEEKING from UNUSED, VERIFYING from MISMATCH, MISMATCH with its audit when
its serial is not the one now expected; a slot no longer polled is NOT-POLLED (R11). The status write is asked for (R152, R165). When the
write ends NVF, no record is active and the state is UNCALIBRATED, with the same effect on the blocks (R166). The close instant (log
entry 41), what a slot keeps as it becomes UNUSED (log entry 35), and the due date kept after an NVF (log entry 49), are the model's
reading. -/
def Obligations.CommitInstalls : Prop :=
  ∀ (ok : Bool) (r : CalRecord) (more : Bool) (count n : Nat) (s : State), running s.dev = true →
    s.dev.auu.next = some n → n + 16 ≤ 9999999 →
    s.dev.nvc.writing = some ⟨.longOp, .calibration r⟩ → s.dev.exe.stage = .ccmRecord more count false →
    s.dev.exe.slot = some .ccm →
    ∃ t, exec (.nvcWriteComplete ok) s = .next t ∧
      t.dev.mst.active = (if ok then some r else none) ∧ t.dev.mst.run = (if ok then none else s.dev.mst.run) ∧
      t.dev.mst.state = (if ok then .calibrated else .uncalibrated) ∧
      t.dev.mst.due = (if ok then some (r.commitTime / 86400 + r.vint) else s.dev.mst.due) ∧
      t.dev.lsv.lane = .init ∧ t.dev.lsv.current = none ∧ t.dev.lsv.settle = none ∧ t.dev.lsv.clear = none ∧
      t.dev.zsu = ⟨[], false, if ok then some r.zcal else none, none, false, none⟩ ∧ t.dev.csu.history = [] ∧
      (∀ i, t.dev.csu.lastGood.sel i = (match s.dev.csu.lastGood.sel i with
        | some l =>
          let c := r.slots.sel i
          if ok = true ∧ c.configured = true then
            some ⟨l.raw, l.temp, l.ovl, (cellWeight c l.raw l.temp l.ovl).1, (cellWeight c l.raw l.temp l.ovl).2⟩
          else none
        | none => none)) ∧
      (∀ p, s.dev.lsv.current = some p → s.dev.lsv.history.length ≤ 4 →
        t.dev.lsv.history.length = min 4 (s.dev.lsv.history.length + 1) ∧ (∃ q, t.dev.lsv.history.getLast? = some q ∧
          q.number = p.number ∧ q.closeCause = some .commit ∧ q.closeTime = s.dev.nvc.clock ∧ q.ring = p.ring ∧ q.result ≠ none ∧
          q.closeAt = some (match s.dev.csu.newest with
            | some wr => max s.dev.now (wr.latch + 1)
            | none => s.dev.now)) ∧
        (s.dev.ntc.enabled.axl = true → t.dev.ntc.pending.axl = true)) ∧
      (s.dev.lsv.current = none → t.dev.lsv.history = s.dev.lsv.history) ∧
      (∀ i, let old := slotOf s.dev i
        let serial : Option Nat := match old.serialHigh, old.serialLow with
          | some hi, some lo => some (hi * 4096 + lo)
          | _, _ => none
        let expected := (r.slots.sel i).serial
        let state : SlotState :=
          if ok = false ∨ (r.slots.sel i).configured = false then .unused
          else match old.state with
            | .unused => .seeking
            | .mismatch => .verifying
            | .seeking => .seeking
            | .faulted => .faulted
            | x => if serial ≠ none ∧ serial ≠ expected then .mismatch else x
        (slotOf t.dev i).state = state ∧
        (state = .mismatch → old.requested = true → (slotOf t.dev i).owed = true) ∧
        (state = .mismatch → old.requested = false → (slotOf t.dev i).requested = true ∧ ∃ pos k,
          ⟨.mismatch i, .audit pos ⟨k, .cellMismatch i expected serial, s.dev.nvc.clock, some s.dev.mst.counter⟩⟩ ∈ outstanding t.dev) ∧
        isPolled t.dev i = (isPolled s.dev i && (configured t.dev i || workConfigured t.dev i)) ∧
        (isPolled s.dev i = true → isPolled t.dev i = false → (slotOf t.dev i).lastOutcome = some .notPolled)) ∧
      (statusBusy s.dev = false → ⟨.status ok, statusWrite s.nv ⟨t.dev.mst.state, t.dev.mst.due,
        if ok then r.counter else s.dev.mst.counter⟩⟩ ∈ outstanding t.dev) ∧
      (s.dev.ntc.enabled.met = true → t.dev.ntc.pending.met = true) ∧
      t.dev.exe.stage = (if ok then .ccmStatus more count false else .ended) ∧
      (ok = false → t.dev.tx.longs = s.dev.tx.longs ++ [recordOf '#' ['C', 'C', 'M'] [['N', 'V', 'F']]])

/-! ### The message port -/

/-- RX_CHARACTER and CAN_CHARACTER (R196 to R198): a CAN without error ends a running stream, or does nothing, and never enters the FIFO;
any other character enters it with its error mark, RTS dropping at 48 characters; with 64 in it, it is an overrun. A character that was
in reception as the rate changed has a framing error (R190); which one was is a free value (log entry 32). That RX_CHARACTER brings a CAN
too is the model's reading (log entry 20). -/
def Obligations.CharacterReceived : Prop :=
  ∀ (c : Byte) (parityBit stopBit : Bool) (s : State), uartOn s.dev = true →
    let odd : Bool := ((List.range 8).countP (fun i => c.getLsbD i) + (if parityBit then 1 else 0)) % 2 == 1
    let err : Bool := (s.dev.tx.par == .even && odd) || !stopBit || s.dev.rx.spoilt
    let taken : Device := { s.dev with rx := { s.dev.rx with spoilt := false } }
    let enters (ch : Char) (e : Bool) : Device := { taken with rx := { taken.rx with
      fifo := s.dev.rx.fifo ++ [⟨ch, e⟩]
      rts := if s.dev.rx.fifo.length + 1 = 48 then false else s.dev.rx.rts } }
    let overruns : Device := { taken with rx :=
      if s.dev.rx.assembling then { taken.rx with err := true } else { taken.rx with overrunHeld := true } }
    (∀ x, s.dev.rx.spoilt = false → s.dev.exe.stage = .stream x →
      exec .canCharacter s = .next (becomes s (atStage (.stream { x with stop := true }) taken))) ∧
    (s.dev.rx.spoilt = false → (∀ x, s.dev.exe.stage ≠ .stream x) → exec .canCharacter s = .next (becomes s taken)) ∧
    (s.dev.rx.spoilt = true → exec .canCharacter s = .next (becomes s (
      if s.dev.rx.fifo.length < 64 then enters (Char.ofNat 0x18) true else overruns))) ∧
    (c = 0x18 → err = false → exec (.rxCharacter c parityBit stopBit) s = exec .canCharacter s) ∧
    (c ≠ 0x18 ∨ err = true → exec (.rxCharacter c parityBit stopBit) s = .next (becomes s (
      if s.dev.rx.fifo.length < 64 then enters (Char.ofNat c.toNat) err else overruns)))

/-- RECORD_ASSEMBLY takes one character from the front of the FIFO into the record (R197, R199): CR completes a record begun, CR and LF
before a record are dropped, the 121st character sets LEN's mark, RTS is asserted at 16 characters; GAP_TIMEOUT drops the record.
CTS_CHANGE and TX_CHARACTER_SENT (R196): a character starts while CTS is asserted and the queue holds one; a sent character leaves the
queue, and the rest of a record longer than the queue moves up by one (R204); with an ended command's last character placed the slot is
IDLE (R202). Each change of rate and parity that waits is one character nearer, and takes place after the last of its =SET; then, if the
rate or the parity differs, a character in reception is to be taken with a framing error (R190): whether one is, is a free value (log
entry 32), and that several changes may wait is the model's reading (log entry 30). That a gap timeout with no record being assembled, and a
character sent with nothing sending, change nothing is the model's choice (log entry 2). -/
def Obligations.AssemblyAndTransmission : Prop :=
  (∀ s : State, uartOn s.dev = true →
    (s.dev.rx.fifo = [] ∨ s.dev.rx.complete = true → exec .recordAssembly s = .next (becomes s s.dev)) ∧
    (∀ c rest, s.dev.rx.complete = false → s.dev.rx.fifo = c :: rest →
      let rx := { s.dev.rx with fifo := rest, rts := if rest.length = 16 then true else s.dev.rx.rts }
      exec .recordAssembly s = .next (becomes s { s.dev with rx :=
        if rx.assembling = true then
          if c.ch = '\r' then { rx with assembling := false, complete := true, gap := false, err := rx.err || c.err }
          else if rx.buf.length < 120 then { rx with buf := rx.buf ++ [c.ch], gap := true, err := rx.err || c.err }
          else { rx with ovf := true, gap := true, err := rx.err || c.err }
        else if c.ch = '\r' ∨ c.ch = '\n' then rx
        else { rx with buf := [c.ch], assembling := true, err := c.err || rx.overrunHeld, overrunHeld := false, ovf := false,
                       gap := true } })) ∧
    (s.dev.rx.assembling = true → s.dev.rx.gap = true →
      exec .gapTimeout s = .next (becomes s (withReply (recordOf '#' ['-', '-', '-'] [['C', 'H', 'R']])
        { s.dev with rx := { s.dev.rx with buf := [], assembling := false, err := false, ovf := false, complete := false,
                                           gap := false } }))) ∧
    (s.dev.rx.assembling = false → exec .gapTimeout s = .next (becomes s s.dev))) ∧
  (∀ (level : Bool) (s : State), uartOn s.dev = true →
    exec (.ctsChange level) s = .next (becomes s { s.dev with tx := { s.dev.tx with
      cts := level, sending := s.dev.tx.sending || (level && !s.dev.tx.queue.isEmpty) } }) ∧
    (∀ c rest, s.dev.tx.sending = true → s.dev.tx.queue = c :: rest →
      let queue := rest ++ s.dev.tx.placing.take 1
      let nearer := s.dev.tx.rateSwitch.map fun x => { x with left := x.left - 1 }
      let due := (nearer.filter fun x => x.left == 0).getLast?
      let sent : Tx := { s.dev.tx with
        queue := queue, placing := s.dev.tx.placing.drop 1, sending := s.dev.tx.cts && !queue.isEmpty
        rateSwitch := nearer.filter fun x => x.left != 0
        rate := (match due with
          | some x => x.rate
          | none => s.dev.tx.rate)
        par := (match due with
          | some x => x.par
          | none => s.dev.tx.par) }
      let d : Device := { s.dev with
        tx := sent
        rx := if sent.rate = s.dev.tx.rate ∧ sent.par = s.dev.tx.par then s.dev.rx
          else { s.dev.rx with spoilt := s.dev.rx.spoilt || Config.receiving s.dev.rx.changes, changes := s.dev.rx.changes + 1 } }
      exec .txCharacterSent s = .next (becomes s (
        if s.dev.exe.stage = .ended ∧ s.dev.tx.longs = [] ∧ sent.placing = [] then { d with exe := ⟨none, .none⟩ } else d))) ∧
    (s.dev.tx.sending = false → exec .txCharacterSent s = .next (becomes s s.dev)))

/-- RECORD_PLACEMENT and NOTICE_EMISSION (R202, R204, R205): replies go first, in order; then the long operation's record, unless a reply
waits behind an AUD read or it is a notice's turn; the ending record frees the long-operation slot once it is placed, and the last
character of a =SET brings its rate and parity into force (R190). A record goes whole when it fits, else waits; one longer than the queue
goes to the empty queue as far as it fits and no other is placed before its rest. A notice has the turn when one is pending and nothing
else waits or is being sent, but after another notice only when the long operation has nothing to send; the pending class of highest
priority that is enabled goes, SYS alone before READY; its record is formed at its emission, its mark cleared, and !SYS makes the part
READY. That an AUD read which waits for a report holds back no notice, only formed replies do (log entry 31), and that the long
operation's record waits while it is a notice's turn (log entry 30), is the model's reading, as are the words of marks in notices (log
entry 47) and a next number past the last in !JRN (log entry 36); an owner's refusal waits with the replies by its choice (log
entry 58). -/
def Obligations.PlacementOfRecords : Prop :=
  ∀ s : State, uartOn s.dev = true →
    let room := 2048 - s.dev.tx.queue.length
    let fitting (r : Text) : Prop := s.dev.tx.queue.length + r.length ≤ 2048 ∨ s.dev.tx.queue = []
    let placed (r : Text) (notice : Bool) (tx : Tx) : Tx := { tx with
      queue := tx.queue ++ r.take room, placing := r.drop room, lastNotice := notice
      sending := tx.sending || (tx.cts && !(tx.queue ++ r.take room).isEmpty) }
    let may (c : Notice) : Prop := s.dev.ntc.pending.get c = true ∧ s.dev.ntc.enabled.get c = true ∧
      (s.dev.ntc.readySent = true ∨ c = .sys)
    let turn : Prop := ¬ RepliesWait s.dev ∧ s.dev.tx.placing = [] ∧ s.dev.tx.queue = [] ∧ (∃ c, may c) ∧
      (s.dev.tx.lastNotice = false ∨ (s.dev.tx.longs = [] ∧ ∀ x, s.dev.exe.stage ≠ .stream x))
    let before (c : Notice) : List Notice := match c with
      | .sys => []
      | .met => [.sys]
      | .cel => [.sys, .met]
      | .lne => [.sys, .met, .cel]
      | .axl => [.sys, .met, .cel, .lne]
      | .jrn => [.sys, .met, .cel, .lne, .axl]
    (s.dev.tx.placing ≠ [] → exec .recordPlacement s = .next (becomes s s.dev)) ∧
    (∀ r rest, s.dev.tx.placing = [] → s.dev.tx.replies = r :: rest →
      (fitting r → exec .recordPlacement s = .next (becomes s { s.dev with tx := placed r false { s.dev.tx with replies := rest } })) ∧
      (¬ fitting r → exec .recordPlacement s = .next (becomes s s.dev))) ∧
    (∀ r rest, s.dev.tx.placing = [] → s.dev.tx.replies = [] → s.dev.tx.longs = r :: rest →
      (fitting r → ¬ RepliesWait s.dev → ¬ turn →
        let tx := placed r false { s.dev.tx with longs := rest }
        let d : Device := { s.dev with tx := if s.dev.exe.slot = some .set ∧ r.head? = some '=' then { tx with rateSwitch :=
          tx.rateSwitch ++ [⟨s.dev.tx.queue.length + r.length, s.dev.nvc.settings.rate, s.dev.nvc.settings.par⟩] } else tx }
        exec .recordPlacement s = .next (becomes s (
          if s.dev.exe.stage = .ended ∧ rest = [] ∧ tx.placing = [] then { d with exe := ⟨none, .none⟩ } else d))) ∧
      (¬ fitting r ∨ RepliesWait s.dev ∨ turn → exec .recordPlacement s = .next (becomes s s.dev))) ∧
    (s.dev.tx.replies = [] → s.dev.tx.longs = [] → exec .recordPlacement s = .next (becomes s s.dev)) ∧
    (∀ c, turn → may c → (∀ b ∈ before c, ¬ may b) →
      exec .noticeEmission s = .next (becomes s { s.dev with
        tx := placed (recordOf '!' c.text (noticeShown s.nv s.dev c)) true s.dev.tx,
        ntc := { s.dev.ntc with pending := s.dev.ntc.pending.put c false,
                                readySent := s.dev.ntc.readySent || c == .sys } })) ∧
    (¬ turn → exec .noticeEmission s = .next (becomes s s.dev))

/-! ### Weights, zero and axle loads -/

/-- The cell weight (R28 to R30): the count corrected for zero and temperature, scaled with halves rounded away from zero, limited to its
slot's bounds, with the CLAMPED mark; a frame with OVL gives the upper bound.
The weight of a gross G (R37): the multiple of the division nearest to G, halves away from zero; every weight record with a G has
it, and the link shows it when the state is NORMAL alone (R38). The weight state is INVALID without a G, OVER above Max + 9 d, UNDER below
-20 d, else NORMAL (R38); ZERO-CENTRE is set in NORMAL with zero SET and G within a quarter of d (R39).
Last-good records: a LIVE slot's GOOD outcome fills its own, LIVE and HOLDING keep it, every other state empties it (R31); the deck total
is the sum of what the configured slots contribute, and there is none when one contributes nothing (R31, R33); it is CELL-HELD or CLAMPED
when a contribution is (R33). A module load is the same of its line's configured slots, with its marks; a line with none has no module
(R32). The filter history takes
each valid total, keeps the newest N, and is emptied without one; F is its mean rounded to the nearest (R34); a commit empties it
(R43). -/
def Obligations.WeightArithmetic : Prop :=
  (∀ (c : SlotCal) (lcell lref s : Nat) (z tcal raw temp : Int) (ovl : Bool), c.lcell = some lcell → c.lref = some lref →
    c.s = some s → c.z = some z → c.tcal = some tcal → 0 < s →
    let r := cellWeight c raw temp ovl
    ∃ o w lo hi : Int, Nearest (c.k * (temp - tcal)) 100 o ∧ Nearest ((raw - z - o) * lref) s w ∧
      Nearest (-(lcell : Int)) 8 lo ∧ Nearest (3 * (lcell : Int)) 2 hi ∧
      r = (if ovl then (hi, true) else if w < lo then (lo, true) else if hi < w then (hi, true) else (w, false)) ∧
      lo ≤ r.1 ∧ r.1 ≤ hi) ∧
  ((∀ (d : Nat) (g : Int), 0 < d → ∃ n : Int, weightOf d g = d * n ∧ Nearest g (100 * d) n) ∧
  (∀ (sr : SampleRecord) (x : Device) (r : CalRecord), x.mst.active = some r →
    (csuRecord sr x).1.w = (csuRecord sr x).1.g.map (weightOf r.d) ∧
    (csuRecord sr x).1.g = (match (csuRecord sr x).1.f, x.zsu.z with
      | some f, some z => some (f - z)
      | _, _ => none)) ∧
  (∀ wr : WeightRecord, weightField (some wr) = (match wr.wstate with
    | .invalid => ['-', '-', '-', '-', '-']
    | .over => ['O', 'V', 'E', 'R']
    | .under => ['U', 'N', 'D', 'E', 'R']
    | .normal => tOpt tInt wr.w)) ∧
  weightOf 20 5243000 = 52440 ∧ weightOf 20 (-3000) = -40) ∧
  (∀ (sr : SampleRecord) (x : Device),
    let y := (csuRecord sr x).2
    let wr := (csuRecord sr x).1
    let used := SlotId.all.filter (configured x)
    let gives (i : SlotId) : Option Int :=
      if ((sr.slots.sel i).state = .live ∧ (sr.slots.sel i).outcome = .good) ∨ (sr.slots.sel i).state = .holding
      then (y.lastGood.sel i).map (·.weight) else none
    (∀ i, let s := sr.slots.sel i
      (∀ c raw temp f, slotCal x i = some c → c.configured = true → s.state = .live → s.outcome = .good → s.raw = some raw →
        s.temp = some temp → s.flags = some f →
        y.lastGood.sel i = some ⟨raw, temp, f.ovl, (cellWeight c raw temp f.ovl).1, (cellWeight c raw temp f.ovl).2⟩) ∧
      (s.state = .holding ∨ (s.state = .live ∧ (s.outcome ≠ .good ∨ configured x i = false)) →
        y.lastGood.sel i = x.csu.lastGood.sel i) ∧
      (s.state ≠ .live → s.state ≠ .holding → y.lastGood.sel i = none)) ∧
    wr.total = (if used = [] then none else (used.mapM gives).map List.sum) ∧
    (let heldOf (i : SlotId) : Bool := decide ((sr.slots.sel i).state = .holding) && (y.lastGood.sel i).isSome
     let clampedOf (i : SlotId) : Bool := (gives i).isSome && ((y.lastGood.sel i).map (·.clamped)).getD false
     wr.held = (wr.total.isSome && used.any heldOf) ∧ wr.clamped = (wr.total.isSome && used.any clampedOf) ∧
     (∀ m, let line := (SlotId.ofLine m).filter (configured x)
       wr.modules.get m = (if line = [] then none
         else some ⟨(line.mapM gives).map List.sum, line.any heldOf, line.any clampedOf⟩)) ∧
     (∀ i, wr.kinds.sel i = (if configured x i = false then .none
       else if (sr.slots.sel i).state = .live ∧ (sr.slots.sel i).outcome = .good then .fresh
       else if heldOf i = true then .held else .none) ∧ wr.states.sel i = (sr.slots.sel i).state)) ∧
    (x.mst.active = none → wr.wstate = .invalid ∧ wr.zeroCentre = false) ∧
    (∀ r, x.mst.active = some r →
      wr.wstate = (match wr.g with
        | none => .invalid
        | some g => if (((r.max + 9 * r.d) * 100 : Nat) : Int) < g then .over else if g < -((20 * (100 * r.d) : Nat) : Int) then .under
          else .normal) ∧
      (wr.zeroCentre = true ↔ wr.wstate = .normal ∧ x.zsu.set = true ∧ ∃ g, wr.g = some g ∧ 4 * g.natAbs ≤ 100 * r.d)) ∧
    (∀ r, x.mst.active = some r → 0 < r.n → y.history = (match wr.total with
      | some t => (x.csu.history ++ [t]).drop ((x.csu.history ++ [t]).length - r.n)
      | none => []) ∧
      (∀ t, wr.total = some t → ∃ f, wr.f = some f ∧ Nearest y.history.sum y.history.length f)) ∧
    (wr.total = none → wr.f = none ∧ y.history = [])) ∧
  (∀ x : Device, (csuCommit x).csu.history = [])

/-- What a weight record does to stability and zero while no capture waits. The record is formed, judged by the ZSU and handed to the LSV
and the AXU, once the last outcome of its sample is known (R12, R40). The window and the judgement (R45, R46); with zero UNSET the initial
zero, which also completes a ZER, with one ending record (R47, R49, R51, R52); with the lane CLEAR a ZER's zero-set, or a tracking step
that stops at the edges of the operating range with TRACK-LIMIT (R52 to R54), and the baseline B1 (R55). That a slot's state and hold
count stand in the sample record as they are at the hand-over (log entry 34), the lane the record acts on (log entry 11), the open instant
of the passage that opens as zero becomes SET (log entry 42), the tracking step at a sample that ends a ZER ZRG (log entry 38), and the
order of the record's readers (log entry 56) are the model's choice. -/
def Obligations.StableSample : Prop :=
  (∀ (l : Ix) (c : Cycle) (s : State), running s.dev = true → (lineOf s.dev l).phase = .quiet → s.dev.clc.cycle = some c →
    c.handed = false → (∀ k, unpolled s.dev k = []) → (∀ k, k ≠ l → (lineOf s.dev k).phase ≠ .quiet) →
    let d0 := { s.dev with clc := { s.dev.clc with
      lines := s.dev.clc.lines.set l { lineOf s.dev l with phase := .idle }, cycle := some { c with handed := true } } }
    ∃ sr : SampleRecord, sr.index = c.index ∧ sr.latch = c.latch ∧
      (∀ i, let x := slotOf s.dev i
        let o := if isPolled s.dev i = true then x.cycle.getD .notPolled else .notPolled
        sr.slots.sel i = ⟨o, if o.isValid = true then x.lastRaw else none, if o.isValid = true then x.lastFlags else none,
          x.tempInUse, x.state, x.hold⟩) ∧
      exec (.quietWaitEnd l) s = .next (becomes s (
        let wr := (csuRecord sr d0).1
        mstRecord sr (axuRecord wr (laneRecord (s.dev.lsv.lane == .init) wr
          (zsuRecord s.nv s.dev.csu.newest wr { d0 with csu := (csuRecord sr d0).2 })))))) ∧
  ∀ (nv : NvStore) (before : Option WeightRecord) (wr : WeightRecord) (d : Device), (∀ c k, d.exe.stage ≠ .capWait c k) →
    (d.mst.active = none → zsuRecord nv before wr d = judgedAs [] false wr d) ∧
    (∀ r, d.mst.active = some r →
      let w := windowThen r wr d.zsu.window
      let still := judgedAs w true wr d
      (¬ StillThen r w → zsuRecord nv before wr d = judgedAs w false wr d) ∧
      (∀ f z, wr.f = some f → StillThen r w → d.zsu.z = some z →
        (d.zsu.set = false → d.lsv.lane = .init →
          (d.mst.run ≠ none → zsuRecord nv before wr d = still) ∧
          (d.mst.run = none → 10 * r.max < (f - r.zcal).natAbs →
            ((∀ k, d.exe.stage ≠ .zerWait k) → zsuRecord nv before wr d = still) ∧
            (∀ k, d.exe = ⟨some .zer, .zerWait k⟩ → zsuRecord nv before wr d = endedWith '#' .zer [['Z', 'R', 'G']] still)) ∧
          (d.mst.run = none → (f - r.zcal).natAbs ≤ 10 * r.max →
            let zeroed := { still with zsu := ⟨[], true, some f, some f, false, d.zsu.b1⟩ }
            let told : Device := match d.exe.stage with
              | .zerWait _ => endedWith '=' .zer [tSetWord, tHundredths (f - z)] zeroed
              | _ => zeroed
            ((∀ k, d.exe.stage = .zerWait k → d.exe.slot = some .zer) → d.lsv.beamIn.state = false →
              zsuRecord nv before wr d = noticed .lne { told with lsv := { told.lsv with lane := .clear } }) ∧
            ((∀ k, d.exe.stage = .zerWait k → d.exe.slot = some .zer) → d.lsv.beamIn.state = true →
              let t := zsuRecord nv before wr d
              t.zsu = zeroed.zsu ∧ t.lsv.lane = .entering ∧
              (∃ p, t.lsv.current = some p ∧ p.number = d.lsv.nextPassage ∧ p.cause = .beamIn ∧ p.openAt = d.now) ∧
              ((∀ c k x, d.exe.stage ≠ .runWait c k x) → t.exe = told.exe ∧ t.tx = told.tx)))) ∧
        (d.zsu.set = true → d.lsv.lane ≠ .clear → zsuRecord nv before wr d = still) ∧
        (∀ zi g, d.zsu.set = true → d.lsv.lane = .clear → d.zsu.zInit = some zi → wr.g = some g →
          ∃ step mean : Int, Nearest ((100 * r.d * r.p : Nat) : Int) 2000 step ∧
            Nearest ((w.map fun e => e.m1.getD 0).sum) w.length mean ∧
            let lo := zi - 4 * r.max
            let hi := zi + 4 * r.max
            let moved := if z < f then z + min step (f - z) else z - min step (z - f)
            let tracks : Prop := d.mst.run = none ∧ 2 * g.natAbs ≤ 100 * r.d
            let based (x : Device) : Device :=
              if ∃ i ∈ SlotId.ofLine .i0, configured d i = true then { x with zsu := { x.zsu with b1 := some mean } } else x
            let tracked (x : Device) : Device := { x with zsu := { x.zsu with
              z := some (if hi < moved then hi else if moved < lo then lo else moved)
              trackLimit := x.zsu.trackLimit || decide (hi < moved) || decide (moved < lo) } }
            ((∀ k, d.exe.stage ≠ .zerWait k) →
              (tracks → zsuRecord nv before wr d = based (tracked still)) ∧ (¬ tracks → zsuRecord nv before wr d = based still)) ∧
            (∀ k, d.exe = ⟨some .zer, .zerWait k⟩ →
              ((f - zi).natAbs ≤ 4 * r.max → zsuRecord nv before wr d =
                endedWith '=' .zer [tSetWord, tHundredths (f - z)]
                  (based { still with zsu := { still.zsu with window := [], z := some f, trackLimit := false } })) ∧
              (4 * r.max < (f - zi).natAbs →
                let ended := endedWith '#' .zer [['Z', 'R', 'G']] still
                (tracks → zsuRecord nv before wr d = based (tracked ended)) ∧
                (¬ tracks → zsuRecord nv before wr d = based ended))))))

/-- How a weight record ends a capture wait. A configured slot that left LIVE and HOLDING since the record before ends it CEL (R58; a slot
already outside when the capture was accepted, log entry 37); the next STABLE sample ends it OVR or UND, or yields a weighing (R57, R59),
which a trade capture enters in the ring of the current passage (R60, R74) and hands to its command: VPT makes its point (R173), WG1
chooses number, slot and awaiting entry and requests its write (R115), TRS requests its entry's (R125), and a ticket whose heavy weighing
this is begins its axle wait (R140, R141). Where the heavy weighing is the stored tare, the record is made at once without a summary;
where it is the visit's first, at once with what the visit's attachment state gives, or after the axle wait of its passage while that is
current (R136, R138, R140, R142). That a WG1 that finds no slot free ends TBL, its number given (log entry 26), that a record made with
the clock UNSET has its time absent (log entry 45), and that =VPT gives W by its weight alone (log entry 36), are the model's reading. -/
def Obligations.CaptureEnds : Prop :=
  ∀ (nv : NvStore) (before : Option WeightRecord) (wr : WeightRecord) (c : CapCmd) (k : Nat) (g : Tag) (r : CalRecord) (d : Device),
    d.exe = ⟨some g, .capWait c k⟩ → d.mst.active = some r → d.zsu.set = true →
    let t := zsuRecord nv before wr d
    let w := windowThen r wr d.zsu.window
    let there (x : SlotState) : Prop := x = .live ∨ x = .holding
    let left : Prop := ∃ b, before = some b ∧ ∃ i, configured d i = true ∧ there (b.states.sel i) ∧ ¬ there (wr.states.sel i)
    (left → t.exe = ⟨some g, .ended⟩ ∧ t.tx.longs = d.tx.longs ++ [recordOf '#' (tagText g) [['C', 'E', 'L']]] ∧ t.lsv = d.lsv ∧
      t.txu = d.txu ∧ t.mst = d.mst ∧ t.nvc = d.nvc) ∧
    (¬ left → ¬ StillThen r w → t = judgedAs w false wr d) ∧
    (¬ left → StillThen r w → d.lsv.lane = .onDeck →
      let still := judgedAs w true wr d
      (wr.wstate = .over → t = endedWith '#' g [['O', 'V', 'R']] still) ∧
      (wr.wstate = .under → t = endedWith '#' g [['U', 'N', 'D']] still) ∧
      (∀ kg p, wr.wstate = .normal → wr.w = some kg → d.lsv.current = some p →
        let x : Weighing := ⟨kg, r.d, some r.counter, d.nvc.clock, some p.number, .static⟩
        let ring := p.ring ++ [x]
        let taken := { still with lsv := { d.lsv with current := some { p with ring := ring.drop (ring.length - 4) } } }
        let until' := d.now + 1000 * d.nvc.settings.axw
        (∀ load points, c = .vpt load → d.mst.verif = some points →
          let mpe := if load ≤ 500 * r.d then r.d else if load ≤ 2000 * r.d then 2 * r.d else 3 * r.d
          let pass := decide ((kg - load).natAbs ≤ mpe)
          t = endedWith '=' g [tNat (points.length + 1), tNat load, tInt kg, tInt (kg - load), tNat mpe, if pass then tPass else tFail]
            { still with mst := { d.mst with verif := some (points ++ [⟨load, x, kg - load, mpe, pass⟩]) } }) ∧
        (∀ ref dir slot, c = .wg1 ref dir → findVisit d d.txu.nextVisit = none → firstPlace (visitSlotFree d) 48 = some slot →
          QueueServed d →
          let v : VisitRec := ⟨d.txu.nextVisit, ref, dir, d.nvc.clock, x, none⟩
          t = atStage (.wg1Write slot v) (requested ⟨.longOp, visitWrite nv slot (some v)⟩ { taken with txu := { d.txu with
            nextVisit := if d.txu.nextVisit ≥ 65535 then 1 else d.txu.nextVisit + 1
            awaiting := d.txu.awaiting ++ [⟨d.txu.nextVisit, p.number⟩] } })) ∧
        (∀ ref dir, c = .wg1 ref dir → findVisit d d.txu.nextVisit = none → firstPlace (visitSlotFree d) 48 = none →
          t = endedWith '#' g [['T', 'B', 'L']] { taken with txu := { d.txu with
            nextVisit := if d.txu.nextVisit ≥ 65535 then 1 else d.txu.nextVisit + 1 } }) ∧
        (∀ ref days, c = .trs ref days → kg < 0 → t = endedWith '#' g [['R', 'N', 'G']] taken) ∧
        (∀ ref days slot, c = .trs ref days → 0 ≤ kg → QueueServed d →
          (∃ old, findTare d ref = some (slot, old)) ∨ (findTare d ref = none ∧ firstPlace (tareSlotFree d) 64 = some slot) →
          let e : TareEntry := ⟨ref, kg, .static, r.d, some r.counter, d.nvc.clock, d.nvc.clock, days⟩
          t = atStage (.tareWrite .trs slot (some e) ref (findTare d ref).isSome)
            (requested ⟨.longOp, tareWrite nv slot (some e)⟩ taken)) ∧
        (∀ ref, c = .wgg ref → t = atStage (.axleWait ⟨.gross ref x, none, false⟩ p.number until') taken) ∧
        (∀ ref e, c = .wgs ref e → e.tare ≤ kg →
          t = atStage (.axleWait ⟨.onepass ref x ⟨e.tare, e.d, e.counter, e.wtime, none, e.source⟩, none, false⟩ p.number until')
            taken) ∧
        (∀ n slot v, c = .wg2 n → findVisit d n = some (slot, v) →
          v.first.weight < kg ∨ (v.first.weight = kg ∧ v.dir = .outload) →
          t = atStage (.axleWait ⟨.ticket v.number v.ref v.dir v.first x, none, false⟩ p.number until') taken) ∧
        (∀ ref e, c = .wgs ref e → kg < e.tare → QueueServed d →
          t = ticketMade nv ⟨.onepass ref x ⟨e.tare, e.d, e.counter, e.wtime, none, e.source⟩, none, false⟩ taken) ∧
        (∀ n slot v, c = .wg2 n → findVisit d n = some (slot, v) →
          kg < v.first.weight ∨ (v.first.weight = kg ∧ v.dir = .receival) →
          let awaits : Prop := v.summary = none ∧ ∃ e ∈ d.txu.awaiting, e.visit = v.number
          (¬ awaits → QueueServed d →
            t = ticketMade nv ⟨.ticket v.number v.ref v.dir v.first x, visitGives d v, false⟩ taken) ∧
          (∀ q, awaits → v.first.passage = some q →
            t = atStage (.axleWait ⟨.ticket v.number v.ref v.dir v.first x, none, false⟩ q until') taken))))

/-- What a record is made of. The net is the heavier weight less the lighter, and DIR-MISMATCH is set when the heavier weighing is not the
expected one (R136); CAL-SPLIT, UNVERIFIED, PRESET-TARE and the axle flags are as R137 says, from the summary, and TAILGATE from it or,
without one, as the draft has it (R138). A passage that closes while a ticket waits for it releases the ticket, with the summary of the
solved passage (R141, R142), after the owed TORN when one is owed (R135).
A record carries the check of its text, which is laid out by kind (R131, R132), and its stream item is that text and the check in five
digits (R146, R207). The next number is one past an owed TORN's, else one past newest, else 1 (R134). The journal is full when one of the
two slots from the write position round the ring, or of the three with an owed TORN, holds a record above E (R133), or, the model's
reading, until E moves after a head repair that could not be written (log entry 12). That a record made with the clock UNSET has its time
absent is the model's choice (log entry 45). -/
def Obligations.TicketRecords : Prop :=
  (∀ (n : Nat) (body : JournalBody) (time counter : Option Nat),
    JournalRec.make n body time counter = ⟨n, body, time, counter, checkOf (recordLine n body time counter)⟩) ∧
  (∀ r : JournalRec, r.check < 100000 → r.item = recordLine r.number r.body r.time r.counter ++
    [r.check / 10000, r.check / 1000 % 10, r.check / 100 % 10, r.check / 10 % 10, r.check % 10].map fun n => Char.ofNat (48 + n)) ∧
  (∀ nv : NvStore, (∀ n, nv.nextTicket (some n) = n + 1) ∧ (nv.tickets = [] → nv.nextTicket none = 1) ∧
    ∀ r ∈ nv.tickets, (∀ q ∈ nv.tickets, q.number ≤ r.number) → nv.nextTicket none = r.number + 1) ∧
  (∀ (nv : NvStore) (d : Device), 1 ≤ d.txu.writePos → d.txu.writePos ≤ 4096 →
    let needed := match d.txu.owedTorn with
      | some _ => 3
      | none => 2
    (journalFull nv d = true ↔ d.txu.fullUntilE = true ∨
      ∃ k r, k < needed ∧ nv.journalCell ((d.txu.writePos - 1 + k) % 4096 + 1) = .valid r ∧ d.txu.exportMark < r.number)) ∧
  (∀ (suspect : Bool) (x : Draft),
    let plain : TicketFlags := ⟨false, false, false, false, false, false, false, false⟩
    let given (f : TicketFlags) : TicketFlags := match x.summary with
      | some y => { f with
          unverified := suspect
          axleOver := decide (y.result = .over)
          axleIncomplete := decide (y.result = .incomplete ∨ y.result = .void)
          axleAbsent := decide (y.result = .absent)
          tailgate := y.flags.tailgateIn || y.flags.tailgateOut }
      | none => { f with unverified := suspect, axleAbsent := true, tailgate := x.tailgate }
    let split (a b : Weighing) : Bool := decide (a.counter ≠ none ∧ b.counter ≠ none ∧ a.counter ≠ b.counter)
    let net (a b : Weighing) : Int := ((a.weight - b.weight).natAbs : Int)
    recordBody suspect x = (match x.body with
      | .ticket n ref dir a b => .ticket n ref dir a b (net a b) x.summary (given { plain with
          calSplit := split a b
          dirMismatch := match dir with
            | .receival => decide (a.weight < b.weight)
            | .outload => decide (b.weight < a.weight) })
      | .onepass ref a b => .onepass ref a b (net a b) x.summary (given { plain with
          calSplit := split a b, presetTare := decide (b.source = .keyed), dirMismatch := decide (a.weight < b.weight) })
      | .gross ref a => .gross ref a x.summary (given plain)
      | .void n => .void n
      | .cancel n ref => .cancel n ref)) ∧
  (∀ (t0 k : Nat) (p : Passage) (x : Draft) (g : Tag) (s : State), running s.dev = true → s.dev.lsv.current = some p →
    s.dev.lsv.clear = some t0 → s.dev.lsv.lane = .entering ∨ s.dev.lsv.lane = .onDeck ∨ s.dev.lsv.lane = .leaving →
    (∀ q ∈ s.dev.lsv.history, q.number ≠ p.number) → s.dev.exe = ⟨some g, .axleWait x p.number k⟩ →
    ∃ t q, exec .clearTimerExpires s = .next t ∧ t.dev.lsv.history.getLast? = some q ∧ q.number = p.number ∧
      let x' : Draft := { x with summary := some ⟨q.groups.map fun v => ⟨v.kind, v.load, v.limit, v.excess⟩, q.result.getD .absent, q.flags⟩ }
      let made (n : Nat) (body : JournalBody) : JournalRec := JournalRec.make n body s.dev.nvc.clock (s.dev.mst.active.map (·.counter))
      (s.dev.txu.owedTorn = none →
        let r := made (s.nv.nextTicket none) (recordBody (decide (s.dev.mst.state = .suspect)) x')
        t.dev.exe = ⟨some g, .record x' r⟩ ∧ ⟨.longOp, .journal s.dev.txu.writePos r⟩ ∈ outstanding t.dev) ∧
      (∀ n, s.dev.txu.owedTorn = some n → t.dev.exe = ⟨some g, .owedTorn x'⟩ ∧
        ⟨.longOp, .journal s.dev.txu.writePos (made n .torn)⟩ ∈ outstanding t.dev)) ∧
  (∀ (t0 k m : Nat) (p : Passage) (x : Draft) (g : Tag) (s : State), running s.dev = true → s.dev.lsv.current = some p →
    s.dev.lsv.clear = some t0 → s.dev.lsv.lane = .entering ∨ s.dev.lsv.lane = .onDeck ∨ s.dev.lsv.lane = .leaving →
    m ≠ p.number → s.dev.exe = ⟨some g, .axleWait x m k⟩ →
    ∃ t, exec .clearTimerExpires s = .next t ∧ t.dev.exe = s.dev.exe)

/-- What strip hits and weight records build. A hit in a passage, but for a tailgate's, reaches the axle unit as itself (R64). Strip A's
is kept for pairing, the oldest of eight dropped with ORDER (R87). Strip B's pairs with the oldest of them into a new axle, with its
speed, spacing and UNEVEN (R88, R92), fills the list (R89) or is REVERSED (R90); strip C's takes the oldest axle off module 1, or is
ORDER (R91). Each occupancy change ends the open interval and opens the next (R93). Then, as after each weight record, the complete
intervals are fixed and the others take their samples (R94 to R96). That a strip B hit in COUNTING leaves the count of axles (log entry
39), and when an interval ended by the hit that begins COUNTING is fixed (log entry 43), are the model's reading. -/
def Obligations.AxleBuilding : Prop :=
  (∀ (k : Strip) (time : Nat) (p : Passage) (s : State), running s.dev = true → s.dev.clc.cycle ≠ none →
    (∀ last, lastHitOf s.dev k = some last → last + 40 ≤ time) → s.dev.lsv.current = some p →
    s.dev.lsv.lane = .entering ∨ s.dev.lsv.lane = .onDeck ∨ (s.dev.lsv.lane = .leaving ∧ k ≠ .a) →
    let b := fixComplete s.dev.nvc.settings.grd s.dev.nvc.settings.nmin (match k with
      | .a => axuHitA time ⟨s.dev.axu, p⟩
      | .b => axuHitB s.dev.nvc.settings.dab time ⟨s.dev.axu, p⟩
      | .c => axuHitC time ⟨s.dev.axu, p⟩)
    ∃ t, exec (.stripHit k time) s = .next t ∧ t.dev.axu = b.ax ∧ t.dev.lsv.current = some b.p) ∧
  (∀ (t : Nat) (ax : Axu) (p : Passage),
    let x := { ax with hitsA := ax.hitsA + 1 }
    axuHitA t ⟨ax, p⟩ =
      if ax.counting = true then ⟨x, p⟩
      else if ax.pendingA.length < 8 then ⟨{ x with pendingA := ax.pendingA ++ [t] }, p⟩
      else ⟨{ x with pendingA := ax.pendingA.tail ++ [t] }, { p with flags := { p.flags with order := true } }⟩) ∧
  (∀ (dab t : Nat) (ax : Axu) (p : Passage),
    let x := { ax with hitsB := ax.hitsB + 1, axles := ax.axles + 1 }
    let full := { x with counting := true }
    let ended : Passage := { p with counted := ax.axles + 1, intervals := p.intervals.map (endedAt t) }
    (ax.counting = true → axuHitB dab t ⟨ax, p⟩ = ⟨{ ax with hitsB := ax.hitsB + 1 }, p⟩) ∧
    (ax.counting = false → ax.pendingA = [] →
      axuHitB dab t ⟨ax, p⟩ = ⟨full, { ended with flags := { p.flags with reversed := true } }⟩) ∧
    (∀ tA rest, ax.counting = false → ax.pendingA = tA :: rest →
      (16 ≤ p.axles.length → axuHitB dab t ⟨ax, p⟩ =
        ⟨{ full with pendingA := rest }, { ended with flags := { p.flags with axlesFull := true } }⟩) ∧
      (p.axles.length < 16 →
        let n := p.axles.length + 1
        let speed : Option Speed := if t - tA = 0 ∨ 20000 < t - tA then none else some ⟨dab, t - tA⟩
        ∃ (spacing : Spacing) (uneven : Bool),
          axuHitB dab t ⟨ax, p⟩ = ⟨{ x with pendingA := rest, onModule := ax.onModule ++ [n] },
            nextInterval t (ax.onModule ++ [n]) { p with
              counted := ax.axles + 1
              axles := p.axles ++ [⟨n, tA, t, speed, spacing, none, .unset⟩]
              flags := { p.flags with uneven := p.flags.uneven || uneven } }⟩ ∧
          (p.axles = [] → spacing = .first ∧ uneven = false) ∧
          (∀ prev, p.axles.getLast? = some prev → match prev.speed, speed with
            | some a, some b => 0 < a.ms →
              (uneven = true ↔ max (a.cm * b.ms) (b.cm * a.ms) < 4 * ((a.cm * b.ms : Int) - b.cm * a.ms).natAbs) ∧
              (10000 < t - prev.tB → spacing = .unknown) ∧
              (t - prev.tB ≤ 10000 → ∃ cm, spacing = .cm cm ∧
                Nearest (((a.cm * b.ms + b.cm * a.ms) * (t - prev.tB) : Nat) : Int) (2 * a.ms * b.ms) cm)
            | _, _ => spacing = .unknown ∧ uneven = false)))) ∧
  (∀ (t : Nat) (ax : Axu) (p : Passage),
    let x := { ax with hitsC := ax.hitsC + 1 }
    (ax.counting = true → axuHitC t ⟨ax, p⟩ = ⟨x, p⟩) ∧
    (ax.counting = false → ax.onModule = [] → axuHitC t ⟨ax, p⟩ = ⟨x, { p with flags := { p.flags with order := true } }⟩) ∧
    (∀ n rest, ax.counting = false → ax.onModule = n :: rest → axuHitC t ⟨ax, p⟩ = ⟨{ x with onModule := rest },
      nextInterval t rest { p with axles := p.axles.map fun a => if a.number = n then { a with tC := some t } else a }⟩)) ∧
  (∀ (wr : WeightRecord) (p : Passage) (d : Device), d.lsv.current = some p →
    let load := wr.modules.get .i0
    let b := fixComplete d.nvc.settings.grd d.nvc.settings.nmin ⟨{ d.axu with samples := d.axu.samples ++
      [⟨wr.index, wr.latch, load.bind (·.load), (load.map (·.clamped)).getD false,
        decide (∀ i ∈ SlotId.ofLine .i0, configured d i = true → wr.states.sel i = .live)⟩] }, p⟩
    axuRecord wr d = { d with axu := b.ax, lsv := { d.lsv with current := some b.p } }) ∧
  (∀ (g nmin : Nat) (b : Build),
    let complete (v : Interval) : Bool := v.stop.any fun e => b.ax.samples.any fun x => decide (e ≤ x.latch)
    let now' (v : Interval) : Interval := if v.usability ≠ .pending then v
      else if complete v = true then fixInterval g nmin b.ax v else placeSamples (samplesOf b.ax v) v
    fixComplete g nmin b = ⟨b.ax, { b.p with intervals := b.p.intervals.map now' }⟩) ∧
  (∀ (g nmin : Nat) (ax : Axu) (v : Interval),
    let all := ax.samples.filter fun x => decide (v.start ≤ x.latch) && (match v.stop with
      | some e => decide (x.latch < e)
      | none => true)
    let used := (all.drop g).take (all.length - 2 * g)
    let placed := { v with first := all.head?.map (·.index), last := all.getLast?.map (·.index), count := all.length }
    let r := fixInterval g nmin ax v
    placeSamples (samplesOf ax v) v = placed ∧
    r = { placed with usable := all.length - 2 * g, usability := r.usability, mean := r.mean } ∧
    r.usability = (if ax.baseline = none then .absent else if all.length - 2 * g < nmin then .short
      else if (∃ x ∈ used, x.allLive = false ∨ x.load = none ∨ x.clamped = true) then .slot else .usable) ∧
    (r.usability ≠ .usable → r.mean = none) ∧
    (∀ b1, r.usability = .usable → ax.baseline = some b1 → used ≠ [] → ∃ m, r.mean = some m ∧
      Nearest ((used.map fun x => x.load.getD 0).sum - used.length * b1) used.length m))

/-- The solve at a close. The open interval ends and is fixed, with what is not yet fixed; ORDER follows the three counts (R94, R97).
A REVERSED passage is not solved; with no axle, or every interval ABSENT, every load is ABSENT (R97); else the substitution passes find
the loads, the other USABLE intervals are checks or OPEN, and axles not found are UNRESOLVED (R98 to R100). Groups by spacing, at most
eight, with kind, limit, load and verdict (R101 to R103), the axle gross (R104), the result (R105) and AXLE-GROSS (R106). A passage the
clear timer closes is so solved (R76). -/
def Obligations.AxleSolve : Prop :=
  (∀ (t0 : Nat) (p : Passage) (s : State), running s.dev = true → s.dev.lsv.current = some p → s.dev.lsv.clear = some t0 →
    s.dev.lsv.lane = .entering ∨ s.dev.lsv.lane = .onDeck ∨ s.dev.lsv.lane = .leaving →
    let due := t0 + 1000 * s.dev.nvc.settings.clrt
    ∃ t q, exec .clearTimerExpires s = .next t ∧ t.dev.lsv.history.getLast? = some q ∧
      { q with owedMark := false } = { axuSolve s.dev.nvc.settings due ⟨s.dev.axu, { p with
        closeCause := some .clear, closeTime := s.dev.nvc.clock, closeAt := some due }⟩ with owedMark := false }) ∧
  ∀ (st : Settings) (t : Nat) (ax : Axu) (p : Passage),
    let d := ax.division.getD 1
    let q := axuSolve st t ⟨ax, p⟩
    let fixed := p.intervals.map fun v =>
      if v.usability = .pending then fixInterval st.grd st.nmin ax (endedAt t v) else endedAt t v
    let order := p.flags.order || decide (¬ (ax.hitsA = ax.hitsB ∧ ax.hitsB = ax.hitsC))
    (p.flags.reversed = true → q = { p with
      intervals := fixed, result := some .void, flags := { p.flags with order := order } }) ∧
    (p.flags.reversed = false →
      let failed (v : Interval) : Bool := match v.outcome with
        | .checkFail _ => true
        | _ => false
      let chains := (q.axles.splitBy fun _ b => match b.spacing with
        | .cm n => decide (n ≤ st.gsp)
        | _ => false).map fun c => c.map (·.number)
      let load (n : Nat) : Option Int := (q.axles.find? fun a => a.number == n).bind fun a => match a.load with
        | .fine w => some w
        | _ => none
      let solved (a : Axle) : Bool := match a.load with
        | .fine _ => true
        | _ => false
      let sum (l : List Nat) : Int := (l.filterMap load).sum
      let open' (l : List Nat) : List Nat := l.filter fun n => (load n).isNone
      let rounded (fine kg : Int) : Prop := ∃ n : Int, kg = d * n ∧ Nearest fine (100 * d) n
      q.intervals.map (fun v => { v with outcome := .none }) = fixed.map (fun v => { v with outcome := .none }) ∧
      q.axles.map (fun a => { a with load := .unset }) = p.axles.map (fun a => { a with load := .unset }) ∧
      q = { p with
        axles := q.axles, intervals := q.intervals, groups := q.groups, axleGross := q.axleGross, result := q.result
        flags := { p.flags with order := order, inconsistent := p.flags.inconsistent || q.intervals.any failed,
                                groupsFull := p.flags.groupsFull || decide (8 < chains.length), axleGross := q.flags.axleGross } } ∧
      (p.axles = [] ∨ (∀ v ∈ fixed, v.usability = .absent) →
        (∀ a ∈ q.axles, a.load = .absent) ∧ ∀ v ∈ q.intervals, v.outcome = .unused) ∧
      (p.axles ≠ [] → (∃ v ∈ fixed, v.usability ≠ .absent) → p.axles.length ≤ 16 → (p.axles.map (·.number)).Nodup →
        (∀ a ∈ p.axles, a.load = .unset) → (p.intervals.map (·.number)).Nodup →
        (∀ v ∈ p.intervals, v.outcome = .none ∧ v.axles.Nodup ∧ (∀ n ∈ v.axles, ∃ a ∈ p.axles, a.number = n) ∧
          (v.usability ≠ .pending → (v.mean.isSome = true ↔ v.usability = .usable))) →
        let found := foundIn fixed
        (∀ a ∈ q.axles, a.load = (match loadFound found a.number with
          | some w => .fine w
          | none => .unresolved)) ∧
        (∀ v ∈ q.intervals,
          (v.mean = none → v.outcome = .unused) ∧
          (∀ m, v.mean = some m →
            (∀ e ∈ found, e.2.2 = v.number → v.outcome = .solves e.1) ∧
            ((∀ e ∈ found, e.2.2 ≠ v.number) → open' v.axles = [] →
              let r := m - sum v.axles
              v.outcome = if max (m.natAbs : Int) (200 * (100 * d)) < 100 * (r.natAbs : Int) then .checkFail r else .checkOk r) ∧
            ((∀ e ∈ found, e.2.2 ≠ v.number) → open' v.axles ≠ [] → v.outcome = .open)))) ∧
      (q.groups.map (·.axles) = chains.take 8) ∧
      (∀ k g, q.groups[k]? = some g → 0 < d →
        g.number = k + 1 ∧ g.kind = kindOf (k + 1) g.axles.length ∧ g.limit = limitOf st g.kind ∧
        (g.verdict, g.excess) = groupVerdict g.load g.limit ∧
        ((∀ a ∈ q.axles, a.load = .absent) → g.load = .absent) ∧
        ((∃ a ∈ q.axles, a.load ≠ .absent) →
          (open' g.axles = [] → ∃ kg, g.load = .kg kg ∧ rounded (sum g.axles) kg) ∧
          ((open' g.axles).length = 1 → g.load = .unresolved) ∧
          (2 ≤ (open' g.axles).length →
            (∀ v m, q.intervals.find? (fun v => v.outcome = .open && open' v.axles = open' g.axles) = some v → v.mean = some m →
              ∃ kg, g.load = .kg kg ∧ rounded (m - sum v.axles + sum g.axles) kg) ∧
            (q.intervals.find? (fun v => v.outcome = .open && open' v.axles = open' g.axles) = none → g.load = .unresolved)))) ∧
      q.axleGross = (if q.axles.any solved then some (sum (q.axles.map (·.number))) else none) ∧
      q.result = some (judgeResult st d q) ∧
      q.flags.axleGross = (p.flags.axleGross || (match p.ring.getLast?, q.axleGross with
        | some w, some g => decide (q.result ≠ some .void ∧ q.result ≠ some .absent ∧ p.flags.axlesFull = false ∧
            q.axles.all solved = true ∧ max (3 * w.weight) (5 * (100 * d)) < ((100 * w.weight - g).natAbs : Int))
        | _, _ => false)))

/-- Axle groups and the axle check result (R103 to R106): the verdict of a group, ABSENT and UNRESOLVED with its load whatever the limit,
else that of its load against its limit, and the first condition of R105 that holds. -/
def Obligations.AxleJudgement : Prop :=
  (∀ limit : Nat, groupVerdict .absent limit = (.absent, none) ∧ groupVerdict .unresolved limit = (.unresolved, none)) ∧
  (∀ (w : Int) (limit : Nat), groupVerdict (.kg w) limit =
    (if limit = 0 then (.unchecked, none) else if (limit : Int) < w then (.over, some (w - limit)) else (.ok, none))) ∧
  (∀ (st : Settings) (d : Nat) (p : Passage),
    let tooHeavy : Prop := (∃ g ∈ p.groups, g.verdict = .over) ∨
      ∃ w, p.axleGross = some w ∧ st.lgrs ≠ 0 ∧ (st.lgrs : Int) < roundToDivision d w
    let open' : Prop := (∃ g ∈ p.groups, g.verdict = .unresolved) ∨ p.flags.axlesFull = true ∨ p.flags.intervalsFull = true ∨
      p.flags.groupsFull = true ∨ (st.lgrs ≠ 0 ∧ ∃ a ∈ p.axles, a.load = .unresolved)
    (p.flags.reversed = true → judgeResult st d p = .void) ∧
    (p.flags.reversed = false →
      ((∀ a ∈ p.axles, a.load = .absent) → judgeResult st d p = .absent) ∧
      ((∃ a ∈ p.axles, a.load ≠ .absent) →
        (tooHeavy → judgeResult st d p = .over) ∧ (¬ tooHeavy → open' → judgeResult st d p = .incomplete) ∧
        (¬ tooHeavy → ¬ open' → judgeResult st d p = .pass))))
end

