-- ==== Sys2Proof/Laws/State.lean ====
section
/-! SUPPORT. Two frames, each a group of fields an operation leaves alone. -/

namespace Sys2Proof.Machine

/-- The message port's intake, the output queue, power and the sample clock are the same. -/
abbrev HostSame (a b : Device) : Prop :=
  a.rx = b.rx ∧ a.tx.queue = b.tx.queue ∧ a.power = b.power ∧ a.clc.nextIndex = b.clc.nextIndex ∧ a.clc.nextLatch = b.clc.nextLatch

/-- The zero unit, the active record and the lane are the same. -/
abbrev ZeroSame (a b : Device) : Prop := a.zsu = b.zsu ∧ a.mst.active = b.mst.active ∧ a.lsv.lane = b.lsv.lane

theorem HostSame.trans {a b c : Device} (h : HostSame a b) (k : HostSame b c) : HostSame a c :=
  ⟨h.1.trans k.1, h.2.1.trans k.2.1, h.2.2.1.trans k.2.2.1, h.2.2.2.1.trans k.2.2.2.1, h.2.2.2.2.trans k.2.2.2.2⟩

theorem ZeroSame.trans {a b c : Device} (h : ZeroSame a b) (k : ZeroSame b c) : ZeroSame a c :=
  ⟨h.1.trans k.1, h.2.1.trans k.2.1, h.2.2.trans k.2.2⟩

theorem HostSame.foldl {α : Type} {f : Device → α → Device} (h : ∀ d x, HostSame (f d x) d) (l : List α) (d : Device) :
    HostSame (l.foldl f d) d := by
  induction l generalizing d with
  | nil => exact ⟨rfl, rfl, rfl, rfl, rfl⟩
  | cons x l ih => exact (ih (f d x)).trans (h d x)

theorem ZeroSame.foldl {α : Type} {f : Device → α → Device} (h : ∀ d x, ZeroSame (f d x) d) (l : List α) (d : Device) :
    ZeroSame (l.foldl f d) d := by
  induction l generalizing d with
  | nil => exact ⟨rfl, rfl, rfl⟩
  | cons x l ih => exact (ih (f d x)).trans (h d x)

end Sys2Proof.Machine
end

