-- ==== Sys2Proof/Laws/HostFrames.lean ====
section
/-! SUPPORT. What each shared operation leaves alone of the message port's intake, the output queue, power and the sample clock. -/

namespace Sys2Proof.Machine

@[simp] theorem joinReplies_host (r : Text) (d : Device) : HostSame (joinReplies r d) d := by
  unfold joinReplies; split <;> simp [HostSame]

@[simp] theorem reply_host (lead : Char) (tag : Text) (fields : List Text) (d : Device) :
    HostSame (reply lead tag fields d) d := joinReplies_host _ d

@[simp] theorem answer_host (t : Tag) (fields : List Text) (d : Device) : HostSame (answer t fields d) d := reply_host _ _ _ d

@[simp] theorem refuse_host (t : Tag) (c : Code) (d : Device) : HostSame (refuse t c d) d := reply_host _ _ _ d

@[simp] theorem sendLong_host (lead : Char) (tag : Text) (fields : List Text) (d : Device) :
    HostSame (sendLong lead tag fields d) d := ⟨rfl, rfl, rfl, rfl, rfl⟩

@[simp] theorem setStage_host (st : Stage) (d : Device) : HostSame (setStage st d) d := ⟨rfl, rfl, rfl, rfl, rfl⟩

@[simp] theorem accept_host (t : Tag) (st : Stage) (d : Device) : HostSame (accept t st d) d := ⟨rfl, rfl, rfl, rfl, rfl⟩

@[simp] theorem complete_host (fields : List Text) (d : Device) : HostSame (complete fields d) d := ⟨rfl, rfl, rfl, rfl, rfl⟩

@[simp] theorem failWith_host (c : Code) (detail : List Text) (d : Device) : HostSame (failWith c detail d) d := ⟨rfl, rfl, rfl, rfl, rfl⟩

@[simp] theorem raise_host (c : Notice) (d : Device) : HostSame (raise c d) d := by
  unfold raise; split <;> simp [HostSame]

@[simp] theorem advance_host (t : Nat) (d : Device) : HostSame (advance t d) d := ⟨rfl, rfl, rfl, rfl, rfl⟩

@[simp] theorem startWrite_host (d : Device) : HostSame (startWrite d) d := by
  unfold startWrite; repeat' split
  all_goals simp [HostSame]

@[simp] theorem request_host (r : WriteReq) (d : Device) : HostSame (request r d) d := by simp [request, HostSame]

@[simp] theorem requestStatus_host (nv : NvStore) (rec : StatusRec) (forLong : Bool) (d : Device) :
    HostSame (requestStatus nv rec forLong d) d := by
  unfold requestStatus; split <;> simp [HostSame]

@[simp] theorem appendRefused_host (nv : NvStore) (d : Device) : HostSame (appendRefused nv d) d := by
  unfold appendRefused; dsimp only; repeat' split
  all_goals simp [HostSame]

@[simp] theorem append_host (nv : NvStore) (src : Requester) (body : AuditBody) (counter : Option Nat) (d : Device) :
    HostSame (append nv src body counter d) d := by
  unfold append; split <;> simp [HostSame]

@[simp] theorem requestDiscard_host (nv : NvStore) (d : Device) : HostSame (requestDiscard nv d) d := by
  unfold requestDiscard; split <;> simp [HostSame]

@[simp] theorem submitHeld_host (nv : NvStore) (d : Device) (x2 : HeldReq) : HostSame (submitHeld nv d x2) d := by
  unfold submitHeld; split <;> simp [HostSame]

@[simp] theorem releaseHeld_host (nv : NvStore) (d : Device) : HostSame (releaseHeld nv d) d := by
  unfold releaseHeld
  exact .foldl (fun d x => by simp [HostSame]) _ _

@[simp] theorem syncOwed_host (d : Device) : HostSame (syncOwed d) d := ⟨rfl, rfl, rfl, rfl, rfl⟩

@[simp] theorem requestFreeing_host (nv : NvStore) (x1 : Nat) (x2 : Device) : HostSame (requestFreeing nv x1 x2) x2 := by
  induction x1 generalizing x2 with
  | zero => exact ⟨rfl, rfl, rfl, rfl, rfl⟩
  | succ n ih =>
    unfold requestFreeing; repeat' split
    all_goals simp [ih, HostSame]

@[simp] theorem requestOwed_host (nv : NvStore) (x1 : Nat) (x2 : Device) : HostSame (requestOwed nv x1 x2) x2 := by
  induction x1 generalizing x2 with
  | zero => exact ⟨rfl, rfl, rfl, rfl, rfl⟩
  | succ n ih =>
    unfold requestOwed; repeat' split
    all_goals simp [ih, HostSame]

@[simp] theorem requestAttachments_host (nv : NvStore) (d : Device) :
    HostSame (requestAttachments nv d) d := by simp [requestAttachments, HostSame]

@[simp] theorem dropAttachment_host (visit : Nat) (d : Device) : HostSame (dropAttachment visit d) d := ⟨rfl, rfl, rfl, rfl, rfl⟩

@[simp] theorem requestJournal_host (rec : JournalRec) (d : Device) :
    HostSame (requestJournal rec d) d := by simp [requestJournal, HostSame]

@[simp] theorem makeOwn_host (nv : NvStore) (x1 : Draft) (d : Device) : HostSame (makeOwn nv x1 d) d := by simp [makeOwn, HostSame]

@[simp] theorem makeRecord_host (nv : NvStore) (x1 : Draft) (d : Device) : HostSame (makeRecord nv x1 d) d := by
  unfold makeRecord; split <;> simp [HostSame]

@[simp] theorem beginAxleWait_host (x0 : Draft) (passage : Nat) (d : Device) :
    HostSame (beginAxleWait x0 passage d) d := ⟨rfl, rfl, rfl, rfl, rfl⟩

@[simp] theorem endAxleWait_host (nv : NvStore) (d : Device) : HostSame (endAxleWait nv d) d := by
  unfold endAxleWait; split <;> simp [HostSame]

@[simp] theorem issue_host (nv : NvStore) (x1 : Draft) (passage : Option Nat) (d : Device) : HostSame (issue nv x1 passage d) d := by
  unfold issue; split <;> simp [HostSame]

@[simp] theorem issueTicket_host (nv : NvStore) (v : VisitRec) (w : Weighing) (d : Device) : HostSame (issueTicket nv v w d) d := by
  unfold issueTicket; repeat' split
  all_goals simp [HostSame]

@[simp] theorem issueOnePass_host (nv : NvStore) (ref : Text) (t : TareEntry) (w : Weighing) (d : Device) :
    HostSame (issueOnePass nv ref t w d) d := by simp [issueOnePass, HostSame]

@[simp] theorem issueGross_host (nv : NvStore) (ref : Text) (w : Weighing) (d : Device) :
    HostSame (issueGross nv ref w d) d := by simp [issueGross, HostSame]

@[simp] theorem passageClosed_host (nv : NvStore) (n : Nat) (d : Device) : HostSame (passageClosed nv n d) d := by
  unfold passageClosed; dsimp only; repeat' split
  all_goals simp [HostSame]

@[simp] theorem requestFree_host (nv : NvStore) (x1 : Draft) (rec : JournalRec) (slot : Nat) (second : Bool) (d : Device) :
    HostSame (requestFree nv x1 rec slot second d) d := by
  unfold requestFree; split <;> simp [HostSame]

@[simp] theorem releaseFree_host (nv : NvStore) (d : Device) : HostSame (releaseFree nv d) d := by
  unfold releaseFree; split <;> simp [HostSame]

@[simp] theorem freeVisitOf_host (nv : NvStore) (x1 : Draft) (rec : JournalRec) (d : Device) : HostSame (freeVisitOf nv x1 rec d) d := by
  unfold freeVisitOf; dsimp only; repeat' split
  all_goals simp [HostSame]

@[simp] theorem raiseJournal_host (nv x1 : NvStore) (d : Device) : HostSame (raiseJournal nv x1 d) d := by
  unfold raiseJournal; dsimp only; repeat' split
  all_goals simp [HostSame]

@[simp] theorem openVisit_host (nv : NvStore) (ref : Text) (dir : Direction) (w : Weighing) (d : Device) :
    HostSame (openVisit nv ref dir w d) d := by
  unfold openVisit; split <;> simp [HostSame]

@[simp] theorem storeTare_host (nv : NvStore) (t : Tag) (e : TareEntry) (d : Device) : HostSame (storeTare nv t e d) d := by
  unfold storeTare; split <;> simp [HostSame]

@[simp] theorem storeStaticTare_host (nv : NvStore) (ref : Text) (days : Nat) (w : Weighing) (d : Device) :
    HostSame (storeStaticTare nv ref days w d) d := by
  unfold storeStaticTare; split <;> simp [HostSame]

@[simp] theorem addPoint_host (x0 : Nat) (w : Weighing) (d : Device) : HostSame (addPoint x0 w d) d := by
  unfold addPoint; split <;> simp [HostSame]

@[simp] theorem captureYields_host (nv : NvStore) (cmd : CapCmd) (w : Weighing) (d : Device) : HostSame (captureYields nv cmd w d) d := by
  unfold captureYields; repeat' split
  all_goals simp [HostSame]

@[simp] theorem laneWaits_host (d : Device) : HostSame (laneWaits d) d := by
  unfold laneWaits; dsimp only; repeat' split
  all_goals simp [HostSame]

@[simp] theorem setLane_host (l : Lane) (d : Device) : HostSame (setLane l d) d := by
  unfold setLane; split <;> simp [HostSame]

@[simp] theorem evalTimers_host (t : Nat) (d : Device) : HostSame (evalTimers t d) d := ⟨rfl, rfl, rfl, rfl, rfl⟩

@[simp] theorem hitTimers_host (t : Nat) (d : Device) : HostSame (hitTimers t d) d := ⟨rfl, rfl, rfl, rfl, rfl⟩

@[simp] theorem stopSettle_host (d : Device) : HostSame (stopSettle d) d := ⟨rfl, rfl, rfl, rfl, rfl⟩

@[simp] theorem openPassage_host (cause : OpenCause) (t : Nat) (d : Device) :
    HostSame (openPassage cause t d) d := ⟨rfl, rfl, rfl, rfl, rfl⟩

@[simp] theorem pushHistory_host (p : Passage) (d : Device) : HostSame (pushHistory p d) d := ⟨rfl, rfl, rfl, rfl, rfl⟩

@[simp] theorem closePassage_host (nv : NvStore) (cause : CloseCause) (t : Nat) (d : Device) : HostSame (closePassage nv cause t d) d := by
  unfold closePassage; split <;> simp [HostSame]

@[simp] theorem enterPassage_host (cause : OpenCause) (t : Nat) (d : Device) :
    HostSame (enterPassage cause t d) d := by simp [enterPassage, HostSame]

@[simp] theorem laneZeroSet_host (d : Device) : HostSame (laneZeroSet d) d := by
  unfold laneZeroSet; dsimp only; repeat' split
  all_goals simp [HostSame]

@[simp] theorem pushRing_host (w : Weighing) (d : Device) : HostSame (pushRing w d) d := by
  unfold pushRing; split <;> simp [HostSame]

@[simp] theorem handHit_host (strip : Strip) (t : Nat) (d : Device) : HostSame (handHit strip t d) d := by
  unfold handHit; split <;> simp [HostSame]

@[simp] theorem tailgate_host (nv : NvStore) (t : Nat) (d : Device) : HostSame (tailgate nv t d) d := by
  simp [tailgate, HostSame]

@[simp] theorem laneHit_host (nv : NvStore) (strip : Strip) (t : Nat) (d : Device) : HostSame (laneHit nv strip t d) d := by
  unfold laneHit; split <;> simp [HostSame]

@[simp] theorem beamEndsCapture_host (d : Device) : HostSame (beamEndsCapture d) d := by
  unfold beamEndsCapture; split <;> simp [HostSame]

@[simp] theorem laneBeam_host (beam : Beam) (blocked : Bool) (t : Nat) (d : Device) : HostSame (laneBeam beam blocked t d) d := by
  unfold laneBeam; dsimp only; repeat' split
  all_goals simp [HostSame]

@[simp] theorem laneRecord_host (wasInit : Bool) (wr : WeightRecord) (d : Device) : HostSame (laneRecord wasInit wr d) d := by
  unfold laneRecord; dsimp only; repeat' split
  all_goals simp [HostSame]

@[simp] theorem settleExpires_host (d : Device) : HostSame (settleExpires d) d := by simp [settleExpires, HostSame]

@[simp] theorem clearExpires_host (nv : NvStore) (t : Nat) (d : Device) :
    HostSame (clearExpires nv t d) d := by simp [clearExpires, HostSame]

@[simp] theorem laneCommit_host (nv : NvStore) (d : Device) : HostSame (laneCommit nv d) d := by simp [laneCommit, HostSame]

@[simp] theorem timersUnderNewSettings_host (nv : NvStore) (d : Device) : HostSame (timersUnderNewSettings nv d) d := by
  unfold timersUnderNewSettings; dsimp only; repeat' split
  all_goals simp [HostSame]

@[simp] theorem setInitialZero_host (f : Int) (d : Device) : HostSame (setInitialZero f d) d := ⟨rfl, rfl, rfl, rfl, rfl⟩

@[simp] theorem setOperatingZero_host (f : Int) (d : Device) : HostSame (setOperatingZero f d) d := ⟨rfl, rfl, rfl, rfl, rfl⟩

@[simp] theorem track_host (r : CalRecord) (f : Int) (g : Option Int) (d : Device) : HostSame (track r f g d) d := by
  unfold track; repeat' split
  all_goals simp [HostSame]

@[simp] theorem updateBaseline_host (w : List WinEntry) (d : Device) : HostSame (updateBaseline w d) d := by
  unfold updateBaseline; split <;> simp [HostSame]

@[simp] theorem emptyWindow_host (d : Device) : HostSame (emptyWindow d) d := ⟨rfl, rfl, rfl, rfl, rfl⟩

@[simp] theorem stableUnset_host (r : CalRecord) (f : Int) (d : Device) : HostSame (stableUnset r f d) d := by
  unfold stableUnset; repeat' split
  all_goals simp [HostSame]

@[simp] theorem stableClear_host (r : CalRecord) (f : Int) (g : Option Int) (d : Device) : HostSame (stableClear r f g d) d := by
  unfold stableClear; repeat' split
  all_goals simp [HostSame]

@[simp] theorem captureSlots_host (before : Option WeightRecord) (wr : WeightRecord) (d : Device) :
    HostSame (captureSlots before wr d) d := by
  unfold captureSlots; repeat' split
  all_goals simp [HostSame]

@[simp] theorem captureStable_host (nv : NvStore) (r : CalRecord) (wr : WeightRecord) (d : Device) :
    HostSame (captureStable nv r wr d) d := by
  unfold captureStable; repeat' split
  all_goals simp [HostSame]

@[simp] theorem zsuRecord_host (nv : NvStore) (before : Option WeightRecord) (wr : WeightRecord) (d : Device) :
    HostSame (zsuRecord nv before wr d) d := by
  unfold zsuRecord; dsimp only; repeat' split
  all_goals simp [HostSame]

@[simp] theorem axuRecord_host (wr : WeightRecord) (d : Device) : HostSame (axuRecord wr d) d := by
  unfold axuRecord; split <;> simp [HostSame]

@[simp] theorem weightRecord_host (nv : NvStore) (sr : SampleRecord) (d : Device) :
    HostSame (weightRecord nv sr d) d := by simp [weightRecord, HostSame]

@[simp] theorem csuCommit_host (d : Device) : HostSame (csuCommit d) d := ⟨rfl, rfl, rfl, rfl, rfl⟩

@[simp] theorem zsuCommit_host (d : Device) : HostSame (zsuCommit d) d := ⟨rfl, rfl, rfl, rfl, rfl⟩

@[simp] theorem storeSlot_host (i : SlotId) (s : Slot) (d : Device) : HostSame (storeSlot i s d) d := ⟨rfl, rfl, rfl, rfl, rfl⟩

@[simp] theorem requestMismatch_host (nv : NvStore) (i : SlotId) (d : Device) :
    HostSame (requestMismatch nv i d) d := by simp [requestMismatch, HostSame]

@[simp] theorem enterMismatch_host (nv : NvStore) (i : SlotId) (d : Device) : HostSame (enterMismatch nv i d) d := by
  unfold enterMismatch; split <;> simp [HostSame]

@[simp] theorem putSlot_host (nv : NvStore) (i : SlotId) (s : Slot) (d : Device) : HostSame (putSlot nv i s d) d := by
  unfold putSlot; dsimp only; repeat' split
  all_goals simp [HostSame]

@[simp] theorem mapSlots_host (nv : NvStore) (f : SlotId → Slot → Slot) (is : List SlotId) (d : Device) :
    HostSame (mapSlots nv f is d) d := by
  unfold mapSlots; exact .foldl (fun d i => by simp [HostSame]) is d

@[simp] theorem clcCommit_host (nv : NvStore) (d : Device) : HostSame (clcCommit nv d) d := by
  unfold clcCommit; simp [HostSame]

@[simp] theorem clcNewHold_host (nv : NvStore) (d : Device) : HostSame (clcNewHold nv d) d := by
  unfold clcNewHold; simp [HostSame]

@[simp] theorem setWork_host (w : WorkCopy) (d : Device) : HostSame (setWork w d) d := ⟨rfl, rfl, rfl, rfl, rfl⟩

@[simp] theorem captureZero_host (sr : SampleRecord) (win : List (Slots (Option Int))) (w : WorkCopy) (d : Device) :
    HostSame (captureZero sr win w d) d := ⟨rfl, rfl, rfl, rfl, rfl⟩

@[simp] theorem captureSpan_host (m : Ix) (x1 : Nat) (sr : SampleRecord) (win : List (Slots (Option Int))) (w : WorkCopy) (d : Device) :
    HostSame (captureSpan m x1 sr win w d) d := by
  unfold captureSpan; dsimp only; repeat' split
  all_goals simp [HostSame]

@[simp] theorem mstRecord_host (sr : SampleRecord) (d : Device) : HostSame (mstRecord sr d) d := by
  unfold mstRecord; dsimp only; repeat' split
  all_goals simp [HostSame]

@[simp] theorem discardRun_host (nv : NvStore) (d : Device) : HostSame (discardRun nv d) d := by simp [discardRun, HostSame]

@[simp] theorem blocksCommit_host (nv : NvStore) (d : Device) : HostSame (blocksCommit nv d) d := by simp [blocksCommit, HostSame]

@[simp] theorem installRecord_host (nv : NvStore) (r : CalRecord) (d : Device) :
    HostSame (installRecord nv r d) d := by simp [installRecord, HostSame]

@[simp] theorem loseRecord_host (nv : NvStore) (d : Device) : HostSame (loseRecord nv d) d := by simp [loseRecord, HostSame]

@[simp] theorem checkOverdue_host (nv : NvStore) (d : Device) : HostSame (checkOverdue nv d) d := by
  unfold checkOverdue; repeat' split
  all_goals simp [HostSame]

@[simp] theorem storeLine_host (l : Ix) (x1 : Line) (d : Device) : HostSame (storeLine l x1 d) d := ⟨rfl, rfl, rfl, rfl, rfl⟩

@[simp] theorem handSample_host (nv : NvStore) (d : Device) : HostSame (handSample nv d) d := by
  unfold handSample; repeat' split
  all_goals simp [HostSame]

@[simp] theorem missOutcome_host (nv : NvStore) (o : SlotOutcome) (i : SlotId) (d : Device) :
    HostSame (missOutcome nv o i d) d := by simp [missOutcome, HostSame]

@[simp] theorem lateSlots_host (nv : NvStore) (d : Device) : HostSame (lateSlots nv d) d := by
  unfold lateSlots
  exact .foldl (fun d x => by simp [HostSame]) _ _

@[simp] theorem idleLines_host (d : Device) : HostSame (idleLines d) d := ⟨rfl, rfl, rfl, rfl, rfl⟩

@[simp] theorem endCycle_host (nv : NvStore) (d : Device) : HostSame (endCycle nv d) d := by
  unfold endCycle; split <;> simp [HostSame]

@[simp] theorem silentSlots_host (nv : NvStore) (d : Device) : HostSame (silentSlots nv d) d := by
  unfold silentSlots
  exact .foldl (fun d x => by simp [HostSame]) _ _

@[simp] theorem pollPulse_host (l : Ix) (x1 : NvStore) (d : Device) : HostSame (pollPulse l x1 d) d := by
  unfold pollPulse; dsimp only; repeat' split
  all_goals simp [HostSame]

@[simp] theorem lineGoesOn_host (nv : NvStore) (l : Ix) (d : Device) : HostSame (lineGoesOn nv l d) d := by simp [lineGoesOn, HostSame]

@[simp] theorem waitedMiss_host (nv : NvStore) (o : SlotOutcome) (i : SlotId) (d : Device) : HostSame (waitedMiss nv o i d) d := by
  unfold waitedMiss; split <;> simp [HostSame]

@[simp] theorem replyWaitTimeout_host (l : Ix) (nv : NvStore) (d : Device) : HostSame (replyWaitTimeout l nv d) d := by
  unfold replyWaitTimeout; repeat' split
  all_goals simp [HostSame]

@[simp] theorem badFrame_host (l x1 : Ix) (nv : NvStore) (d : Device) : HostSame (badFrame l x1 nv d) d := by simp [badFrame, HostSame]

@[simp] theorem validFrame_host (nv : NvStore) (i : SlotId) (f : Frame) (d : Device) : HostSame (validFrame nv i f d) d := by
  unfold validFrame; split <;> simp [HostSame]

@[simp] theorem replyFrame_host (l : Ix) (ref : Nat) (syms : List Nat) (nv : NvStore) (d : Device) :
    HostSame (replyFrame l ref syms nv d) d := by
  unfold replyFrame; repeat' split
  all_goals simp [HostSame]

@[simp] theorem frameEdgeTimeout_host (l : Ix) (nv : NvStore) (d : Device) : HostSame (frameEdgeTimeout l nv d) d := by
  unfold frameEdgeTimeout; repeat' split
  all_goals simp [HostSame]

@[simp] theorem badFrameEdge_host (l : Ix) (ref : Nat) (syms : List Nat) (nv : NvStore) (d : Device) :
    HostSame (badFrameEdge l ref syms nv d) d := by
  unfold badFrameEdge; repeat' split
  all_goals simp [HostSame]

@[simp] theorem quietWaitEnd_host (l : Ix) (nv : NvStore) (d : Device) : HostSame (quietWaitEnd l nv d) d := by
  unfold quietWaitEnd; split <;> simp [HostSame]

@[simp] theorem shortedSlot_host (nv : NvStore) (l : Ix) (d : Device) : HostSame (shortedSlot nv l d) d := by
  unfold shortedSlot; split <;> simp [HostSame]

@[simp] theorem faultLine_host (nv : NvStore) (l : Ix) (d : Device) : HostSame (faultLine nv l d) d := by
  unfold faultLine; simp [HostSame]

@[simp] theorem lineShorted_host (l : Ix) (nv : NvStore) (d : Device) : HostSame (lineShorted l nv d) d := by
  unfold lineShorted; split <;> simp [HostSame]

@[simp] theorem shortRetry_host (l : Ix) (x1 : NvStore) (d : Device) : HostSame (shortRetry l x1 d) d := by
  unfold shortRetry; dsimp only; repeat' split
  all_goals simp [HostSame]

@[simp] theorem lineRecovery_host (l : Ix) (nv : NvStore) (d : Device) : HostSame (lineRecovery l nv d) d := by
  unfold lineRecovery; dsimp only; split <;> simp [HostSame]

@[simp] theorem storeBeam_host (b : Beam) (x1 : Input) (d : Device) : HostSame (storeBeam b x1 d) d := by
  unfold storeBeam; split <;> simp [HostSame]

@[simp] theorem beamLevelChange_host (b : Beam) (blocked : Bool) (t : Nat) (x3 : NvStore) (d : Device) :
    HostSame (beamLevelChange b blocked t x3 d) d := by
  unfold beamLevelChange; split <;> simp [HostSame]

@[simp] theorem beamChange_host (b : Beam) (x1 : NvStore) (d : Device) : HostSame (beamChange b x1 d) d := by
  unfold beamChange; repeat' split
  all_goals simp [HostSame]

@[simp] theorem storeHit_host (strip : Strip) (t : Nat) (d : Device) : HostSame (storeHit strip t d) d := by
  unfold storeHit; split <;> simp [HostSame]

@[simp] theorem stripHit_host (strip : Strip) (t : Nat) (nv : NvStore) (d : Device) : HostSame (stripHit strip t nv d) d := by
  unfold stripHit; repeat' split
  all_goals simp [HostSame]

@[simp] theorem settleTimerExpires_host (x0 : NvStore) (d : Device) : HostSame (settleTimerExpires x0 d) d := by
  unfold settleTimerExpires; repeat' split
  all_goals simp [HostSame]

@[simp] theorem clearTimerExpires_host (nv : NvStore) (d : Device) : HostSame (clearTimerExpires nv d) d := by
  unfold clearTimerExpires; repeat' split
  all_goals simp [HostSame]

@[simp] theorem lockLevelChange_host (isOpen : Bool) (t : Nat) (x2 : NvStore) (d : Device) :
    HostSame (lockLevelChange isOpen t x2 d) d := by
  unfold lockLevelChange; split <;> simp [HostSame]

@[simp] theorem lockCloses_host (nv : NvStore) (d : Device) : HostSame (lockCloses nv d) d := by
  unfold lockCloses; repeat' split
  all_goals simp [HostSame]

@[simp] theorem lockPositionChange_host (nv : NvStore) (d : Device) : HostSame (lockPositionChange nv d) d := by
  unfold lockPositionChange; dsimp only; repeat' split
  all_goals simp [HostSame]

@[simp] theorem zerDeadline_host (x0 : NvStore) (d : Device) : HostSame (zerDeadline x0 d) d := by
  unfold zerDeadline; split <;> simp [HostSame]

@[simp] theorem captureDeadline_host (x0 : NvStore) (d : Device) : HostSame (captureDeadline x0 d) d := by
  unfold captureDeadline; split <;> simp [HostSame]

@[simp] theorem runCaptureDeadline_host (x0 : NvStore) (d : Device) : HostSame (runCaptureDeadline x0 d) d := by
  unfold runCaptureDeadline; split <;> simp [HostSame]

@[simp] theorem axleWaitExpires_host (nv : NvStore) (d : Device) : HostSame (axleWaitExpires nv d) d := by
  unfold axleWaitExpires; split <;> simp [HostSame]

@[simp] theorem putVisit_host (slot : Nat) (v : VisitRec) (d : Device) : HostSame (putVisit slot v d) d := ⟨rfl, rfl, rfl, rfl, rfl⟩

@[simp] theorem eraseVisit_host (slot : Nat) (d : Device) : HostSame (eraseVisit slot d) d := ⟨rfl, rfl, rfl, rfl, rfl⟩

@[simp] theorem putTare_host (slot : Nat) (c : Option TareEntry) (d : Device) : HostSame (putTare slot c d) d := by
  unfold putTare; split <;> simp [HostSame]

@[simp] theorem tareDone_host (ok : Bool) (slot : Nat) (c : Option TareEntry) (ref : Text) (replaced : Bool) (d : Device) :
    HostSame (tareDone ok slot c ref replaced d) d := by
  unfold tareDone; split <;> simp [HostSame]

@[simp] theorem wg1Done_host (nv : NvStore) (ok : Bool) (slot : Nat) (v : VisitRec) (d : Device) : HostSame (wg1Done nv ok slot v d) d := by
  unfold wg1Done; split <;> simp [HostSame]

@[simp] theorem owedTornDone_host (nv x1 : NvStore) (ok : Bool) (x3 : Draft) (d : Device) : HostSame (owedTornDone nv x1 ok x3 d) d := by
  unfold owedTornDone; split <;> simp [HostSame]

@[simp] theorem recordDone_host (nv x1 : NvStore) (ok : Bool) (x3 : Draft) (rec : JournalRec) (d : Device) :
    HostSame (recordDone nv x1 ok x3 rec d) d := by
  unfold recordDone; split <;> simp [HostSame]

@[simp] theorem tornDone_host (nv x1 : NvStore) (ok : Bool) (x3 : Draft) (n : Nat) (d : Device) :
    HostSame (tornDone nv x1 ok x3 n d) d := by
  unfold tornDone; split <;> simp [HostSame]

@[simp] theorem freeingDone_host (nv : NvStore) (ok : Bool) (x2 : Draft) (rec : JournalRec) (slot : Nat) (second : Bool) (d : Device) :
    HostSame (freeingDone nv ok x2 rec slot second d) d := by
  unfold freeingDone; repeat' split
  all_goals simp [HostSame]

@[simp] theorem exportDone_host (nv : NvStore) (ok : Bool) (n : Nat) (d : Device) : HostSame (exportDone nv ok n d) d := by
  unfold exportDone; split <;> simp [HostSame]

@[simp] theorem settingsDone_host (nv : NvStore) (ok : Bool) (new : Settings) (d : Device) : HostSame (settingsDone nv ok new d) d := by
  unfold settingsDone; split <;> simp [HostSame]

@[simp] theorem ccmAuditDone_host (nv : NvStore) (ok more : Bool) (count time : Nat) (lockClosed : Bool) (d : Device) :
    HostSame (ccmAuditDone nv ok more count time lockClosed d) d := by
  unfold ccmAuditDone; repeat' split
  all_goals simp [HostSame]

@[simp] theorem ccmRecordDone_host (nv : NvStore) (ok : Bool) (w : NvWrite) (more : Bool) (count : Nat) (lockClosed : Bool) (d : Device) :
    HostSame (ccmRecordDone nv ok w more count lockClosed d) d := by
  unfold ccmRecordDone; repeat' split
  all_goals simp [HostSame]

@[simp] theorem vcmAuditDone_host (nv : NvStore) (ok pass : Bool) (time number : Nat) (d : Device) :
    HostSame (vcmAuditDone nv ok pass time number d) d := by
  unfold vcmAuditDone; split <;> simp [HostSame]

@[simp] theorem countReadFailures_host (k : Nat) (d : Device) : HostSame (countReadFailures k d) d := ⟨rfl, rfl, rfl, rfl, rfl⟩

@[simp] theorem answerRead_host (nv : NvStore) (r : AudRead) (d : Device) : HostSame (answerRead nv r d) d :=
  (countReadFailures_host _ _).trans (answer_host _ _ d)

@[simp] theorem releaseReply_host (nv : NvStore) (d : Device) (r : HeldReply) : HostSame (releaseReply nv d r) d := by
  cases r <;> simp [releaseReply, HostSame]

@[simp] theorem auditReads_host (nv : NvStore) (d : Device) : HostSame (auditReads nv d) d :=
  .foldl (releaseReply_host nv) _ _

@[simp] theorem journalEnded_host (w : NvWrite) (d : Device) : HostSame (journalEnded w d) d := by
  unfold journalEnded; split <;> exact ⟨rfl, rfl, rfl, rfl, rfl⟩

@[simp] theorem longDone_host (nv x1 : NvStore) (ok : Bool) (w : NvWrite) (d : Device) : HostSame (longDone nv x1 ok w d) d := by
  unfold longDone; split <;> simp [HostSame]

@[simp] theorem longStatusDone_host (nv : NvStore) (ok : Bool) (d : Device) : HostSame (longStatusDone nv ok d) d := by
  unfold longStatusDone; repeat' split
  all_goals simp [HostSame]

@[simp] theorem mismatchDone_host (nv : NvStore) (i : SlotId) (d : Device) : HostSame (mismatchDone nv i d) d := by
  unfold mismatchDone; dsimp only; repeat' split
  all_goals simp [HostSame]

@[simp] theorem attachDone_host (nv : NvStore) (ok : Bool) (w : NvWrite) (d : Device) : HostSame (attachDone nv ok w d) d := by
  unfold attachDone; split <;> simp [HostSame]

@[simp] theorem startFreeDone_host (nv : NvStore) (ok : Bool) (r : FreeReq) (d : Device) : HostSame (startFreeDone nv ok r d) d := by
  unfold startFreeDone; split <;> simp [HostSame]

@[simp] theorem reportTo_host (nv x1 : NvStore) (ok : Bool) (r : WriteReq) (d : Device) : HostSame (reportTo nv x1 ok r d) d := by
  unfold reportTo; repeat' split
  all_goals simp [HostSame]

@[simp] theorem doWtr_host (fields : List Text) (x1 : NvStore) (d : Device) : HostSame (doWtr fields x1 d) d := by
  unfold doWtr; repeat' split
  all_goals simp [HostSame]

@[simp] theorem doSta_host (fields : List Text) (x1 : NvStore) (d : Device) : HostSame (doSta fields x1 d) d := by
  unfold doSta noFields; split <;> simp [HostSame]

@[simp] theorem clearCounts_host (d : Device) : HostSame (clearCounts d) d := ⟨rfl, rfl, rfl, rfl, rfl⟩

@[simp] theorem doCel_host (fields : List Text) (x1 : NvStore) (d : Device) : HostSame (doCel fields x1 d) d := by
  unfold doCel; repeat' split
  all_goals simp [HostSame]

@[simp] theorem doPas_host (fields : List Text) (x1 : NvStore) (d : Device) : HostSame (doPas fields x1 d) d := by
  unfold doPas; repeat' split
  all_goals simp [HostSame]

@[simp] theorem doVis_host (fields : List Text) (x1 : NvStore) (d : Device) : HostSame (doVis fields x1 d) d := by
  unfold doVis; repeat' split
  all_goals simp [HostSame]

@[simp] theorem doTrl_host (fields : List Text) (x1 : NvStore) (d : Device) : HostSame (doTrl fields x1 d) d := by
  unfold doTrl; repeat' split
  all_goals simp [HostSame]

@[simp] theorem doJst_host (fields : List Text) (nv : NvStore) (d : Device) : HostSame (doJst fields nv d) d := by
  unfold doJst noFields; split <;> simp [HostSame]

@[simp] theorem audRange_host (nv : NvStore) (x1 b : Nat) (d : Device) : HostSame (audRange nv x1 b d) d := by
  unfold audRange; dsimp only; repeat' split
  all_goals simp [HostSame]

@[simp] theorem doAud_host (fields : List Text) (nv : NvStore) (d : Device) : HostSame (doAud fields nv d) d := by
  unfold doAud; repeat' split
  all_goals simp [HostSame]

@[simp] theorem doMst_host (fields : List Text) (x1 : NvStore) (d : Device) : HostSame (doMst fields x1 d) d := by
  unfold doMst noFields; split <;> simp [HostSame]

@[simp] theorem doGet_host (fields : List Text) (x1 : NvStore) (d : Device) : HostSame (doGet fields x1 d) d := by
  unfold doGet; repeat' split
  all_goals simp [HostSame]

@[simp] theorem clearReport_host (d : Device) : HostSame (clearReport d) d := ⟨rfl, rfl, rfl, rfl, rfl⟩

@[simp] theorem doGetNvc_host (fields : List Text) (x1 : NvStore) (d : Device) : HostSame (doGetNvc fields x1 d) d := by
  unfold doGetNvc; repeat' split
  all_goals simp [HostSame]

@[simp] theorem setClock_host (nv : NvStore) (t : Nat) (d : Device) : HostSame (setClock nv t d) d := by simp [setClock, HostSame]

@[simp] theorem doClk_host (fields : List Text) (nv : NvStore) (d : Device) : HostSame (doClk fields nv d) d := by
  unfold doClk; repeat' split
  all_goals simp [HostSame]

@[simp] theorem answerLights_host (d : Device) : HostSame (answerLights d) d := answer_host _ _ d

@[simp] theorem doLit_host (fields : List Text) (x1 : NvStore) (d : Device) : HostSame (doLit fields x1 d) d := by
  unfold doLit; repeat' split
  all_goals simp [HostSame]

@[simp] theorem doNte_host (fields : List Text) (x1 : NvStore) (d : Device) : HostSame (doNte fields x1 d) d := by
  unfold doNte; split <;> simp [HostSame]

@[simp] theorem stopStream_host (d : Device) : HostSame (stopStream d) d := by
  unfold stopStream; split <;> simp [HostSame]

@[simp] theorem abort_host (nv : NvStore) (d : Device) : HostSame (abort nv d) d := by
  unfold abort; split <;> simp [HostSame]

@[simp] theorem doAbt_host (fields : List Text) (nv : NvStore) (d : Device) : HostSame (doAbt fields nv d) d := by
  unfold doAbt noFields; split
  · dsimp only; split <;> simp [HostSame]
  · simp [HostSame]

@[simp] theorem runEndsZer_host (d : Device) : HostSame (runEndsZer d) d := by
  unfold runEndsZer; split <;> simp [HostSame]

@[simp] theorem openRun_host (d : Device) : HostSame (openRun d) d := by simp [openRun, HostSame]

@[simp] theorem doCop_host (fields : List Text) (x1 : NvStore) (d : Device) : HostSame (doCop fields x1 d) d := by
  unfold doCop guarded; split <;> simp [HostSame]

@[simp] theorem doCpaWork_host (fields : List Text) (w : WorkCopy) (d : Device) : HostSame (doCpaWork fields w d) d := by
  unfold doCpaWork; repeat' split
  all_goals simp [HostSame]

@[simp] theorem doCpa_host (fields : List Text) (x1 : NvStore) (d : Device) : HostSame (doCpa fields x1 d) d := by
  unfold doCpa; repeat' split
  all_goals simp [HostSame]

@[simp] theorem doCdx_host (fields : List Text) (nv : NvStore) (d : Device) : HostSame (doCdx fields nv d) d := by
  unfold doCdx guarded; split <;> simp [HostSame]

@[simp] theorem openVerification_host (d : Device) : HostSame (openVerification d) d := by simp [openVerification, HostSame]

@[simp] theorem doVop_host (fields : List Text) (x1 : NvStore) (d : Device) : HostSame (doVop fields x1 d) d := by
  unfold doVop guarded; split <;> simp [HostSame]

@[simp] theorem doZer_host (fields : List Text) (x1 : NvStore) (d : Device) : HostSame (doZer fields x1 d) d := by
  unfold doZer guarded; split <;> simp [HostSame]

@[simp] theorem beginCapture_host (t : Tag) (cmd : CapCmd) (d : Device) : HostSame (beginCapture t cmd d) d := ⟨rfl, rfl, rfl, rfl, rfl⟩

@[simp] theorem doWg1_host (fields : List Text) (x1 : NvStore) (d : Device) : HostSame (doWg1 fields x1 d) d := by
  unfold doWg1 guarded; repeat' split
  all_goals simp [HostSame]

@[simp] theorem doTrs_host (fields : List Text) (x1 : NvStore) (d : Device) : HostSame (doTrs fields x1 d) d := by
  unfold doTrs guarded; repeat' split
  all_goals simp [HostSame]

@[simp] theorem doTrk_host (fields : List Text) (nv : NvStore) (d : Device) : HostSame (doTrk fields nv d) d := by
  unfold doTrk guarded; repeat' split
  all_goals simp [HostSame]

@[simp] theorem dropTare_host (nv : NvStore) (slot : Nat) (ref : Text) (d : Device) :
    HostSame (dropTare nv slot ref d) d := by simp [dropTare, HostSame]

@[simp] theorem doTrd_host (fields : List Text) (nv : NvStore) (d : Device) : HostSame (doTrd fields nv d) d := by
  unfold doTrd; repeat' split
  all_goals simp [HostSame]

@[simp] theorem doWg2_host (fields : List Text) (nv : NvStore) (d : Device) : HostSame (doWg2 fields nv d) d := by
  unfold doWg2 guarded; repeat' split
  all_goals simp [HostSame]

@[simp] theorem doWgs_host (fields : List Text) (nv : NvStore) (d : Device) : HostSame (doWgs fields nv d) d := by
  unfold doWgs guarded; repeat' split
  all_goals simp [HostSame]

@[simp] theorem doWgg_host (fields : List Text) (nv : NvStore) (d : Device) : HostSame (doWgg fields nv d) d := by
  unfold doWgg guarded; repeat' split
  all_goals simp [HostSame]

@[simp] theorem doVcl_host (fields : List Text) (nv : NvStore) (d : Device) : HostSame (doVcl fields nv d) d := by
  unfold doVcl guarded; repeat' split
  all_goals simp [HostSame]

@[simp] theorem doVod_host (fields : List Text) (nv : NvStore) (d : Device) : HostSame (doVod fields nv d) d := by
  unfold doVod guarded; repeat' split
  all_goals simp [HostSame]

@[simp] theorem moveExport_host (nv : NvStore) (n : Nat) (d : Device) : HostSame (moveExport nv n d) d := by
  unfold moveExport; split <;> simp [HostSame]

@[simp] theorem doJex_host (fields : List Text) (nv : NvStore) (d : Device) : HostSame (doJex fields nv d) d := by
  unfold doJex; repeat' split
  all_goals simp [HostSame]

@[simp] theorem beginStream_host (t : Tag) (start count : Nat) (d : Device) :
    HostSame (beginStream t start count d) d := ⟨rfl, rfl, rfl, rfl, rfl⟩

@[simp] theorem doJrd_host (fields : List Text) (nv : NvStore) (d : Device) : HostSame (doJrd fields nv d) d := by
  unfold doJrd; repeat' split
  all_goals simp [HostSame]

@[simp] theorem continueStream_host (nv : NvStore) (cursor count : Nat) (d : Device) : HostSame (continueStream nv cursor count d) d := by
  unfold continueStream; repeat' split
  all_goals simp [HostSame]

@[simp] theorem doJnx_host (fields : List Text) (nv : NvStore) (d : Device) : HostSame (doJnx fields nv d) d := by
  unfold doJnx; repeat' split
  all_goals simp [HostSame]

@[simp] theorem doSet_host (fields : List Text) (x1 : NvStore) (d : Device) : HostSame (doSet fields x1 d) d := by
  unfold doSet; repeat' split
  all_goals simp [HostSame]

@[simp] theorem doCze_host (fields : List Text) (x1 : NvStore) (d : Device) : HostSame (doCze fields x1 d) d := by
  unfold doCze guarded; split <;> simp [HostSame]

@[simp] theorem doCsp_host (fields : List Text) (x1 : NvStore) (d : Device) : HostSame (doCsp fields x1 d) d := by
  unfold doCsp guarded; repeat' split
  all_goals simp [HostSame]

@[simp] theorem appendLong_host (nv : NvStore) (body : AuditBody) (counter : Nat) (st : Stage) (d : Device) :
    HostSame (appendLong nv body counter st d) d := by
  unfold appendLong; split <;> simp [HostSame]

@[simp] theorem beginCommit_host (nv : NvStore) (d : Device) : HostSame (beginCommit nv d) d := by simp [beginCommit, HostSame]

@[simp] theorem doCcm_host (fields : List Text) (nv : NvStore) (d : Device) : HostSame (doCcm fields nv d) d := by
  unfold doCcm guarded; split <;> simp [HostSame]

@[simp] theorem doVpt_host (fields : List Text) (x1 : NvStore) (d : Device) : HostSame (doVpt fields x1 d) d := by
  unfold doVpt guarded; repeat' split
  all_goals simp [HostSame]

@[simp] theorem beginClose_host (nv : NvStore) (d : Device) : HostSame (beginClose nv d) d := by simp [beginClose, HostSame]

@[simp] theorem doVcm_host (fields : List Text) (nv : NvStore) (d : Device) : HostSame (doVcm fields nv d) d := by
  unfold doVcm guarded; split <;> simp [HostSame]

end Sys2Proof.Machine
end

