-- ==== Sys2Proof/Laws/Requests.lean ====
section
/-! SUPPORT. The shared operations in the words the claims use: replies, endings, stages, notices and write requests. -/

namespace Sys2Proof.Machine

open Sys2Proof.Safety

theorem act_eq (s : State) (f : NvStore → Device → Device) : s.act f = .next (becomes s (f s.nv s.dev)) := rfl

theorem answer_eq (t : Tag) (fields : List Text) (d : Device) : answer t fields d = answered t fields d := rfl
theorem refuse_eq (t : Tag) (c : Code) (d : Device) : refuse t c d = refused t c d := rfl
theorem accept_eq (t : Tag) (st : Stage) (d : Device) : accept t st d = acceptedAs t st d := rfl
theorem setStage_eq (st : Stage) (d : Device) : setStage st d = atStage st d := rfl
theorem raise_eq (c : Notice) (d : Device) : raise c d = noticed c d := rfl

/-- A command that passes the Executive's checks is its owner's body. -/
theorem command_eq (t : Tag) (body : NvStore → Device → Device) (nv : NvStore) {d : Device} (h : TakesCommands d)
    (hl : isLongTag t = false ∨ d.exe.slot = none) : command t body nv d = body nv d := by
  obtain ⟨h1, h2⟩ := h
  rcases hl with hl | hl <;> simp [command, h1, h2, hl]

theorem complete_eq {d : Device} {g : Tag} (fields : List Text) (h : d.exe.slot = some g) :
    complete fields d = endedWith '=' g fields d := by
  simp [complete, endedWith, setStage, sendLong, inFlightText, h, recordOf]

theorem failWith_eq {d : Device} {g : Tag} (c : Code) (detail : List Text) (h : d.exe.slot = some g) :
    failWith c detail d = endedWith '#' g (c.text :: detail) d := by
  simp [failWith, endedWith, setStage, sendLong, inFlightText, h, recordOf]

/-- A request is taken at once when the queue is served and nothing is outstanding, else it joins the end of the queue. -/
theorem request_eq (r : WriteReq) {d : Device} (h : QueueServed d) : request r d = requested r d := by
  unfold request requested startWrite outstanding
  cases hs : d.nvc.serving <;> cases hw : d.nvc.writing
  · simp [queued, outstanding, hw, hs]
  · simp [queued, outstanding, hw, hs]
  · simp [takenNow, hw, hs, h hs hw]
  · simp [queued, outstanding, hw, hs]

/-- The queue is served right after the NVC has looked at it. -/
theorem startWrite_served (d : Device) : QueueServed (startWrite d) := by
  unfold startWrite QueueServed
  split
  · split
    · rename_i hq; intro _ _; exact hq
    · intro _ hw; simp at hw
  · rename_i h; intro hs hw; simp [hs, hw] at h

end Sys2Proof.Machine
end

