-- ==== Sys2Proof/Laws/Store.lean ====
section
/-! SUPPORT. The store's tables: a place reads what was last put there, the canonical form is kept, and a write alters its own target
alone. -/

namespace Sys2Proof.Machine

open Sys2Proof.Safety

@[simp] theorem nvGet_nvPut_same {α : Type} (m : NvMap α) (k : Nat) (x : α) : nvGet (nvPut m k x) k = some x := by
  induction m with
  | nil => simp [nvPut, nvGet]
  | cons e m ih =>
    obtain ⟨j, y⟩ := e
    unfold nvPut
    split
    · simp [nvGet]
    · split
      · simp [nvGet]
      · rename_i h; simp [nvGet, ih, Ne.symm h]

@[simp] theorem nvGet_nvPut_other {α : Type} (m : NvMap α) {k j : Nat} (x : α) (h : j ≠ k) : nvGet (nvPut m k x) j = nvGet m j := by
  induction m with
  | nil => simp [nvPut, nvGet, h.symm]
  | cons e m ih =>
    obtain ⟨i, y⟩ := e
    unfold nvPut
    split
    · simp [nvGet, h.symm]
    · split
      · rename_i hk; subst hk; simp [nvGet, h.symm]
      · simp [nvGet, ih]

/-- The places of a table after a put are the old ones and the new one. -/
theorem mem_places_nvPut {α : Type} {m : NvMap α} {k j : Nat} {x : α} (h : j ∈ (nvPut m k x).map (·.1)) :
    j = k ∨ j ∈ m.map (·.1) := by
  induction m with
  | nil => simpa [nvPut] using h
  | cons e m ih =>
    obtain ⟨i, y⟩ := e
    unfold nvPut at h
    split at h
    · simpa using h
    · split at h
      · simp at h ⊢; tauto
      · simp only [List.map_cons, List.mem_cons] at h ⊢
        rcases h with h | h
        · exact .inr (.inl h)
        · exact (ih h).imp id .inr

theorem nvPut_wf {α : Type} {m : NvMap α} (k : Nat) (x : α) (h : nvWf m) : nvWf (nvPut m k x) := by
  induction m with
  | nil => simp [nvPut, nvWf]
  | cons e m ih =>
    obtain ⟨i, y⟩ := e
    simp only [nvWf, List.map_cons, List.pairwise_cons] at h
    unfold nvPut
    split
    · rename_i hk
      simp only [nvWf, List.map_cons, List.pairwise_cons, List.mem_cons]
      refine ⟨?_, h.1, h.2⟩
      rintro j (rfl | hj)
      · exact hk
      · exact hk.trans (h.1 j hj)
    · split
      · rename_i hk; subst hk; simpa [nvWf] using h
      · rename_i h1 h2
        simp only [nvWf, List.map_cons, List.pairwise_cons]
        refine ⟨fun j hj => ?_, ih h.2⟩
        rcases mem_places_nvPut hj with rfl | hj
        · omega
        · exact h.1 j hj

theorem land_form {nv : NvStore} (good : Bool) (w : NvWrite) (h : StoreForm nv) : StoreForm (nv.land good w) := by
  obtain ⟨a, t, v, j⟩ := h
  cases w <;> simp only [NvStore.land]
  case audit => exact ⟨nvPut_wf _ _ a, t, v, j⟩
  case tare => exact ⟨a, nvPut_wf _ _ t, v, j⟩
  case visit => exact ⟨a, t, nvPut_wf _ _ v, j⟩
  case journal => exact ⟨a, t, v, nvPut_wf _ _ j⟩
  all_goals exact ⟨a, t, v, j⟩

theorem cut_form {nv : NvStore} (w : Option WriteReq) (p : WritePhase) (h : StoreForm nv) : StoreForm (nv.cut w p) := by
  unfold NvStore.cut; split
  · exact land_form _ _ h
  · exact land_form _ _ h
  · exact h

end Sys2Proof.Machine
end

