-- ==== Sys2Proof/Laws/Text.lean ====
section
/-! SUPPORT. A number written out is read back. -/

namespace Sys2Proof.Machine

theorem digitChar {k : Nat} (h : k < 10) : isDigit (Char.ofNat (48 + k)) = true ∧ digitVal (Char.ofNat (48 + k)) = k := by
  interval_cases k <;> decide

/-- The digits of n in front of acc: digits all, at least one, and read as n followed by acc. -/
theorem digitsAux_reads (f n : Nat) (acc : Text) (h : n < 10 ^ (f + 1)) (ha : acc.all isDigit = true) :
    digitsAux (f + 1) n acc ≠ [] ∧ (digitsAux (f + 1) n acc).all isDigit = true ∧
      (digitsAux (f + 1) n acc).foldl (fun x c => 10 * x + digitVal c) 0 = acc.foldl (fun x c => 10 * x + digitVal c) n := by
  have hd := digitChar (Nat.mod_lt n (by decide : 0 < 10))
  induction f generalizing n acc with
  | zero =>
    rw [digitsAux, if_pos (by omega)]
    refine ⟨by simp, by simp [hd.1, ha], ?_⟩
    rw [List.foldl_cons, hd.2]; congr 1; omega
  | succ f ih =>
    rw [digitsAux]
    by_cases hn : n < 10
    · rw [if_pos hn]
      refine ⟨by simp, by simp [hd.1, ha], ?_⟩
      rw [List.foldl_cons, hd.2]; congr 1; omega
    · rw [if_neg hn]
      have := ih (n / 10) (Char.ofNat (48 + n % 10) :: acc) (by rw [Nat.pow_succ] at h; omega) (by simp [hd.1, ha])
        (digitChar (Nat.mod_lt _ (by decide)))
      refine ⟨this.1, this.2.1, this.2.2.trans ?_⟩
      rw [List.foldl_cons, hd.2]; congr 1; omega

theorem readNat_tNat {n : Nat} (h : n < 10 ^ 40) : readNat (tNat n) = some n := by
  have h' : tNat n ≠ [] ∧ (tNat n).all isDigit = true ∧ (tNat n).foldl (fun x c => 10 * x + digitVal c) 0 = n :=
    digitsAux_reads 39 n [] h rfl
  rw [readNat, if_pos ⟨h'.1, h'.2.1⟩, h'.2.2]

theorem readInt_tNat {n : Nat} (h : n < 10 ^ 40) : readInt (tNat n) = some (n : Int) := by
  have hd := (digitsAux_reads 39 n [] h rfl).2.1
  unfold readInt
  split
  · rename_i t ht; rw [show digitsAux 40 n [] = '-' :: t from ht] at hd; simp [isDigit] at hd
  · rw [readNat_tNat h]; rfl

theorem readRange_tNat {lo hi n : Nat} (h1 : lo ≤ n) (h2 : n ≤ hi) (h : n < 10 ^ 40) : readRange lo hi (tNat n) = some n := by
  simp [readRange, readNat_tNat h, h1, h2]

end Sys2Proof.Machine
end

