-- ==== Sys2Proof/Laws/ZeroFrames.lean ====
section
/-! SUPPORT. What each shared operation leaves alone of the zero unit, the active record and the lane. -/

namespace Sys2Proof.Machine

@[simp] theorem joinReplies_zero (r : Text) (d : Device) : ZeroSame (joinReplies r d) d := by
  unfold joinReplies; split <;> simp [ZeroSame]

@[simp] theorem reply_zero (lead : Char) (tag : Text) (fields : List Text) (d : Device) :
    ZeroSame (reply lead tag fields d) d := joinReplies_zero _ d

@[simp] theorem answer_zero (t : Tag) (fields : List Text) (d : Device) : ZeroSame (answer t fields d) d := reply_zero _ _ _ d

@[simp] theorem refuse_zero (t : Tag) (c : Code) (d : Device) : ZeroSame (refuse t c d) d := reply_zero _ _ _ d

@[simp] theorem sendLong_zero (lead : Char) (tag : Text) (fields : List Text) (d : Device) :
    ZeroSame (sendLong lead tag fields d) d := ⟨rfl, rfl, rfl⟩

@[simp] theorem setStage_zero (st : Stage) (d : Device) : ZeroSame (setStage st d) d := ⟨rfl, rfl, rfl⟩

@[simp] theorem accept_zero (t : Tag) (st : Stage) (d : Device) : ZeroSame (accept t st d) d := ⟨rfl, rfl, rfl⟩

@[simp] theorem complete_zero (fields : List Text) (d : Device) : ZeroSame (complete fields d) d := ⟨rfl, rfl, rfl⟩

@[simp] theorem failWith_zero (c : Code) (detail : List Text) (d : Device) : ZeroSame (failWith c detail d) d := ⟨rfl, rfl, rfl⟩

@[simp] theorem raise_zero (c : Notice) (d : Device) : ZeroSame (raise c d) d := by
  unfold raise; split <;> simp [ZeroSame]

@[simp] theorem advance_zero (t : Nat) (d : Device) : ZeroSame (advance t d) d := ⟨rfl, rfl, rfl⟩

@[simp] theorem startWrite_zero (d : Device) : ZeroSame (startWrite d) d := by
  unfold startWrite; repeat' split
  all_goals simp [ZeroSame]

@[simp] theorem request_zero (r : WriteReq) (d : Device) : ZeroSame (request r d) d := by simp [request, ZeroSame]

@[simp] theorem requestStatus_zero (nv : NvStore) (rec : StatusRec) (forLong : Bool) (d : Device) :
    ZeroSame (requestStatus nv rec forLong d) d := by
  unfold requestStatus; split <;> simp [ZeroSame]

@[simp] theorem appendRefused_zero (nv : NvStore) (d : Device) : ZeroSame (appendRefused nv d) d := by
  unfold appendRefused; dsimp only; repeat' split
  all_goals simp [ZeroSame]

@[simp] theorem append_zero (nv : NvStore) (src : Requester) (body : AuditBody) (counter : Option Nat) (d : Device) :
    ZeroSame (append nv src body counter d) d := by
  unfold append; split <;> simp [ZeroSame]

@[simp] theorem requestDiscard_zero (nv : NvStore) (d : Device) : ZeroSame (requestDiscard nv d) d := by
  unfold requestDiscard; split <;> simp [ZeroSame]

@[simp] theorem submitHeld_zero (nv : NvStore) (d : Device) (x2 : HeldReq) : ZeroSame (submitHeld nv d x2) d := by
  unfold submitHeld; split <;> simp [ZeroSame]

@[simp] theorem releaseHeld_zero (nv : NvStore) (d : Device) : ZeroSame (releaseHeld nv d) d := by
  unfold releaseHeld
  exact .foldl (fun d x => by simp [ZeroSame]) _ _

@[simp] theorem syncOwed_zero (d : Device) : ZeroSame (syncOwed d) d := ⟨rfl, rfl, rfl⟩

@[simp] theorem requestFreeing_zero (nv : NvStore) (x1 : Nat) (x2 : Device) : ZeroSame (requestFreeing nv x1 x2) x2 := by
  induction x1 generalizing x2 with
  | zero => exact ⟨rfl, rfl, rfl⟩
  | succ n ih =>
    unfold requestFreeing; repeat' split
    all_goals simp [ih, ZeroSame]

@[simp] theorem requestOwed_zero (nv : NvStore) (x1 : Nat) (x2 : Device) : ZeroSame (requestOwed nv x1 x2) x2 := by
  induction x1 generalizing x2 with
  | zero => exact ⟨rfl, rfl, rfl⟩
  | succ n ih =>
    unfold requestOwed; repeat' split
    all_goals simp [ih, ZeroSame]

@[simp] theorem requestAttachments_zero (nv : NvStore) (d : Device) :
    ZeroSame (requestAttachments nv d) d := by simp [requestAttachments, ZeroSame]

@[simp] theorem dropAttachment_zero (visit : Nat) (d : Device) : ZeroSame (dropAttachment visit d) d := ⟨rfl, rfl, rfl⟩

@[simp] theorem requestJournal_zero (rec : JournalRec) (d : Device) :
    ZeroSame (requestJournal rec d) d := by simp [requestJournal, ZeroSame]

@[simp] theorem makeOwn_zero (nv : NvStore) (x1 : Draft) (d : Device) : ZeroSame (makeOwn nv x1 d) d := by simp [makeOwn, ZeroSame]

@[simp] theorem makeRecord_zero (nv : NvStore) (x1 : Draft) (d : Device) : ZeroSame (makeRecord nv x1 d) d := by
  unfold makeRecord; split <;> simp [ZeroSame]

@[simp] theorem beginAxleWait_zero (x0 : Draft) (passage : Nat) (d : Device) : ZeroSame (beginAxleWait x0 passage d) d := ⟨rfl, rfl, rfl⟩

@[simp] theorem endAxleWait_zero (nv : NvStore) (d : Device) : ZeroSame (endAxleWait nv d) d := by
  unfold endAxleWait; split <;> simp [ZeroSame]

@[simp] theorem issue_zero (nv : NvStore) (x1 : Draft) (passage : Option Nat) (d : Device) : ZeroSame (issue nv x1 passage d) d := by
  unfold issue; split <;> simp [ZeroSame]

@[simp] theorem issueTicket_zero (nv : NvStore) (v : VisitRec) (w : Weighing) (d : Device) : ZeroSame (issueTicket nv v w d) d := by
  unfold issueTicket; repeat' split
  all_goals simp [ZeroSame]

@[simp] theorem issueOnePass_zero (nv : NvStore) (ref : Text) (t : TareEntry) (w : Weighing) (d : Device) :
    ZeroSame (issueOnePass nv ref t w d) d := by simp [issueOnePass, ZeroSame]

@[simp] theorem issueGross_zero (nv : NvStore) (ref : Text) (w : Weighing) (d : Device) :
    ZeroSame (issueGross nv ref w d) d := by simp [issueGross, ZeroSame]

@[simp] theorem passageClosed_zero (nv : NvStore) (n : Nat) (d : Device) : ZeroSame (passageClosed nv n d) d := by
  unfold passageClosed; dsimp only; repeat' split
  all_goals simp [ZeroSame]

@[simp] theorem requestFree_zero (nv : NvStore) (x1 : Draft) (rec : JournalRec) (slot : Nat) (second : Bool) (d : Device) :
    ZeroSame (requestFree nv x1 rec slot second d) d := by
  unfold requestFree; split <;> simp [ZeroSame]

@[simp] theorem releaseFree_zero (nv : NvStore) (d : Device) : ZeroSame (releaseFree nv d) d := by
  unfold releaseFree; split <;> simp [ZeroSame]

@[simp] theorem freeVisitOf_zero (nv : NvStore) (x1 : Draft) (rec : JournalRec) (d : Device) : ZeroSame (freeVisitOf nv x1 rec d) d := by
  unfold freeVisitOf; dsimp only; repeat' split
  all_goals simp [ZeroSame]

@[simp] theorem raiseJournal_zero (nv x1 : NvStore) (d : Device) : ZeroSame (raiseJournal nv x1 d) d := by
  unfold raiseJournal; dsimp only; repeat' split
  all_goals simp [ZeroSame]

@[simp] theorem openVisit_zero (nv : NvStore) (ref : Text) (dir : Direction) (w : Weighing) (d : Device) :
    ZeroSame (openVisit nv ref dir w d) d := by
  unfold openVisit; split <;> simp [ZeroSame]

@[simp] theorem storeTare_zero (nv : NvStore) (t : Tag) (e : TareEntry) (d : Device) : ZeroSame (storeTare nv t e d) d := by
  unfold storeTare; split <;> simp [ZeroSame]

@[simp] theorem storeStaticTare_zero (nv : NvStore) (ref : Text) (days : Nat) (w : Weighing) (d : Device) :
    ZeroSame (storeStaticTare nv ref days w d) d := by
  unfold storeStaticTare; split <;> simp [ZeroSame]

@[simp] theorem addPoint_zero (x0 : Nat) (w : Weighing) (d : Device) : ZeroSame (addPoint x0 w d) d := by
  unfold addPoint; split <;> simp [ZeroSame]

@[simp] theorem captureYields_zero (nv : NvStore) (cmd : CapCmd) (w : Weighing) (d : Device) : ZeroSame (captureYields nv cmd w d) d := by
  unfold captureYields; repeat' split
  all_goals simp [ZeroSame]

@[simp] theorem laneWaits_zero (d : Device) : ZeroSame (laneWaits d) d := by
  unfold laneWaits; dsimp only; repeat' split
  all_goals simp [ZeroSame]

@[simp] theorem evalTimers_zero (t : Nat) (d : Device) : ZeroSame (evalTimers t d) d := ⟨rfl, rfl, rfl⟩

@[simp] theorem hitTimers_zero (t : Nat) (d : Device) : ZeroSame (hitTimers t d) d := ⟨rfl, rfl, rfl⟩

@[simp] theorem stopSettle_zero (d : Device) : ZeroSame (stopSettle d) d := ⟨rfl, rfl, rfl⟩

@[simp] theorem openPassage_zero (cause : OpenCause) (t : Nat) (d : Device) : ZeroSame (openPassage cause t d) d := ⟨rfl, rfl, rfl⟩

@[simp] theorem pushHistory_zero (p : Passage) (d : Device) : ZeroSame (pushHistory p d) d := ⟨rfl, rfl, rfl⟩

@[simp] theorem closePassage_zero (nv : NvStore) (cause : CloseCause) (t : Nat) (d : Device) : ZeroSame (closePassage nv cause t d) d := by
  unfold closePassage; split <;> simp [ZeroSame]

@[simp] theorem pushRing_zero (w : Weighing) (d : Device) : ZeroSame (pushRing w d) d := by
  unfold pushRing; split <;> simp [ZeroSame]

@[simp] theorem handHit_zero (strip : Strip) (t : Nat) (d : Device) : ZeroSame (handHit strip t d) d := by
  unfold handHit; split <;> simp [ZeroSame]

@[simp] theorem beamEndsCapture_zero (d : Device) : ZeroSame (beamEndsCapture d) d := by
  unfold beamEndsCapture; split <;> simp [ZeroSame]

@[simp] theorem captureSlots_zero (before : Option WeightRecord) (wr : WeightRecord) (d : Device) :
    ZeroSame (captureSlots before wr d) d := by
  unfold captureSlots; repeat' split
  all_goals simp [ZeroSame]

@[simp] theorem captureStable_zero (nv : NvStore) (r : CalRecord) (wr : WeightRecord) (d : Device) :
    ZeroSame (captureStable nv r wr d) d := by
  unfold captureStable; repeat' split
  all_goals simp [ZeroSame]

@[simp] theorem axuRecord_zero (wr : WeightRecord) (d : Device) : ZeroSame (axuRecord wr d) d := by
  unfold axuRecord; split <;> simp [ZeroSame]

@[simp] theorem csuCommit_zero (d : Device) : ZeroSame (csuCommit d) d := ⟨rfl, rfl, rfl⟩

@[simp] theorem storeSlot_zero (i : SlotId) (s : Slot) (d : Device) : ZeroSame (storeSlot i s d) d := ⟨rfl, rfl, rfl⟩

@[simp] theorem requestMismatch_zero (nv : NvStore) (i : SlotId) (d : Device) :
    ZeroSame (requestMismatch nv i d) d := by simp [requestMismatch, ZeroSame]

@[simp] theorem enterMismatch_zero (nv : NvStore) (i : SlotId) (d : Device) : ZeroSame (enterMismatch nv i d) d := by
  unfold enterMismatch; split <;> simp [ZeroSame]

@[simp] theorem putSlot_zero (nv : NvStore) (i : SlotId) (s : Slot) (d : Device) : ZeroSame (putSlot nv i s d) d := by
  unfold putSlot; dsimp only; repeat' split
  all_goals simp [ZeroSame]

@[simp] theorem mapSlots_zero (nv : NvStore) (f : SlotId → Slot → Slot) (is : List SlotId) (d : Device) :
    ZeroSame (mapSlots nv f is d) d := by
  unfold mapSlots; exact .foldl (fun d i => by simp [ZeroSame]) is d

@[simp] theorem clcCommit_zero (nv : NvStore) (d : Device) : ZeroSame (clcCommit nv d) d := by
  unfold clcCommit; simp [ZeroSame]

@[simp] theorem clcNewHold_zero (nv : NvStore) (d : Device) : ZeroSame (clcNewHold nv d) d := by
  unfold clcNewHold; simp [ZeroSame]

@[simp] theorem setWork_zero (w : WorkCopy) (d : Device) : ZeroSame (setWork w d) d := ⟨rfl, rfl, rfl⟩

@[simp] theorem captureZero_zero (sr : SampleRecord) (win : List (Slots (Option Int))) (w : WorkCopy) (d : Device) :
    ZeroSame (captureZero sr win w d) d := ⟨rfl, rfl, rfl⟩

@[simp] theorem captureSpan_zero (m : Ix) (x1 : Nat) (sr : SampleRecord) (win : List (Slots (Option Int))) (w : WorkCopy) (d : Device) :
    ZeroSame (captureSpan m x1 sr win w d) d := by
  unfold captureSpan; dsimp only; repeat' split
  all_goals simp [ZeroSame]

@[simp] theorem mstRecord_zero (sr : SampleRecord) (d : Device) : ZeroSame (mstRecord sr d) d := by
  unfold mstRecord; dsimp only; repeat' split
  all_goals simp [ZeroSame]

@[simp] theorem discardRun_zero (nv : NvStore) (d : Device) : ZeroSame (discardRun nv d) d := by simp [discardRun, ZeroSame]

@[simp] theorem checkOverdue_zero (nv : NvStore) (d : Device) : ZeroSame (checkOverdue nv d) d := by
  unfold checkOverdue; repeat' split
  all_goals simp [ZeroSame]

@[simp] theorem storeLine_zero (l : Ix) (x1 : Line) (d : Device) : ZeroSame (storeLine l x1 d) d := ⟨rfl, rfl, rfl⟩

@[simp] theorem missOutcome_zero (nv : NvStore) (o : SlotOutcome) (i : SlotId) (d : Device) :
    ZeroSame (missOutcome nv o i d) d := by simp [missOutcome, ZeroSame]

@[simp] theorem lateSlots_zero (nv : NvStore) (d : Device) : ZeroSame (lateSlots nv d) d := by
  unfold lateSlots
  exact .foldl (fun d x => by simp [ZeroSame]) _ _

@[simp] theorem idleLines_zero (d : Device) : ZeroSame (idleLines d) d := ⟨rfl, rfl, rfl⟩

@[simp] theorem silentSlots_zero (nv : NvStore) (d : Device) : ZeroSame (silentSlots nv d) d := by
  unfold silentSlots
  exact .foldl (fun d x => by simp [ZeroSame]) _ _

@[simp] theorem pollPulse_zero (l : Ix) (x1 : NvStore) (d : Device) : ZeroSame (pollPulse l x1 d) d := by
  unfold pollPulse; dsimp only; repeat' split
  all_goals simp [ZeroSame]

@[simp] theorem waitedMiss_zero (nv : NvStore) (o : SlotOutcome) (i : SlotId) (d : Device) : ZeroSame (waitedMiss nv o i d) d := by
  unfold waitedMiss; split <;> simp [ZeroSame]

@[simp] theorem badFrame_zero (l x1 : Ix) (nv : NvStore) (d : Device) : ZeroSame (badFrame l x1 nv d) d := by simp [badFrame, ZeroSame]

@[simp] theorem validFrame_zero (nv : NvStore) (i : SlotId) (f : Frame) (d : Device) : ZeroSame (validFrame nv i f d) d := by
  unfold validFrame; split <;> simp [ZeroSame]

@[simp] theorem frameEdgeTimeout_zero (l : Ix) (nv : NvStore) (d : Device) : ZeroSame (frameEdgeTimeout l nv d) d := by
  unfold frameEdgeTimeout; repeat' split
  all_goals simp [ZeroSame]

@[simp] theorem badFrameEdge_zero (l : Ix) (ref : Nat) (syms : List Nat) (nv : NvStore) (d : Device) :
    ZeroSame (badFrameEdge l ref syms nv d) d := by
  unfold badFrameEdge; repeat' split
  all_goals simp [ZeroSame]

@[simp] theorem shortedSlot_zero (nv : NvStore) (l : Ix) (d : Device) : ZeroSame (shortedSlot nv l d) d := by
  unfold shortedSlot; split <;> simp [ZeroSame]

@[simp] theorem faultLine_zero (nv : NvStore) (l : Ix) (d : Device) : ZeroSame (faultLine nv l d) d := by
  unfold faultLine; simp [ZeroSame]

@[simp] theorem shortRetry_zero (l : Ix) (x1 : NvStore) (d : Device) : ZeroSame (shortRetry l x1 d) d := by
  unfold shortRetry; dsimp only; repeat' split
  all_goals simp [ZeroSame]

@[simp] theorem lineRecovery_zero (l : Ix) (nv : NvStore) (d : Device) : ZeroSame (lineRecovery l nv d) d := by
  unfold lineRecovery; dsimp only; split <;> simp [ZeroSame]

@[simp] theorem storeBeam_zero (b : Beam) (x1 : Input) (d : Device) : ZeroSame (storeBeam b x1 d) d := by
  unfold storeBeam; split <;> simp [ZeroSame]

@[simp] theorem beamLevelChange_zero (b : Beam) (blocked : Bool) (t : Nat) (x3 : NvStore) (d : Device) :
    ZeroSame (beamLevelChange b blocked t x3 d) d := by
  unfold beamLevelChange; split <;> simp [ZeroSame]

@[simp] theorem storeHit_zero (strip : Strip) (t : Nat) (d : Device) : ZeroSame (storeHit strip t d) d := by
  unfold storeHit; split <;> simp [ZeroSame]

@[simp] theorem lockLevelChange_zero (isOpen : Bool) (t : Nat) (x2 : NvStore) (d : Device) :
    ZeroSame (lockLevelChange isOpen t x2 d) d := by
  unfold lockLevelChange; split <;> simp [ZeroSame]

@[simp] theorem lockCloses_zero (nv : NvStore) (d : Device) : ZeroSame (lockCloses nv d) d := by
  unfold lockCloses; repeat' split
  all_goals simp [ZeroSame]

@[simp] theorem lockPositionChange_zero (nv : NvStore) (d : Device) : ZeroSame (lockPositionChange nv d) d := by
  unfold lockPositionChange; dsimp only; repeat' split
  all_goals simp [ZeroSame]

@[simp] theorem zerDeadline_zero (x0 : NvStore) (d : Device) : ZeroSame (zerDeadline x0 d) d := by
  unfold zerDeadline; split <;> simp [ZeroSame]

@[simp] theorem captureDeadline_zero (x0 : NvStore) (d : Device) : ZeroSame (captureDeadline x0 d) d := by
  unfold captureDeadline; split <;> simp [ZeroSame]

@[simp] theorem runCaptureDeadline_zero (x0 : NvStore) (d : Device) : ZeroSame (runCaptureDeadline x0 d) d := by
  unfold runCaptureDeadline; split <;> simp [ZeroSame]

@[simp] theorem axleWaitExpires_zero (nv : NvStore) (d : Device) : ZeroSame (axleWaitExpires nv d) d := by
  unfold axleWaitExpires; split <;> simp [ZeroSame]

@[simp] theorem putVisit_zero (slot : Nat) (v : VisitRec) (d : Device) : ZeroSame (putVisit slot v d) d := ⟨rfl, rfl, rfl⟩

@[simp] theorem eraseVisit_zero (slot : Nat) (d : Device) : ZeroSame (eraseVisit slot d) d := ⟨rfl, rfl, rfl⟩

@[simp] theorem putTare_zero (slot : Nat) (c : Option TareEntry) (d : Device) : ZeroSame (putTare slot c d) d := by
  unfold putTare; split <;> simp [ZeroSame]

@[simp] theorem tareDone_zero (ok : Bool) (slot : Nat) (c : Option TareEntry) (ref : Text) (replaced : Bool) (d : Device) :
    ZeroSame (tareDone ok slot c ref replaced d) d := by
  unfold tareDone; split <;> simp [ZeroSame]

@[simp] theorem wg1Done_zero (nv : NvStore) (ok : Bool) (slot : Nat) (v : VisitRec) (d : Device) : ZeroSame (wg1Done nv ok slot v d) d := by
  unfold wg1Done; split <;> simp [ZeroSame]

@[simp] theorem owedTornDone_zero (nv x1 : NvStore) (ok : Bool) (x3 : Draft) (d : Device) : ZeroSame (owedTornDone nv x1 ok x3 d) d := by
  unfold owedTornDone; split <;> simp [ZeroSame]

@[simp] theorem recordDone_zero (nv x1 : NvStore) (ok : Bool) (x3 : Draft) (rec : JournalRec) (d : Device) :
    ZeroSame (recordDone nv x1 ok x3 rec d) d := by
  unfold recordDone; split <;> simp [ZeroSame]

@[simp] theorem tornDone_zero (nv x1 : NvStore) (ok : Bool) (x3 : Draft) (n : Nat) (d : Device) :
    ZeroSame (tornDone nv x1 ok x3 n d) d := by
  unfold tornDone; split <;> simp [ZeroSame]

@[simp] theorem freeingDone_zero (nv : NvStore) (ok : Bool) (x2 : Draft) (rec : JournalRec) (slot : Nat) (second : Bool) (d : Device) :
    ZeroSame (freeingDone nv ok x2 rec slot second d) d := by
  unfold freeingDone; repeat' split
  all_goals simp [ZeroSame]

@[simp] theorem exportDone_zero (nv : NvStore) (ok : Bool) (n : Nat) (d : Device) : ZeroSame (exportDone nv ok n d) d := by
  unfold exportDone; split <;> simp [ZeroSame]

@[simp] theorem ccmAuditDone_zero (nv : NvStore) (ok more : Bool) (count time : Nat) (lockClosed : Bool) (d : Device) :
    ZeroSame (ccmAuditDone nv ok more count time lockClosed d) d := by
  unfold ccmAuditDone; repeat' split
  all_goals simp [ZeroSame]

@[simp] theorem vcmAuditDone_zero (nv : NvStore) (ok pass : Bool) (time number : Nat) (d : Device) :
    ZeroSame (vcmAuditDone nv ok pass time number d) d := by
  unfold vcmAuditDone; split <;> simp [ZeroSame]

@[simp] theorem longStatusDone_zero (nv : NvStore) (ok : Bool) (d : Device) : ZeroSame (longStatusDone nv ok d) d := by
  unfold longStatusDone; repeat' split
  all_goals simp [ZeroSame]

@[simp] theorem mismatchDone_zero (nv : NvStore) (i : SlotId) (d : Device) : ZeroSame (mismatchDone nv i d) d := by
  unfold mismatchDone; dsimp only; repeat' split
  all_goals simp [ZeroSame]

@[simp] theorem attachDone_zero (nv : NvStore) (ok : Bool) (w : NvWrite) (d : Device) : ZeroSame (attachDone nv ok w d) d := by
  unfold attachDone; split <;> simp [ZeroSame]

@[simp] theorem startFreeDone_zero (nv : NvStore) (ok : Bool) (r : FreeReq) (d : Device) : ZeroSame (startFreeDone nv ok r d) d := by
  unfold startFreeDone; split <;> simp [ZeroSame]

@[simp] theorem doWtr_zero (fields : List Text) (x1 : NvStore) (d : Device) : ZeroSame (doWtr fields x1 d) d := by
  unfold doWtr; repeat' split
  all_goals simp [ZeroSame]

@[simp] theorem doSta_zero (fields : List Text) (x1 : NvStore) (d : Device) : ZeroSame (doSta fields x1 d) d := by
  unfold doSta noFields; split <;> simp [ZeroSame]

@[simp] theorem clearCounts_zero (d : Device) : ZeroSame (clearCounts d) d := ⟨rfl, rfl, rfl⟩

@[simp] theorem doCel_zero (fields : List Text) (x1 : NvStore) (d : Device) : ZeroSame (doCel fields x1 d) d := by
  unfold doCel; repeat' split
  all_goals simp [ZeroSame]

@[simp] theorem doPas_zero (fields : List Text) (x1 : NvStore) (d : Device) : ZeroSame (doPas fields x1 d) d := by
  unfold doPas; repeat' split
  all_goals simp [ZeroSame]

@[simp] theorem doVis_zero (fields : List Text) (x1 : NvStore) (d : Device) : ZeroSame (doVis fields x1 d) d := by
  unfold doVis; repeat' split
  all_goals simp [ZeroSame]

@[simp] theorem doTrl_zero (fields : List Text) (x1 : NvStore) (d : Device) : ZeroSame (doTrl fields x1 d) d := by
  unfold doTrl; repeat' split
  all_goals simp [ZeroSame]

@[simp] theorem doJst_zero (fields : List Text) (nv : NvStore) (d : Device) : ZeroSame (doJst fields nv d) d := by
  unfold doJst noFields; split <;> simp [ZeroSame]

@[simp] theorem countReadFailures_zero (k : Nat) (d : Device) : ZeroSame (countReadFailures k d) d := ⟨rfl, rfl, rfl⟩

@[simp] theorem answerRead_zero (nv : NvStore) (r : AudRead) (d : Device) : ZeroSame (answerRead nv r d) d :=
  (countReadFailures_zero _ _).trans (answer_zero _ _ d)

@[simp] theorem releaseReply_zero (nv : NvStore) (d : Device) (r : HeldReply) : ZeroSame (releaseReply nv d r) d := by
  cases r <;> simp [releaseReply, ZeroSame]

@[simp] theorem auditReads_zero (nv : NvStore) (d : Device) : ZeroSame (auditReads nv d) d :=
  .foldl (releaseReply_zero nv) _ _

@[simp] theorem journalEnded_zero (w : NvWrite) (d : Device) : ZeroSame (journalEnded w d) d := by
  unfold journalEnded; split <;> exact ⟨rfl, rfl, rfl⟩

@[simp] theorem audRange_zero (nv : NvStore) (x1 b : Nat) (d : Device) : ZeroSame (audRange nv x1 b d) d := by
  unfold audRange; dsimp only; repeat' split
  all_goals simp [ZeroSame]

@[simp] theorem doAud_zero (fields : List Text) (nv : NvStore) (d : Device) : ZeroSame (doAud fields nv d) d := by
  unfold doAud; repeat' split
  all_goals simp [ZeroSame]

@[simp] theorem doMst_zero (fields : List Text) (x1 : NvStore) (d : Device) : ZeroSame (doMst fields x1 d) d := by
  unfold doMst noFields; split <;> simp [ZeroSame]

@[simp] theorem doGet_zero (fields : List Text) (x1 : NvStore) (d : Device) : ZeroSame (doGet fields x1 d) d := by
  unfold doGet; repeat' split
  all_goals simp [ZeroSame]

@[simp] theorem clearReport_zero (d : Device) : ZeroSame (clearReport d) d := ⟨rfl, rfl, rfl⟩

@[simp] theorem doGetNvc_zero (fields : List Text) (x1 : NvStore) (d : Device) : ZeroSame (doGetNvc fields x1 d) d := by
  unfold doGetNvc; repeat' split
  all_goals simp [ZeroSame]

@[simp] theorem setClock_zero (nv : NvStore) (t : Nat) (d : Device) : ZeroSame (setClock nv t d) d := by simp [setClock, ZeroSame]

@[simp] theorem doClk_zero (fields : List Text) (nv : NvStore) (d : Device) : ZeroSame (doClk fields nv d) d := by
  unfold doClk; repeat' split
  all_goals simp [ZeroSame]

@[simp] theorem answerLights_zero (d : Device) : ZeroSame (answerLights d) d := answer_zero _ _ d

@[simp] theorem doLit_zero (fields : List Text) (x1 : NvStore) (d : Device) : ZeroSame (doLit fields x1 d) d := by
  unfold doLit; repeat' split
  all_goals simp [ZeroSame]

@[simp] theorem doNte_zero (fields : List Text) (x1 : NvStore) (d : Device) : ZeroSame (doNte fields x1 d) d := by
  unfold doNte; split <;> simp [ZeroSame]

@[simp] theorem stopStream_zero (d : Device) : ZeroSame (stopStream d) d := by
  unfold stopStream; split <;> simp [ZeroSame]

@[simp] theorem abort_zero (nv : NvStore) (d : Device) : ZeroSame (abort nv d) d := by
  unfold abort; split <;> simp [ZeroSame]

@[simp] theorem doAbt_zero (fields : List Text) (nv : NvStore) (d : Device) : ZeroSame (doAbt fields nv d) d := by
  unfold doAbt noFields; split
  · dsimp only; split <;> simp [ZeroSame]
  · simp [ZeroSame]

@[simp] theorem runEndsZer_zero (d : Device) : ZeroSame (runEndsZer d) d := by
  unfold runEndsZer; split <;> simp [ZeroSame]

@[simp] theorem openRun_zero (d : Device) : ZeroSame (openRun d) d := by simp [openRun, ZeroSame]

@[simp] theorem doCop_zero (fields : List Text) (x1 : NvStore) (d : Device) : ZeroSame (doCop fields x1 d) d := by
  unfold doCop guarded; split <;> simp [ZeroSame]

@[simp] theorem doCpaWork_zero (fields : List Text) (w : WorkCopy) (d : Device) : ZeroSame (doCpaWork fields w d) d := by
  unfold doCpaWork; repeat' split
  all_goals simp [ZeroSame]

@[simp] theorem doCpa_zero (fields : List Text) (x1 : NvStore) (d : Device) : ZeroSame (doCpa fields x1 d) d := by
  unfold doCpa; repeat' split
  all_goals simp [ZeroSame]

@[simp] theorem doCdx_zero (fields : List Text) (nv : NvStore) (d : Device) : ZeroSame (doCdx fields nv d) d := by
  unfold doCdx guarded; split <;> simp [ZeroSame]

@[simp] theorem openVerification_zero (d : Device) : ZeroSame (openVerification d) d := by simp [openVerification, ZeroSame]

@[simp] theorem doVop_zero (fields : List Text) (x1 : NvStore) (d : Device) : ZeroSame (doVop fields x1 d) d := by
  unfold doVop guarded; split <;> simp [ZeroSame]

@[simp] theorem doZer_zero (fields : List Text) (x1 : NvStore) (d : Device) : ZeroSame (doZer fields x1 d) d := by
  unfold doZer guarded; split <;> simp [ZeroSame]

@[simp] theorem beginCapture_zero (t : Tag) (cmd : CapCmd) (d : Device) : ZeroSame (beginCapture t cmd d) d := ⟨rfl, rfl, rfl⟩

@[simp] theorem doWg1_zero (fields : List Text) (x1 : NvStore) (d : Device) : ZeroSame (doWg1 fields x1 d) d := by
  unfold doWg1 guarded; repeat' split
  all_goals simp [ZeroSame]

@[simp] theorem doTrs_zero (fields : List Text) (x1 : NvStore) (d : Device) : ZeroSame (doTrs fields x1 d) d := by
  unfold doTrs guarded; repeat' split
  all_goals simp [ZeroSame]

@[simp] theorem doTrk_zero (fields : List Text) (nv : NvStore) (d : Device) : ZeroSame (doTrk fields nv d) d := by
  unfold doTrk guarded; repeat' split
  all_goals simp [ZeroSame]

@[simp] theorem dropTare_zero (nv : NvStore) (slot : Nat) (ref : Text) (d : Device) :
    ZeroSame (dropTare nv slot ref d) d := by simp [dropTare, ZeroSame]

@[simp] theorem doTrd_zero (fields : List Text) (nv : NvStore) (d : Device) : ZeroSame (doTrd fields nv d) d := by
  unfold doTrd; repeat' split
  all_goals simp [ZeroSame]

@[simp] theorem doWg2_zero (fields : List Text) (nv : NvStore) (d : Device) : ZeroSame (doWg2 fields nv d) d := by
  unfold doWg2 guarded; repeat' split
  all_goals simp [ZeroSame]

@[simp] theorem doWgs_zero (fields : List Text) (nv : NvStore) (d : Device) : ZeroSame (doWgs fields nv d) d := by
  unfold doWgs guarded; repeat' split
  all_goals simp [ZeroSame]

@[simp] theorem doWgg_zero (fields : List Text) (nv : NvStore) (d : Device) : ZeroSame (doWgg fields nv d) d := by
  unfold doWgg guarded; repeat' split
  all_goals simp [ZeroSame]

@[simp] theorem doVcl_zero (fields : List Text) (nv : NvStore) (d : Device) : ZeroSame (doVcl fields nv d) d := by
  unfold doVcl guarded; repeat' split
  all_goals simp [ZeroSame]

@[simp] theorem doVod_zero (fields : List Text) (nv : NvStore) (d : Device) : ZeroSame (doVod fields nv d) d := by
  unfold doVod guarded; repeat' split
  all_goals simp [ZeroSame]

@[simp] theorem moveExport_zero (nv : NvStore) (n : Nat) (d : Device) : ZeroSame (moveExport nv n d) d := by
  unfold moveExport; split <;> simp [ZeroSame]

@[simp] theorem doJex_zero (fields : List Text) (nv : NvStore) (d : Device) : ZeroSame (doJex fields nv d) d := by
  unfold doJex; repeat' split
  all_goals simp [ZeroSame]

@[simp] theorem beginStream_zero (t : Tag) (start count : Nat) (d : Device) : ZeroSame (beginStream t start count d) d := ⟨rfl, rfl, rfl⟩

@[simp] theorem doJrd_zero (fields : List Text) (nv : NvStore) (d : Device) : ZeroSame (doJrd fields nv d) d := by
  unfold doJrd; repeat' split
  all_goals simp [ZeroSame]

@[simp] theorem continueStream_zero (nv : NvStore) (cursor count : Nat) (d : Device) : ZeroSame (continueStream nv cursor count d) d := by
  unfold continueStream; repeat' split
  all_goals simp [ZeroSame]

@[simp] theorem doJnx_zero (fields : List Text) (nv : NvStore) (d : Device) : ZeroSame (doJnx fields nv d) d := by
  unfold doJnx; repeat' split
  all_goals simp [ZeroSame]

@[simp] theorem doSet_zero (fields : List Text) (x1 : NvStore) (d : Device) : ZeroSame (doSet fields x1 d) d := by
  unfold doSet; repeat' split
  all_goals simp [ZeroSame]

@[simp] theorem doCze_zero (fields : List Text) (x1 : NvStore) (d : Device) : ZeroSame (doCze fields x1 d) d := by
  unfold doCze guarded; split <;> simp [ZeroSame]

@[simp] theorem doCsp_zero (fields : List Text) (x1 : NvStore) (d : Device) : ZeroSame (doCsp fields x1 d) d := by
  unfold doCsp guarded; repeat' split
  all_goals simp [ZeroSame]

@[simp] theorem appendLong_zero (nv : NvStore) (body : AuditBody) (counter : Nat) (st : Stage) (d : Device) :
    ZeroSame (appendLong nv body counter st d) d := by
  unfold appendLong; split <;> simp [ZeroSame]

@[simp] theorem beginCommit_zero (nv : NvStore) (d : Device) : ZeroSame (beginCommit nv d) d := by simp [beginCommit, ZeroSame]

@[simp] theorem doCcm_zero (fields : List Text) (nv : NvStore) (d : Device) : ZeroSame (doCcm fields nv d) d := by
  unfold doCcm guarded; split <;> simp [ZeroSame]

@[simp] theorem doVpt_zero (fields : List Text) (x1 : NvStore) (d : Device) : ZeroSame (doVpt fields x1 d) d := by
  unfold doVpt guarded; repeat' split
  all_goals simp [ZeroSame]

@[simp] theorem beginClose_zero (nv : NvStore) (d : Device) : ZeroSame (beginClose nv d) d := by simp [beginClose, ZeroSame]

@[simp] theorem doVcm_zero (fields : List Text) (nv : NvStore) (d : Device) : ZeroSame (doVcm fields nv d) d := by
  unfold doVcm guarded; split <;> simp [ZeroSame]

@[simp] theorem canReceived_zero (d : Device) : ZeroSame (canReceived d) d := by simp [canReceived, ZeroSame]

@[simp] theorem takeReceived_zero (b : Byte) (err : Bool) (d : Device) : ZeroSame (takeReceived b err d) d := by
  unfold takeReceived; dsimp only; repeat' split
  all_goals simp [ZeroSame]

@[simp] theorem canCharacter_zero (x0 : NvStore) (d : Device) : ZeroSame (canCharacter x0 d) d := by
  unfold canCharacter; split <;> simp [ZeroSame]

@[simp] theorem rxCharacter_zero (b : Byte) (parityBit stopBit : Bool) (x3 : NvStore) (d : Device) :
    ZeroSame (rxCharacter b parityBit stopBit x3 d) d := by
  unfold rxCharacter; split <;> simp [ZeroSame]

@[simp] theorem recordAssembly_zero (x0 : NvStore) (d : Device) : ZeroSame (recordAssembly x0 d) d := by
  unfold recordAssembly; split <;> simp [ZeroSame]

@[simp] theorem gapTimeout_zero (x0 : NvStore) (d : Device) : ZeroSame (gapTimeout x0 d) d := by
  unfold gapTimeout; split <;> simp [ZeroSame]

@[simp] theorem runCommand_zero (t : Tag) (fields : List Text) (nv : NvStore) (d : Device) : ZeroSame (runCommand t fields nv d) d := by
  have h : ∀ (g : Tag) (body : NvStore → Device → Device),
      (∀ x, (body nv x).zsu = x.zsu ∧ (body nv x).mst.active = x.mst.active ∧ (body nv x).lsv.lane = x.lsv.lane) →
      (command g body nv d).zsu = d.zsu ∧ (command g body nv d).mst.active = d.mst.active ∧ (command g body nv d).lsv.lane = d.lsv.lane := by
    intro g body hb
    unfold command; repeat' split
    all_goals first | exact hb d | simp
  unfold runCommand; repeat' split
  all_goals exact h _ _ fun x => by simp

@[simp] theorem parseRecord_zero (buf : Text) (err ovf : Bool) (nv : NvStore) (d : Device) : ZeroSame (parseRecord buf err ovf nv d) d := by
  unfold parseRecord; repeat' split
  all_goals simp [ZeroSame]

@[simp] theorem recordDispatch_zero (nv : NvStore) (d : Device) : ZeroSame (recordDispatch nv d) d := by
  unfold recordDispatch; dsimp only; repeat' split
  all_goals simp [ZeroSame]

@[simp] theorem startTx_zero (d : Device) : ZeroSame (startTx d) d := ⟨rfl, rfl, rfl⟩

@[simp] theorem freeSlot_zero (d : Device) : ZeroSame (freeSlot d) d := by
  unfold freeSlot; split <;> simp [ZeroSame]

@[simp] theorem ctsChange_zero (asserted : Bool) (x1 : NvStore) (d : Device) : ZeroSame (ctsChange asserted x1 d) d := ⟨rfl, rfl, rfl⟩

@[simp] theorem rateChanged_zero (before : Tx) (d : Device) : ZeroSame (rateChanged before d) d := by
  unfold rateChanged; split <;> simp [ZeroSame]

@[simp] theorem txCharacterSent_zero (x0 : NvStore) (d : Device) : ZeroSame (txCharacterSent x0 d) d := by
  unfold txCharacterSent; split <;> simp [ZeroSame]

@[simp] theorem placeText_zero (r : Text) (notice : Bool) (d : Device) : ZeroSame (placeText r notice d) d := ⟨rfl, rfl, rfl⟩

@[simp] theorem noteRateChange_zero (r : Text) (d : Device) : ZeroSame (noteRateChange r d) d := by
  unfold noteRateChange; split <;> simp [ZeroSame]

@[simp] theorem recordPlacement_zero (x0 : NvStore) (d : Device) : ZeroSame (recordPlacement x0 d) d := by
  unfold recordPlacement; repeat' split
  all_goals simp [ZeroSame]

@[simp] theorem emitNotice_zero (nv : NvStore) (c : Notice) (d : Device) : ZeroSame (emitNotice nv c d) d := ⟨rfl, rfl, rfl⟩

@[simp] theorem noticeEmission_zero (nv : NvStore) (d : Device) : ZeroSame (noticeEmission nv d) d := by
  unfold noticeEmission; repeat' split
  all_goals simp [ZeroSame]

@[simp] theorem endStream_zero (st : Stream) (d : Device) : ZeroSame (endStream st d) d := ⟨rfl, rfl, rfl⟩

@[simp] theorem sendItem_zero (nv : NvStore) (st : Stream) (d : Device) : ZeroSame (sendItem nv st d) d := by
  unfold sendItem; split <;> simp [ZeroSame]

@[simp] theorem streamStep_zero (nv : NvStore) (d : Device) : ZeroSame (streamStep nv d) d := by
  unfold streamStep; repeat' split
  all_goals simp [ZeroSame]

end Sys2Proof.Machine
end

