-- ==== Sys2Proof/Tests/Slice0.lean ====
section
/-! SUPPORT. Tests: the checks of WellFormed, the spec's worked examples, and for each statement a state that meets its
hypotheses. -/

namespace Sys2Proof.Tests

open Sys2Proof.Machine Sys2Proof.Safety

/-! ### States -/

/-- The calibration record of the worked cases: Max 80,000 kg, d 20 kg; one configured slot per line, with slot 1.0 of
02_conditioning_and_summation.md's worked example. -/
def slotA : SlotCal := ⟨true, some 3000000, 24, some 12400, some 200, some 196500, some 2000000, some 3873799⟩
def cal : CalRecord where
  max := 80000
  d := 20
  p := 10
  n := 8
  window := 1000
  band := 2
  vint := 365
  zcal := -1300
  slots := ⟨⟨slotA, SlotCal.fresh, SlotCal.fresh, SlotCal.fresh⟩, Quad.const SlotCal.fresh, Quad.const SlotCal.fresh, Quad.const SlotCal.fresh⟩
  counter := 17
  commitTime := 0

/-- A running part with no calibration record that has sent READY. -/
def bare : Device :=
  { State.reset.dev with
    power := ⟨.run, false⟩
    nvc := { State.reset.dev.nvc with serving := true, clock := some 760000000 }
    ntc := { State.reset.dev.ntc with readySent := true } }

def passage (n : Nat) : Passage :=
  ⟨n, .aHit, some 760000000, 10000, none, none, none, PassFlags.none, [], [], [], [], none, none, false, 0, some 20⟩

/-- A running calibrated part with a vehicle settled on the deck. -/
def onDeck : Device :=
  { bare with
    mst := { bare.mst with active := some cal, counter := 17, state := .calibrated, due := some 9000 }
    zsu := { bare.zsu with set := true, z := some (-1240), zInit := some (-1240) }
    lsv := { bare.lsv with lane := .onDeck, current := some (passage 318), nextPassage := 319 }
    clc := { bare.clc with
      slots := bare.clc.slots.put ⟨.i0, .i0⟩ (Slot.reset .live)
      polled := bare.clc.polled.put ⟨.i0, .i0⟩ true
      cycle := some ⟨4, 40, false⟩ } }

/-- The same with the lane CLEAR. -/
def clearLane : Device := { onDeck with lsv := { onDeck.lsv with lane := .clear, current := none } }

def at_ (d : Device) : State := ⟨d, NvStore.blank, []⟩

/-- The slot 1.0 waits for its reply. -/
def waiting : Device :=
  { onDeck with clc := { onDeck.clc with lines := onDeck.clc.lines.set .i0 ⟨.active, .waiting .i0, some (.poll .i0), false, 0⟩ } }

/-- A device whose long-operation slot holds a tag at a stage. -/
def busy (g : Tag) (st : Stage) (d : Device) : Device := { d with exe := ⟨some g, st⟩ }

def ref1 : Text := ['A', 'B', '1']
def weighing : Weighing := ⟨40540, 20, some 17, some 760000000, some 318, .static⟩
def visit1 : VisitRec := ⟨7, ref1, .receival, some 760000000, weighing, none⟩
def tare1 : TareEntry := ⟨ref1, 15000, .keyed, 20, none, none, some 760000000, 30⟩
def ticket1 : JournalRec := JournalRec.make 1 (.gross ref1 weighing none TicketFlags.none) (some 760000000) (some 17)
def journal1 : NvStore := { NvStore.blank with journal := [(1, .valid ticket1)] }
def work : WorkCopy := { WorkCopy.ofActive cal with max := some 80000 }

/-! ### WellFormed: each check refuses an ill-formed term -/

theorem test_wf_accepts : (Instr.wg1 [ref1, Direction.text .receival]).wf = true := by decide
theorem test_wf_field_character : (Instr.wg1 [['A', ' ', 'B']]).wf = false := by decide
theorem test_wf_empty_field : (Instr.wg1 [[]]).wf = false := by decide
theorem test_wf_record_length : (Instr.set [List.replicate 116 'A']).wf = false := by decide +kernel
theorem test_wf_get_nvc_row : (Instr.get [tNvc]).wf = false := by decide
theorem test_wf_frame_reference : (Instr.replyFrame .i0 0 (List.replicate 8 700)).wf = false := by decide
theorem test_wf_frame_symbols : (Instr.replyFrame .i0 3379 (List.replicate 7 700)).wf = false := by decide
theorem test_wf_bad_frame_symbols : (Instr.badFrame .i0 3379 (List.replicate 9 700)).wf = false := by decide

/-! ### The spec's worked examples -/

/-- 01, worked example "decoding one frame", with the lengths to the nearest 1/64 part tick. -/
def frameSyms : List Nat := [1338, 774, 1213, 1126, 1197, 1056, 704, 1338]
theorem test_frame_decodes : decodeFrame 3379 frameSyms = some ⟨2, false, true, 95861, ⟨false, false, false, false⟩⟩ := by decide
theorem test_frame_symbol_bad : decodeFrame 3379 (frameSyms.set 6 723) = none := by decide
theorem test_raw_negative : rawOfSymbols 15 15 15 3 8 = -200 := by decide
theorem test_raw_warm_up : rawOfSymbols 8 0 0 0 0 = -524288 := by decide

/-- 01, worked example "a serial message". -/
theorem test_side_message : readMessage [false, false, false, true, true, true, false, false, false, false, false, false, false, true,
    true, true, false, true, false, false] = some (1, 3079) := by decide
theorem test_side_temperature : clipTemp 4046 = -50 := by decide

/-- 01, worked example "a dropout and a fault": HOLDING at the limit goes to FAULTED, and the eighth good frame to VERIFYING. -/
theorem test_hold_limit : (stepSlot 3 .silent { Slot.reset .holding with hold := 3 }).state = .faulted := by decide
theorem test_eighth_good : (stepSlot 3 .good { Slot.reset .faulted with run := 7 }).state = .verifying := by decide

/-- 02, worked example "conditioning one sample". -/
theorem test_cell_weight : cellWeight slotA 95861 315 false = (849191, false) := by decide
theorem test_cell_weight_overload : cellWeight slotA 95861 315 true = (4500000, true) := by decide
theorem test_weight_of_gross : weightOf 20 5243586 = 52440 := by decide
theorem test_weight_state : weightState 80000 20 (some 8018000) = .normal ∧ weightState 80000 20 (some 8018001) = .over ∧
    weightState 80000 20 (some (-40000)) = .normal ∧ weightState 80000 20 (some (-40001)) = .under := by decide
/-- 02, worked example "the filter through a cell dropout". -/
theorem test_filter : filtered (some 5242362) [5242390, 5242301, 5242355, 5242362] = some 5242352 := by decide

/-- 03, worked example "initial zero, then tracking". -/
theorem test_track_step : trackStep cal = 10 ∧ trackedZ 10 (-1240) (-1212) (-1240) 320000 = (-1230, false) ∧
    trackedZ 10 (-1220) (-1212) (-1240) 320000 = (-1212, false) := by decide

/-- 05, worked case: axles 1-2 and 3-4. -/
theorem test_axle_spacing : axleSpacing (some ⟨300, 3000⟩) (some ⟨300, 3000⟩) 4600 = .cm 460 ∧
    axleSpacing (some ⟨300, 3000⟩) (some ⟨300, 2500⟩) 6182 = .cm 680 := by decide
theorem test_axle_uneven : speedsUneven (some ⟨300, 3000⟩) (some ⟨300, 2500⟩) = false := by decide

/-- 08, worked calibration run: the zero's own weights of slots 1.0 and 2.1. -/
theorem test_zero_rounds : roundDiv (-930000) 196500 = -5 ∧ roundDiv 15002500 1000 = 15003 ∧ roundDiv (-3318705) 1000 = -3319 := by
  decide

/-- 09, section 9.5: the permissible errors at d = 20 kg. -/
theorem test_permissible_error : permissibleError 10000 20 = 20 ∧ permissibleError 20000 20 = 40 ∧ permissibleError 40000 20 = 40 ∧ permissibleError 80000 20 = 60 := by decide

/-- 08, worked calibration run: 2024-03-20 10:30:00, and the due date 365 days on, 2025-03-20. -/
theorem test_times : readTime ['2', '0', '2', '4', '0', '3', '2', '0', '1', '0', '3', '0', '0', '0'] = some 764245800 ∧
    tDate (dayOf 764245800 + 365) = ['2', '0', '2', '5', '0', '3', '2', '0'] := by decide

/-- 07, worked sequence: the net of ticket 48,312, and the next number after 48,311. -/
theorem test_net : netOf { weighing with weight := 52440 } { weighing with weight := 14380 } = 38060 := by decide

/-! ### Single commands -/

/-- Powered from a blank store the part stands as State.reset. -/
theorem test_power_on : exec (.powerOn true true) { State.reset with dev := { State.reset.dev with power := ⟨.off, false⟩ } } =
    .next State.reset := by rfl
/-- R188: a slot of the audit log that fails and one copy of the status record that is written leave the other targets never written. -/
theorem test_blank_targets :
    let nv := { NvStore.blank with audit := [(3, .torn)], status := ⟨.valid ⟨0, ⟨.suspect, none, 0⟩⟩, .blank⟩ }
    blankCells 256 nv.audit = 255 ∧ 2 - nv.status.writtenCount = 1 ∧ blankTargets nv = 4580 := by decide
/-- An empty queue idles. -/
theorem test_idle : step State.reset = .next State.reset := rfl

/-- The device after a command. -/
def after (i : Instr) (d : Device) : Device :=
  match exec i (at_ d) with
  | .next t => t.dev
  | _ => d

/-- 11, section 11.4: `=WTR 20530 NORMAL 52440 - SET STABLE`, and the fields that follow with G. -/
def worked : WeightRecord where
  index := 20530
  latch := 0
  total := some 5242346
  held := false
  clamped := false
  f := some 5242346
  g := some 5243586
  w := some 52440
  wstate := .normal
  zeroCentre := false
  modules := ⟨some ⟨some 1661595, false, false⟩, some ⟨some 1296048, false, false⟩, some ⟨some 1391272, false, false⟩, some ⟨some 893431, false, false⟩⟩
  kinds := Quad.const (Quad.const .none)
  states := Quad.const (Quad.const .live)
  stable := true
def shown : Device := { onDeck with csu := { onDeck.csu with newest := some worked } }
theorem test_wtr : (after (.wtr []) shown).tx.replies = ["=WTR 20530 NORMAL 52440 - SET STABLE\r\n".toList] := by decide
theorem test_wtr_full : (after (.wtr [['G']]) shown).tx.replies =
    ["=WTR 20530 NORMAL 52440 - SET STABLE 52435.86 16615.95 12960.48 13912.72 8934.31\r\n".toList] := by decide
theorem test_cop : (after (.cop []) { clearLane with mst := { clearLane.mst with lock := ⟨true, true, none⟩ } }).tx.replies =
    ["=COP 17 ACTIVE\r\n".toList] := by decide
/-- A strip edge 39 ms after the last accepted hit is ignored, one 40 ms after it is taken (R64). -/
theorem test_strip_blanking : (after (.stripHit .b 1039) { onDeck with lsv := { onDeck.lsv with hitB := some 1000 } }).lsv.lane = .onDeck ∧
    (after (.stripHit .b 1040) { onDeck with lsv := { onDeck.lsv with hitB := some 1000 } }).lsv.lane = .entering := by decide
/-- A frame decoded from its edges reaches its slot (01, worked example). -/
theorem test_reply_frame : (slotOf (after (.replyFrame .i0 3379 frameSyms) waiting) ⟨.i0, .i0⟩).lastRaw = some 95861 := by decide

/-! ### Witnesses: a state that meets the hypotheses of each statement, clause by clause -/

theorem witness_StepRunsFrontCommand : ({ at_ bare with pending := [.clockSecond, .sta []] } : State).pending = .clockSecond :: [.sta []] := rfl
theorem witness_LightOutputsFollowRule : ∃ t, exec (.lit [tIn, tGreen]) (at_ bare) = .next t := ⟨_, rfl⟩
theorem witness_StoreChangesOnlyAtWritesAndPower : (∃ t, exec (.zer []) (at_ bare) = .next t) ∧ (∀ a j, Instr.zer [] ≠ .powerOn a j) ∧
    (∀ p, Instr.zer [] ≠ .resetLineLow p) ∧ (∀ a j, Instr.zer [] ≠ .resetLineRelease a j) ∧ (∀ x, Instr.zer [] ≠ .nvcWriteComplete x) ∧
    ∀ p, Instr.zer [] ≠ .powerFailure p :=
  ⟨⟨_, rfl⟩, nofun, nofun, nofun, nofun, nofun⟩

/-- Two steps taken from states that keep the rules. -/
def twoCommands (d : Device) : State := ⟨d, journal1, [.clockSecond, .sta []]⟩
theorem witness_StoreFormKept : StoreForm (twoCommands onDeck).nv ∧ ∃ t, step (twoCommands onDeck) = .next t :=
  ⟨⟨by decide, by decide, by decide, by decide⟩, _, rfl⟩
theorem witness_ZeroRuleKept : ZeroRule (twoCommands onDeck).dev ∧ ∃ t, step (twoCommands onDeck) = .next t :=
  ⟨⟨by decide, nofun, fun _ => ⟨cal, -1240, -1240, rfl, rfl, rfl, by decide, by decide⟩⟩, _, rfl⟩
def write1 : WriteReq := ⟨.longOp, .settings Settings.default⟩
def writing (r : WriteReq) (d : Device) : Device := { d with nvc := { d.nvc with writing := some r } }
theorem witness_QueuesKept : (PortBounds (writing write1 onDeck) ∧ QueueServed (writing write1 onDeck)) ∧
    ∃ t, step (twoCommands (writing write1 onDeck)) = .next t := ⟨⟨by decide, nofun⟩, _, rfl⟩

/-- A completed record in the buffer. -/
def received (buf : Text) (err ovf : Bool) (d : Device) : Device :=
  { d with rx := { d.rx with buf := buf, complete := true, err := err, ovf := ovf } }
theorem witness_HostRecordDispatch : let s := at_ (received (recordText .wg1 [ref1, Direction.text .receival]) false false onDeck)
    (Instr.wg1 [ref1, Direction.text .receival]).wf = true ∧
      (Instr.wg1 [ref1, Direction.text .receival]).command? = some (.wg1, [ref1, Direction.text .receival]) ∧ uartOn s.dev = true ∧
      s.dev.rx.complete = true ∧ s.dev.rx.buf = recordText .wg1 [ref1, Direction.text .receival] ∧ s.dev.rx.err = false ∧
      s.dev.rx.ovf = false := by decide
theorem witness_MalformedRecordRefused :
    (uartOn bare = true ∧ bare.tx.replies = [] ∧ bare.tx.held = [] ∧ bare.tx.placing = [] ∧ bare.tx.queue = []) ∧
    (let d := received ('>' :: (tagText .sta ++ ['1'])) true false bare
     d.rx.complete = true ∧ d.rx.err = true ∧ d.rx.buf = '>' :: (tagText .sta ++ ['1'])) ∧
    (let d := received ['S', 'T', 'A'] false true bare
     d.rx.ovf = true ∧ ∀ (g : Tag) (rest : Text), d.rx.buf ≠ '>' :: (tagText g ++ rest)) ∧
    (let d := received ['S', 'T', 'A'] false false bare
     d.rx.err = false ∧ d.rx.ovf = false ∧ ∀ name fs, ¬ CommandForm d.rx.buf name fs) ∧
    (let d := received ['>', 'Z', 'Z', 'Z', ' ', ' ', 'A'] false false bare
     CommandForm d.rx.buf ['Z', 'Z', 'Z'] [['A']] ∧ ∀ g, tagText g ≠ ['Z', 'Z', 'Z']) := by
  refine ⟨by decide, by decide, ⟨rfl, fun g rest => ?_⟩, ⟨rfl, rfl, ?_⟩, ⟨rfl, by simp, by simp, [2], by decide, by decide, rfl⟩,
    fun g => ?_⟩
  · simp [received]
  · rintro name fs ⟨-, -, -, gaps, -, -, h⟩
    exact absurd (List.cons.inj h).1 (by decide)
  · cases g <;> decide
theorem witness_BusyRefusals : (Instr.zer []).command? = some (.zer, []) ∧ isLongTag .zer = true ∧
    uartOn (busy .wg1 .ended onDeck) = true ∧ (busy .wg1 .ended onDeck).exe.slot ≠ none ∧
    ({ bare with ntc := Ntc.reset } : Device).ntc.readySent = false := by decide

theorem witness_WeightReplies : TakesCommands shown ∧ shown.csu.newest = some worked ∧ TakesCommands bare ∧ bare.csu.newest = none ∧
    [tIn] ≠ [] ∧ [tIn] ≠ [['G']] := by decide
/-- Passage 65,535 is held, passage 1 is not. -/
def passages : Device := { onDeck with lsv := { onDeck.lsv with current := some (passage 1), history := [passage 65535] } }
theorem witness_CellAndPassageReplies : TakesCommands passages ∧
    ((passages.lsv.current.toList ++ passages.lsv.history.reverse).find? fun p => p.number == 65535) = some (passage 65535) ∧
    ((passages.lsv.current.toList ++ passages.lsv.history.reverse).find? fun p => p.number == 1) = some (passage 1) ∧
    (∀ p ∈ passages.lsv.current.toList ++ passages.lsv.history, p.number ≠ 65534) ∧ readRange 1 65535 (tNat 65536) = none := by decide
/-- A part with a visit, a tare and an audit record 5. -/
def tables : Device := { onDeck with txu := { onDeck.txu with visits := [(1, visit1)], tares := [(3, tare1)], writePos := 2 } }
def audited : NvStore := { journal1 with audit := [(1, .valid ⟨5, .calDiscard, none, some 17⟩)] }
theorem witness_RecordReplies : (NvStore.blank.audits = [] ∧ (5 : Nat) < 6 ∧ slotOfAudit audited.audit 5 = some 1 ∧
    readRange 1 9999999 (tNat 0) = none ∧ readRange 1 65535 ref1 = none ∧ ref1 ≠ tList ∧ ref1 ≠ tNum ∧ ref1 ≠ tRef ∧
    readRef ['/'] = none ∧ [visit1].Perm (tables.txu.visits.map (·.2)) ∧ [visit1].Pairwise (fun a b => a.number < b.number) ∧
    [tare1].Perm (tables.txu.tares.map (·.2)) ∧ [tare1].Pairwise (fun a b => refLt a.ref b.ref = true)) ∧ TakesCommands tables ∧ findVisit tables 7 = some (1, visit1) ∧ findVisit tables 65535 = none ∧
    readRef ref1 = some ref1 ∧ findVisitRef tables ref1 = some (1, visit1) ∧ findVisitRef bare ref1 = none ∧
    findTare tables ref1 = some (3, tare1) ∧ findTare bare ref1 = none ∧ audited.auditOldest = some 5 ∧ audited.auditNewest = some 5 := by
  decide
/-- 2099-12-31 23:59:59, the last second of the clock. -/
def lastSecond : Text := ['2', '0', '9', '9', '1', '2', '3', '1', '2', '3', '5', '9', '5', '9']
theorem witness_SettingsAndClockCommands : ([ref1] ≠ [] ∧ [ref1] ≠ [tClr] ∧ ∀ i : SettingItem, [ref1] ≠ [i.text]) ∧
    TakesCommands onDeck ∧ readTime ref1 = none ∧ readTime lastSecond = some 3155759999 ∧
    bare.mst.state ≠ .calibrated ∧ onDeck.mst.state = .calibrated ∧ onDeck.mst.due = some 9000 ∧ 9000 < 3155759999 / 86400 ∧
    QueueServed onDeck ∧ statusBusy onDeck = false := by
  refine ⟨⟨by decide, by decide, fun i => ?_⟩, by decide⟩; cases i <;> decide
theorem witness_LightAndNoticeCommands : TakesCommands onDeck ∧ running onDeck = true ∧ Notice.met ≠ .sys ∧
    (LightMode.forceGreen, tGreen) ∈ [(LightMode.auto, tAuto), (.forceRed, tRed), (.forceGreen, tGreen)] := by decide
def stream1 : Stream := ⟨.jrd, 1, 1, 3, 0, false⟩
theorem witness_AbortCommand : (TakesCommands bare ∧ bare.exe.slot = none ∧ bare.exe.stage = .none) ∧
    TakesCommands (busy .zer (.zerWait 9) bare) ∧ (∃ t, (busy .zer (.zerWait 9) bare).exe.stage = .zerWait t) ∧
    (busy .zer (.zerWait 9) bare).exe.slot = some .zer ∧ (busy .jrd (.stream stream1) bare).exe.stage = .stream stream1 ∧
    (∃ a, (busy .jex (.exportWrite 1) bare).exe.stage = .exportWrite a) ∧ [ref1] ≠ [] :=
  ⟨by decide, by decide, ⟨_, rfl⟩, rfl, rfl, ⟨_, rfl⟩, by decide⟩
def unlocked (d : Device) : Device := { d with mst := { d.mst with lock := ⟨true, true, none⟩ } }
theorem witness_CalibrationRunOpens : TakesCommands clearLane ∧ clearLane.mst.lock.state = false ∧
    (unlocked onDeck).mst.lock.state = true ∧ onDeck.lsv.lane ≠ .clear ∧ onDeck.lsv.lane ≠ .init ∧
    (unlocked clearLane).lsv.lane = .clear ∧ (unlocked clearLane).mst.run = none ∧ (unlocked clearLane).mst.verif = none ∧
    HeldReq.discard ∉ (unlocked clearLane).mst.held ∧ (unlocked clearLane).mst.counter < 65535 ∧
    (∃ t, (busy .zer (.zerWait 9) (unlocked clearLane)).exe.stage = .zerWait t) ∧
    ({ clearLane with mst := { clearLane.mst with counter := 65535 } } : Device).mst.counter ≥ 65535 :=
  ⟨by decide, by decide, by decide, by decide, by decide, by decide, by decide, by decide, by decide, by decide, ⟨_, rfl⟩, by decide⟩
/-- The same working copy with a zero capture of slot 1.0: 100 records of 12,400 counts. -/
def zeroedCopy : WorkCopy := { work with marks := work.marks.put ⟨.i0, .i0⟩ ⟨true, false, some (1240000, 100)⟩ }
def inRun (d : Device) : Device := { d with mst := { d.mst with run := some work } }
theorem witness_WorkingCopyItems : ((∀ i ∈ SlotId.all, (work.marks.sel i).zeroCaptured = false) ∧ zeroedCopy.copied = some (-1300) ∧
    (zeroedCopy.marks.sel ⟨.i0, .i0⟩).zeroCaptured = true ∧ ((zeroedCopy.marks.sel ⟨.i0, .i0⟩).zeroMean = some (1240000, 100)) ∧
    (0 : Nat) < 100 * 196500 ∧ readRange 500 150000 (tNat 499) = none ∧ ref1 ≠ tYes ∧ ref1 ≠ tNo) ∧ TakesCommands (inRun clearLane) ∧ clearLane.mst.run = none ∧ (inRun clearLane).mst.run = some work ∧
    runStep (inRun clearLane) = none ∧ runStep (busy .cze (.runWait .cze 9 []) (inRun clearLane)) ≠ none := by decide
theorem witness_RunDiscardAndVerification : TakesCommands (inRun clearLane) ∧ (inRun clearLane).mst.run = some work ∧
    runStep (busy .cze (.runWait .cze 9 []) (inRun clearLane)) ≠ none ∧ runStep (inRun clearLane) = none ∧
    statusBusy (writing ⟨.discard, write1.write⟩ (inRun clearLane)) = true ∧ statusBusy (inRun clearLane) = false ∧
    QueueServed (inRun clearLane) ∧ (inRun clearLane).auu.next = some 1 ∧ (1 : Nat) < 9999999 := by decide

theorem witness_ZeroAndFirstWeighing : TakesLong clearLane ∧ [ref1] ≠ [] ∧ TakesLong onDeck ∧ readRef ref1 = some ref1 := by decide
theorem witness_TicketWeighings : (readRef ['/'] = none ∧ readRange 1 65535 (tNat 0) = none) ∧ (TakesLong tables ∧ readRef ref1 = some ref1 ∧ tables.mst.run = none ∧ tables.mst.state ≠ .uncalibrated ∧
    tables.mst.verif = none ∧ tables.nvc.clock ≠ none ∧ journalFull NvStore.blank tables = false ∧
    NvStore.blank.nextTicket tables.txu.owedTorn ≤ 9999999) ∧ findVisit tables 65535 = none ∧ findTare onDeck ref1 = none ∧
    findTare tables ref1 = some (3, tare1) ∧ tareExpired tables tare1 = some false ∧
    tareExpired { tables with nvc := { tables.nvc with clock := some 800000000 } } tare1 = some true ∧ tables.zsu.set = true ∧
    tables.lsv.lane = .onDeck ∧ tables.lsv.beamIn.state = false ∧ tables.lsv.beamOut.state = false ∧ findVisit tables 7 = some (1, visit1) := by
  decide
theorem witness_TareAndPointCaptures : TakesLong onDeck ∧ readRef ref1 = some ref1 ∧ onDeck.mst.active = some cal ∧
    (80000 : Nat) < 10 ^ 40 := by decide
/-- Room in the table, and no slot that is not still to be freed. -/
def freeing : Device := { onDeck with txu := { onDeck.txu with tares := [], freeHeld := (List.range 64).map fun k => ⟨false, k + 1, false⟩ } }
theorem witness_TareTableCommands : (readInt (tNat 15000) = some 15000 ∧ readInt ref1 = none ∧ readRange 1 365 (tNat 366) = none ∧
    (inRun clearLane).mst.run ≠ none ∧ bare.mst.state = .uncalibrated ∧ (15010 : Int) % cal.d ≠ 0 ∧ (cal.max : Int) < 80020) ∧
    TakesLong tables ∧ QueueServed tables ∧ readRef ref1 = some ref1 ∧ tables.mst.active = some cal ∧
    15000 ≤ cal.max ∧ 15000 % cal.d = 0 ∧ tables.mst.run = none ∧ tables.mst.state ≠ .uncalibrated ∧
    tables.nvc.clock = some 760000000 ∧ findTare tables ref1 = some (3, tare1) ∧ findTare onDeck ref1 = none ∧
    onDeck.txu.tares.length < 64 ∧ firstPlace (tareSlotFree onDeck) 64 = some 1 ∧
    (TakesLong freeing ∧ QueueServed freeing ∧ freeing.nvc.clock = some 760000000 ∧ findTare freeing ref1 = none ∧
      freeing.txu.tares.length < 64 ∧ firstPlace (tareSlotFree freeing) 64 = none ∧ freeing.mst.run = none ∧
      freeing.mst.state ≠ .uncalibrated ∧ freeing.mst.active = some cal) := by decide +kernel
theorem witness_FirstWrites : ((∀ i : SettingItem, ref1 ≠ i.text) ∧ (∀ r : Rate, ref1 ≠ tNat r.bits) ∧ ∀ p : Parity, ref1 ≠ p.text) ∧ (({ tables with txu := { tables.txu with owedTorn := some 2 } } : Device).txu.owedTorn = some 2 ∧
    readRange 1 65535 ref1 = none ∧ readRange 1 9999999 ref1 = none ∧ journal1.ticket 1 = some ticket1 ∧
    ticket1.body = .gross ref1 weighing none TicketFlags.none) ∧ TakesLong tables ∧ QueueServed tables ∧ tables.mst.run = none ∧ tables.mst.state ≠ .uncalibrated ∧
    tables.mst.verif = none ∧ tables.nvc.clock ≠ none ∧ journalFull journal1 tables = false ∧ tables.txu.owedTorn = none ∧
    journal1.nextTicket none ≤ 9999999 ∧ findVisit tables 7 = some (1, visit1) ∧ findVisit tables 65535 = none ∧
    voidable journal1 1 = true ∧ voidable journal1 9999999 = false ∧ journal1.newest = some 1 ∧ NvStore.blank.newest = none ∧
    (readSettings tables.nvc.settings [] [SettingItem.text .hold, tNat 5]).isSome = true ∧
    readSettings tables.nvc.settings [] [ref1] = none ∧ readRange 1 8 (tNat 9) = none ∧
    (SettingItem.assign tables.nvc.settings ['0', '.', '5'] .setl).isSome = true :=
  ⟨⟨by intro i; cases i <;> decide, by intro i; cases i <;> decide, by intro i; cases i <;> decide⟩, by decide +kernel⟩
/-- A reply waits behind an AUD read. -/
def heldReply : Device := { onDeck with tx := { onDeck.tx with held := [.read ⟨[5], none⟩, .formed ref1] } }
def sending (q : Text) : Device := { bare with tx := { bare.tx with queue := q, sending := true } }
theorem witness_JournalStreams : (TakesLong onDeck ∧ journal1.oldest = some 1 ∧ journal1.newest = some 1 ∧ onDeck.txu.cursor = none ∧
      ({ onDeck with txu := { onDeck.txu with cursor := some 2 } } : Device).txu.cursor = some 2) ∧
    let d := busy .jrd (.stream stream1) onDeck
    ((sending ['A']).tx.queue ≠ [] ∧ RepliesWait heldReply ∧ (busy .jrd (.stream stream1) heldReply).exe.stage = .stream stream1) ∧
      uartOn d = true ∧ d.exe = ⟨some .jrd, .stream stream1⟩ ∧ d.tx.queue = [] ∧ d.tx.placing = [] ∧
      (d.tx.replies = [] ∧ ∀ r ∈ d.tx.held, r.isFormed = false) ∧ d.tx.longs = [] ∧ noticeTurn d = false ∧ journal1.ticket 1 = some ticket1 ∧ (ticket1.item ++ ['\r', '\n']).length ≤ 2048 ∧
      ({ journal1 with journal := [(1, .valid ticket1), (3, .valid { ticket1 with number := 3 })] } : NvStore).ticket 2 = none :=
  ⟨by decide, ⟨by decide, .inr ⟨ref1, by decide⟩, rfl⟩, by decide +kernel⟩
/-- A sample in which slot 1.0 is GOOD at a raw count, and the part whose slot 1.0 has both serial halves. -/
def sampled (raw : Int) : SampleRecord where
  index := 4
  latch := 40
  slots := Slots.put (Quad.const (Quad.const ⟨.notPolled, none, none, none, .unused, 0⟩)) ⟨.i0, .i0⟩
    ⟨.good, some raw, some ⟨false, false, false, false⟩, some 315, .live, 0⟩
def identified (d : Device) : Device :=
  { d with clc := { d.clc with slots := d.clc.slots.put ⟨.i0, .i0⟩ { Slot.reset .live with serialHigh := some 945, serialLow := some 3079 } } }
def rowOf (raw : Int) : Slots (Option Int) := Slots.put (Quad.const (Quad.const none)) ⟨.i0, .i0⟩ (some raw)
def rawWait (n : Nat) (raw : Int) : Device := busy .cze (.runWait .cze 9 (List.replicate n (rowOf raw))) (identified (inRun clearLane))
theorem witness_RunCaptures : (TakesLong (inRun clearLane) ∧ clearLane.mst.run = none ∧ (inRun clearLane).mst.run = some work) ∧
    slotsUsed work = [⟨.i0, .i0⟩] ∧ (0 < 2000 / cal.p) ∧
    (let d := rawWait 199 12400
     d.mst.run = some work ∧ d.exe.stage = .runWait .cze 9 (List.replicate 199 (rowOf 12400)) ∧ d.exe.slot = some .cze ∧
       ((sampled 12402).slots.sel ⟨.i0, .i0⟩).outcome = .good ∧ (slotOf d ⟨.i0, .i0⟩).serialHigh ≠ none) ∧
    (mstRecord (sampled 12402) (rawWait 199 12400)).tx.longs = ["=CZE 0.00 12400 315 3873799 -\r\n".toList] ∧
    (mstRecord (sampled 12425) (rawWait 199 12400)).tx.longs = [] ∧ (mstRecord (sampled 12402) (rawWait 198 12400)).tx.longs = [] ∧
    (mstRecord (sampled 208900) (busy .csp (.runWait (.csp .i0 20000) 9 (List.replicate 199 (rowOf 208900)))
      (identified (inRun clearLane)))).tx.longs = ["=CSP 1 20000 196472 196472.00\r\n".toList] ∧
    (mstRecord (sampled 12402) (busy .csp (.runWait (.csp .i0 20000) 9 (List.replicate 199 (rowOf 12402)))
      (identified (inRun clearLane)))).tx.longs = ["#CSP RNG -26\r\n".toList] := by decide +kernel
/-- A run whose working copy is complete, with the lock open. -/
def committing : Device := unlocked (inRun clearLane)
theorem witness_CommitAndVerifyBegin : TakesLong committing ∧ QueueServed committing ∧ committing.nvc.clock = some 760000000 ∧
    committing.auu.next = some 1 ∧ committing.mst.run = some work ∧ committing.mst.lock.state = true ∧ work.max = some 80000 ∧
    work.d = some 20 ∧ 80000 % 20 = 0 ∧ (work.slots.sel ⟨.i0, .i0⟩).configured = true ∧
    (∀ i ∈ SlotId.all, (work.slots.sel i).configured = true → slotComplete committing.mst.active work i = true) ∧
    committing.mst.counter < 65535 ∧
    ({ clearLane with mst := { clearLane.mst with verif := some [makePoint 0 weighing] } } : Device).mst.verif = some [makePoint 0 weighing] := by
  decide

def off : Device := { State.reset.dev with power := ⟨.off, false⟩ }
theorem witness_StartUpScan : off.power.phase = .off ∧ off.power.resetLow = false ∧ onDeck.power.phase ≠ .held ∧
    ({ off with power := ⟨.off, true⟩ } : Device).power.resetLow = true ∧
    ({ off with power := ⟨.held, true⟩ } : Device).power.phase = .held ∧ onDeck.power.phase ≠ .off ∧
    (journal1.tickets.map (·.number)).Nodup := by decide
theorem witness_ResetAndPowerLoss : State.reset.dev.power.phase = .scan ∧ (writing write1 onDeck).power.phase = .run := by decide
/-- Due on 2024-01-31 (day 8,796), at the last second of that day. -/
def dueToday : Device :=
  { onDeck with mst := { onDeck.mst with due := some 8796 }, nvc := { onDeck.nvc with clock := some 760060799 } }
theorem witness_ScanEndAndClock : State.reset.dev.power.phase = .scan ∧ off.power.phase = .off ∧ bare.power.phase ≠ .off ∧ bare.mst.state ≠ .calibrated ∧
    dueToday.power.phase = .run ∧ dueToday.mst.state = .calibrated ∧ dueToday.mst.due = some 8796 ∧
    760060799 + 1 < 36525 * 86400 ∧ 8796 < (760060799 + 1) / 86400 ∧ QueueServed dueToday ∧ statusBusy dueToday = false := by decide

def shorted (w : Bool) : Device :=
  { onDeck with clc := { onDeck.clc with lines := onDeck.clc.lines.set .i0 ⟨.shorted, .idle, none, w, 1000⟩ } }
def phased (p : LinePhase) : Device :=
  { onDeck with clc := { onDeck.clc with lines := onDeck.clc.lines.set .i0 ⟨.active, p, some .latch, false, 0⟩ } }
theorem witness_SampleInstant : running onDeck = true ∧ (lineOf onDeck .i0).status = .active ∧
    (lineOf (shorted true) .i0).status = .shorted ∧ onDeck.clc.cycle ≠ none ∧ isPolled onDeck ⟨.i0, .i0⟩ = true ∧
    (slotOf onDeck ⟨.i0, .i0⟩).cycle = none ∧ isPolled onDeck ⟨.i3, .i3⟩ = false := by decide
theorem witness_LinePolling : running onDeck = true ∧ (lineOf (phased .gap) .i0).status = .active ∧ (lineOf (phased .gap) .i0).phase = .gap ∧
    unpolled (phased .gap) .i0 = ⟨.i0, .i0⟩ :: [] ∧ (lineOf waiting .i0).phase = .waiting .i0 ∧
    isPolled waiting ⟨.i0, .i0⟩ = true ∧ (lineOf (phased .quiet) .i0).phase = .quiet ∧
    (lineOf (phased .gap) .i0).phase ≠ .quiet := by decide
theorem witness_FrameFields : refOk 2458 = true ∧ refOk 3686 = true ∧ symbolValues 3379 frameSyms = some [9, 1, 7, 6, 7, 5, 0, 9] ∧
    (9 == (1 * 9 + 2 * 1 + 3 * 7 + 4 * 6 + 5 * 7 + 6 * 5 + 7 * 0) % 16) = true ∧
    symbolValues 3379 (frameSyms.set 7 1267) = some [9, 1, 7, 6, 7, 5, 0, 8] ∧
    (8 == (1 * 9 + 2 * 1 + 3 * 7 + 4 * 6 + 5 * 7 + 6 * 5 + 7 * 0) % 16) = false ∧ running waiting = true ∧
    (lineOf waiting .i0).phase = .waiting .i0 ∧ isPolled waiting ⟨.i0, .i0⟩ = true := by decide
/-- A slot one side bit short of a serial-low message that does not match. -/
def mismatching : Slot :=
  { Slot.reset .verifying with
    serialHigh := some 1, serialLow := some 0, tempReceived := true
    assembly := [false, false, false, true, true, true, false, false, false, false, false, false, false, true, true, true, false, true,
      false] }
def lowBit : Frame := ⟨2, false, false, 95861, ⟨false, false, false, false⟩⟩
theorem witness_ReplyFrameActs : running waiting = true ∧ (lineOf waiting .i0).phase = .waiting .i0 ∧
    isPolled waiting ⟨.i0, .i0⟩ = true ∧ decodeFrame 3379 frameSyms = some ⟨2, false, true, 95861, ⟨false, false, false, false⟩⟩ ∧
    (frameSlot 3 (some 3873799) lowBit (slotOf waiting ⟨.i0, .i0⟩)).state ≠ .mismatch ∧
    (frameSlot 3 (some 3873799) lowBit mismatching).state = .mismatch ∧ mismatching.state ≠ .mismatch ∧
    (frameSlot 3 (some 3873799) lowBit mismatching).requested = false ∧
    (frameSlot 3 (some 3873799) lowBit { mismatching with requested := true }).requested = true ∧ waiting.auu.next = some 1 ∧
    ({ waiting with auu := ⟨1, none, false⟩ } : Device).auu.next = none ∧ waiting.ntc.enabled.cel = true := by decide
/-- The same side bit on a slot that reads the same rolling count again is STALE; a first bit without a start is nothing. -/
theorem witness_SideMessages : ({ mismatching with lastCount := some 2 } : Slot).lastCount = some lowBit.count ∧ mismatching.lastCount ≠ some lowBit.count ∧
    20 ≤ (mismatching.assembly ++ [lowBit.sideData]).length ∧ (mismatching.assembly.drop 1 ++ [lowBit.sideData]).length < 20 ∧
    readMessage (mismatching.assembly ++ [lowBit.sideData]) = some (1, 3079) ∧
    readMessage (mismatching.assembly ++ [true]) = none := by decide
theorem witness_BadFrames : running waiting = true ∧ (lineOf waiting .i0).phase = .waiting .i0 ∧ isPolled waiting ⟨.i0, .i0⟩ = true ∧
    edgesBad 2457 [] = true ∧ edgesBad 3379 frameSyms = false ∧ decodeFrame 3379 (frameSyms.set 7 1267) = none := by decide
theorem witness_SlotStates : (Slot.reset .live).state = .live ∧ (Slot.reset .holding).state = .holding ∧ SlotOutcome.isMiss .late = true ∧
    (Slot.reset .holding).hold + 1 ≤ 1 ∧ 0 < (Slot.reset .holding).hold + 1 ∧ (Slot.reset .faulted).run + 1 < 8 ∧
    8 ≤ ({ Slot.reset .faulted with run := 7 } : Slot).run + 1 ∧ SlotOutcome.late ≠ .good ∧ (Slot.reset .mismatch).state = .mismatch ∧
    (Slot.reset .seeking).state = .seeking ∧ (Slot.reset .verifying).state = .verifying ∧ SlotOutcome.sup ≠ .cellErr ∧
    (missSlot 3 .late { Slot.reset .live with nLate := 65535 }).nLate = 65535 := by
  decide
theorem witness_LineFaults : running (shorted true) = true ∧ (lineOf onDeck .i0).status = .active ∧
    (lineOf (shorted true) .i0).status = .shorted ∧ (lineOf (shorted true) .i0).watching = true ∧
    configured onDeck ⟨.i0, .i0⟩ = true ∧ (slotOf onDeck ⟨.i0, .i0⟩).state ≠ .mismatch ∧ configured onDeck ⟨.i3, .i3⟩ = false ∧
    onDeck.ntc.enabled.cel = true := by decide

def beamLeft (blocked : Bool) (d : Device) : Device := { d with lsv := { d.lsv with beamIn := ⟨!blocked, blocked, some 20000⟩ } }
theorem witness_InputsDebounced : running onDeck = true ∧ (beamOf (beamLeft true onDeck) .entry).debounce = some 20000 ∧
    (beamOf (beamLeft true clearLane) .entry).raw = true ∧ (beamLeft true clearLane).lsv.lane = .clear ∧
    (beamLeft true onDeck).lsv.lane ≠ .clear ∧
    (busy .wg1 (.capWait (.wg1 ref1 .receival) 9) (beamLeft true onDeck)).exe.stage = .capWait (.wg1 ref1 .receival) 9 ∧
    (let d := busy .zer (.zerWait 9) (beamLeft true clearLane)
     d.exe.stage = .zerWait 9 ∧ d.exe.slot = some .zer ∧ d.lsv.lane = .clear) ∧
    (busy .csp (.runWait (.csp .i3 1000) 9 []) (beamLeft true clearLane)).exe.stage = .runWait (.csp .i3 1000) 9 [] := by decide
def lane (l : Lane) : Device := { onDeck with lsv := { onDeck.lsv with lane := l, hitA := some 1000, settle := some 500, clear := some 600 } }
theorem witness_StripHit : running (lane .leaving) = true ∧ (lane .leaving).clc.cycle ≠ none ∧ lastHitOf (lane .leaving) .a = some 1000 ∧
    1039 < 1000 + 40 ∧ 1000 + 40 ≤ 1040 ∧ lastHitOf (lane .leaving) .b = none ∧ (lane .init).lsv.lane = .init ∧
    (lane .leaving).lsv.current = some (passage 318) ∧ (lane .entering).lsv.current = some (passage 318) ∧
    (busy .cze (.runWait .cze 9 []) (lane .leaving)).exe.stage = .runWait .cze 9 [] ∧
    (after (.stripHit .a 1040) (busy .cze (.runWait .cze 9 []) (lane .leaving))).lsv.lane ≠ .leaving ∧
    (after (.stripHit .a 1040) (lane .entering)).lsv.lane = .entering ∧ (lane .entering).lsv.lane ≠ .init ∧
    (lane .entering).lsv.lane ≠ .clear ∧ (lane .clear).lsv.lane = .clear := by decide
/-- A sample latched at the tailgate's hit is the new passage's, one before it is not (R94, R108). -/
theorem test_tailgate_samples : (after (.stripHit .a 1040) { lane .leaving with axu := { Axu.reset with
    samples := [⟨1, 1039, none, false, true⟩, ⟨2, 1040, none, false, true⟩] } }).axu.samples = [⟨2, 1040, none, false, true⟩] := by decide
theorem witness_OccupancyActs : clearLane.lsv.lane = .clear ∧ worked.g = some 5243586 ∧
    clearLane.nvc.settings.occ * (100 * cal.d) = 50000 ∧ (lane .entering).lsv.lane ≠ .clear ∧ clearLane.ntc.enabled.lne = true ∧
    (busy .zer (.zerWait 9) clearLane).exe.stage = .zerWait 9 ∧ (busy .zer (.zerWait 9) clearLane).exe.slot = some .zer := by decide
theorem witness_LaneTimers : running (lane .entering) = true ∧ (lane .entering).lsv.settle = some 500 ∧ (lane .entering).lsv.lane = .entering ∧
    (lane .leaving).lsv.clear = some 600 ∧ (lane .leaving).lsv.current = some (passage 318) ∧ (lane .leaving).lsv.history.length ≤ 4 ∧
    (lane .leaving).ntc.enabled.lne = true ∧ (lane .leaving).ntc.enabled.axl = true := by decide

/-- The lock lever has moved: the debounce has started. -/
def lever (isOpen : Bool) (d : Device) : Device := { d with mst := { d.mst with lock := ⟨!isOpen, isOpen, some 100⟩ } }
theorem witness_LockPosition : running (lever true onDeck) = true ∧ (lever true onDeck).mst.lock.debounce = some 100 ∧
    (lever true onDeck).mst.lock.raw = true ∧ (lever false onDeck).mst.lock.raw = false ∧ (lever false onDeck).mst.run = none ∧
    (lever false onDeck).exe.stage = .none ∧
    (busy .ccm (.ccmRecord false 3 false) (lever false (inRun clearLane))).exe.stage = .ccmRecord false 3 false ∧
    (lever false (inRun clearLane)).mst.run = some work ∧ QueueServed (lever false (inRun clearLane)) ∧
    statusBusy (lever false (inRun clearLane)) = false ∧ (lever false (inRun clearLane)).auu.next = some 1 ∧
    statusBusy (writing ⟨.discard, write1.write⟩ (lever false (inRun clearLane))) = true ∧
    (busy .cze (.runWait .cze 9 []) (lever false (inRun clearLane))).exe.stage = .runWait .cze 9 [] := by decide
def draft1 : Draft := ⟨.gross ref1 weighing, none, false⟩
theorem witness_WaitsEnd : (busy .zer (.zerWait 9) clearLane).exe.slot = some .zer ∧ (busy .zer (.zerWait 9) clearLane).exe.stage = .zerWait 9 ∧
    (busy .wgg (.axleWait draft1 318 9) onDeck).exe.stage = .axleWait draft1 318 9 ∧ onDeck.txu.owedTorn = none ∧ QueueServed onDeck ∧
    (∃ d : Device, d.exe.stage = .axleWait draft1 318 9 ∧ d.txu.owedTorn = some 2 ∧ QueueServed d ∧ d.exe.slot = some .wgg ∧ TakesCommands d) ∧
    TakesCommands (busy .wgg (.axleWait draft1 318 9) onDeck) ∧ (busy .wgg .ended onDeck).exe.stage = .ended :=
  ⟨rfl, rfl, rfl, rfl, by decide,
    ⟨busy .wgg (.axleWait draft1 318 9) { onDeck with txu := { onDeck.txu with owedTorn := some 2 } }, rfl, rfl, by decide, rfl, by decide⟩,
    by decide, rfl⟩
/-- A ticket waits for the passage that the clear timer closes, or for another. -/
def awaited (n : Nat) (torn : Option Nat) : Device :=
  busy .wgg (.axleWait draft1 n 9) { lane .leaving with txu := { onDeck.txu with owedTorn := torn } }
theorem witness_TicketRecords : running (awaited 318 none) = true ∧ (awaited 318 none).lsv.current = some (passage 318) ∧
    (awaited 318 none).lsv.clear = some 600 ∧ (awaited 318 none).lsv.lane = .leaving ∧ (awaited 318 none).lsv.history = [] ∧
    (awaited 318 none).exe = ⟨some .wgg, .axleWait draft1 318 9⟩ ∧ (awaited 318 none).txu.owedTorn = none ∧
    ticket1.check < 100000 ∧ NvStore.blank.tickets = [] ∧ (ticket1 ∈ journal1.tickets ∧ ∀ q ∈ journal1.tickets, q.number ≤ ticket1.number) ∧
    (1 ≤ tables.txu.writePos ∧ tables.txu.writePos ≤ 4096) ∧ 1 ≤ 4096 ∧
    (awaited 318 (some 2)).txu.owedTorn = some 2 ∧ (awaited 317 none).exe = ⟨some .wgg, .axleWait draft1 317 9⟩ ∧ (317 : Nat) ≠ 318 := by
  decide +kernel

def writes (w : NvWrite) (g : Tag) (st : Stage) : Device := busy g st (writing ⟨.longOp, w⟩ (inRun clearLane))
theorem witness_WriteCompletes : (let t : TwoCopy Nat := ⟨.valid ⟨3, 17⟩, .valid ⟨0, 18⟩⟩
      t.c1 = .valid ⟨3, 17⟩ ∧ t.c2 = .valid ⟨0, 18⟩ ∧ t.newest = some (true, ⟨0, 18⟩)) ∧
    (∀ b, (⟨.valid ⟨3, 17⟩, .torn⟩ : TwoCopy Nat).c2 ≠ .valid b) ∧ (∀ a, (⟨.torn, .valid ⟨3, 17⟩⟩ : TwoCopy Nat).c1 ≠ .valid a) ∧
    running (writes (.journal 4096 ticket1) .wgg (.record draft1 ticket1)) = true ∧
    (writes (.journal 4096 ticket1) .wgg (.record draft1 ticket1)).nvc.writing = some ⟨.longOp, .journal 4096 ticket1⟩ :=
  ⟨by decide, nofun, nofun, by decide⟩
theorem witness_LongWriteReports : let d := writes (.tare 3 false ⟨0, some tare1⟩) .trk (.tareWrite .trk 3 (some tare1) ref1 false)
    running d = true ∧ d.nvc.writing = some ⟨.longOp, .tare 3 false ⟨0, some tare1⟩⟩ ∧ d.nvc.queue = [] ∧ d.exe.slot = some .trk ∧
      d.exe.stage = .tareWrite .trk 3 (some tare1) ref1 false ∧
      (writes (.exportRec false ⟨0, 1⟩) .jex (.exportWrite 1)).exe.stage = .exportWrite 1 ∧
      (writes (.settings Settings.default) .set (.settingsWrite Settings.default)).exe.stage = .settingsWrite Settings.default ∧
      Settings.default.hold < ({ Slot.reset .holding with hold := 4 } : Slot).hold ∧
      (let e := busy .set (.settingsWrite Settings.default) { lane .entering with now := 5000, lsv := { (lane .entering).lsv with occupancy := .occupied } }
       e.lsv.settle = some 500 ∧ 500 + 100 * Settings.default.setl ≤ e.now ∧ e.lsv.occupancy = .occupied ∧ e.lsv.lane = .entering) ∧
      (let e := { lane .leaving with now := 3600, lsv := { (lane .leaving).lsv with settle := none } }
       inPassage e.lsv.lane = true ∧ e.lsv.settle = none ∧ e.lsv.clear = some 600 ∧ 600 + 1000 * Settings.default.clrt ≤ e.now ∧
         e.lsv.current = some (passage 318)) := by decide
/-- Visit 7 is open, and the attachment of passage 318 owed to visit 8. -/
def owes (d : Device) : Device :=
  { d with txu := { d.txu with visits := [(1, visit1), (2, { visit1 with number := 8 })], owed := [⟨8, 318⟩], freeHeld := [] } }
def told (src : Requester) (w : NvWrite) (d : Device) : Device := writing ⟨src, w⟩ d
theorem witness_JournalWriteReports :
    (let d := busy .wg1 (.wg1Write 1 visit1) (told .longOp (.visit 1 false ⟨0, some visit1⟩) onDeck)
     running d = true ∧ d.nvc.writing = some ⟨.longOp, .visit 1 false ⟨0, some visit1⟩⟩ ∧ d.nvc.queue = [] ∧ d.exe.slot = some .wg1 ∧
       d.exe.stage = .wg1Write 1 visit1 ∧ d.txu.freeHeld = [] ∧ d.txu.owed = [] ∧ findVisit d visit1.number = none ∧
       ∀ e ∈ d.txu.owed, e.visit = visit1.number) ∧
    (let d := { onDeck with txu := { onDeck.txu with owed := [⟨7, 318⟩] } }
     d.txu.owed = [⟨visit1.number, 318⟩] ∧ findVisit d visit1.number = none) ∧
    (let d := busy .wgg (.record draft1 ticket1) (told .longOp (.journal 4096 ticket1) onDeck)
     d.exe.stage = .record draft1 ticket1 ∧ findVisit d 65535 = none ∧ findVisit (owes d) 7 = some (1, visit1) ∧
       (busy .wgg (.tornAfter draft1 1) d).exe.stage = .tornAfter draft1 1 ∧ (busy .wgg (.owedTorn draft1) d).exe.stage = .owedTorn draft1) ∧
    (let d := busy .vcl (.freeing draft1 ticket1 1 true false) (told .longOp (.visit 1 true ⟨1, none⟩) onDeck)
     d.exe.stage = .freeing draft1 ticket1 1 true false ∧ d.txu.freeHeld = [] ∧ d.txu.owed = []) ∧
    (let d := told (.attach 7 1) (.visit 1 true ⟨1, some visit1⟩) (owes onDeck)
     d.nvc.writing = some ⟨.attach 7 1, .visit 1 true ⟨1, some visit1⟩⟩ ∧ d.txu.owed = [⟨8, 318⟩] ∧
       findVisit (owes onDeck) 8 = some (2, { visit1 with number := 8 }) ∧ d.exe.stage = .none) ∧
    (let d := busy .wg2 (.freeing draft1 ticket1 1 false true) (told (.attach 7 1) (.visit 1 true ⟨1, some visit1⟩) onDeck)
     d.exe.stage = .freeing draft1 ticket1 1 false true ∧ d.txu.owed = []) ∧
    (told (.freeTare 64 true) (.tare 64 false ⟨0, none⟩) onDeck).nvc.writing = some ⟨.freeTare 64 true, .tare 64 false ⟨0, none⟩⟩ := by
  decide
theorem witness_AuditAndStatusReports :
    let record : NvWrite := .audit 256 ⟨9999998, .calDiscard, none, some 17⟩
    (let d := busy .ccm (.ccmAudit [] false 0 760000000 true) (told .longOp record (inRun clearLane))
     running d = true ∧ d.nvc.writing = some ⟨.longOp, record⟩ ∧ d.nvc.queue = [] ∧ d.exe.slot = some .ccm ∧ d.tx.held = [] ∧
       d.exe.stage = .ccmAudit [] false 0 760000000 true ∧ d.mst.run = some work ∧ d.auu.next = some 1 ∧ d.mst.held = []) ∧
    (busy .vcm (.vcmAudit true 760000000 1) (told .longOp record clearLane)).exe.stage = .vcmAudit true 760000000 1 ∧
    (let d := busy .ccm (.ccmStatus false 3 true) (told (.status true) (.status false ⟨0, ⟨.calibrated, none, 17⟩⟩) clearLane)
     d.exe.stage = .ccmStatus false 3 true ∧ d.mst.held = []) ∧
    (busy .vcm (.vcmStatus true 1 false) clearLane).exe.stage = .vcmStatus true 1 false ∧
    (slotOf (told (.mismatch ⟨.i3, .i3⟩) record clearLane) ⟨.i3, .i3⟩).owed = false ∧
    (let d := told .discard record { clearLane with mst := { clearLane.mst with held := [.status ⟨.suspect, none, 17⟩ false] } }
     d.mst.held = [.status ⟨.suspect, none, 17⟩ false] ∧ d.tx.held = []) ∧
    (let d := told .discard record { clearLane with tx := { clearLane.tx with held := [.read ⟨[5], none⟩, .formed ref1] } }
     d.tx.held = .read ⟨[5], none⟩ :: [ref1].map .formed ∧ d.mst.held = []) := by decide
theorem witness_CommitInstalls : let d := writes (.calibration cal) .ccm (.ccmRecord false 21 false)
    running d = true ∧ d.auu.next = some 1 ∧ 1 + 16 ≤ 9999999 ∧ d.nvc.writing = some ⟨.longOp, .calibration cal⟩ ∧
      d.exe.stage = .ccmRecord false 21 false ∧ d.exe.slot = some .ccm ∧ configured d ⟨.i3, .i3⟩ = false ∧ d.ntc.enabled.met = true ∧ statusBusy d = false ∧
      d.lsv.current = none ∧ ({ d with lsv := (lane .leaving).lsv } : Device).lsv.current = some (passage 318) ∧
      (lane .leaving).lsv.history.length ≤ 4 ∧ d.mst.active = some cal ∧ (slotOf d ⟨.i0, .i0⟩).requested = false := by
  decide

def fed (n : Nat) (d : Device) : Device := { d with rx := { d.rx with fifo := List.replicate n ⟨'A', false⟩ } }
theorem witness_CharacterReceived : uartOn bare = true ∧ (busy .jrd (.stream stream1) bare).exe.stage = .stream stream1 ∧
    bare.rx.spoilt = false ∧ ({ bare with rx := { bare.rx with spoilt := true } } : Device).rx.spoilt = true ∧
    (fed 63 bare).rx.fifo.length < 64 ∧ 64 ≤ (fed 64 bare).rx.fifo.length ∧ (0x41 : Byte) ≠ 0x18 := by decide +kernel
theorem witness_AssemblyAndTransmission : ((sending ['A']).tx.sending = true ∧ (sending ['A']).tx.queue = 'A' :: [] ∧
    bare.tx.sending = false) ∧
    uartOn bare = true ∧ bare.rx.fifo = [] ∧ (fed 1 bare).rx.complete = false ∧
    (fed 1 bare).rx.fifo = ⟨'A', false⟩ :: [] ∧
    ({ bare with rx := { bare.rx with assembling := true, gap := true } } : Device).rx.gap = true ∧ bare.rx.assembling = false := by decide
def waitingRecords (replies longs : List Text) (d : Device) : Device := { d with tx := { d.tx with replies := replies, longs := longs } }
def noticeDue : Device := { onDeck with ntc := { onDeck.ntc with pending := onDeck.ntc.pending.put .met true } }
theorem witness_PlacementOfRecords : uartOn bare = true ∧ bare.tx.placing = [] ∧ (waitingRecords [ref1] [] bare).tx.replies = ref1 :: [] ∧
    (waitingRecords [ref1] [] bare).tx.queue.length + ref1.length ≤ 2048 ∧
    2048 < (sending (List.replicate 2046 'A')).tx.queue.length + ref1.length ∧ (sending ['A']).tx.queue ≠ [] ∧
    (busy .wgg .ended (waitingRecords [] [ref1] bare)).tx.longs = ref1 :: [] ∧
    noticeTurn (busy .wgg .ended (waitingRecords [] [ref1] bare)) = false ∧
    ({ bare with tx := { bare.tx with placing := ref1 } } : Device).tx.placing ≠ [] ∧
    (∀ c, (bare.ntc.pending.get c && bare.ntc.enabled.get c) = false) ∧
    (¬ RepliesWait noticeDue ∧ noticeDue.tx.queue = [] ∧ noticeDue.ntc.pending.get .met = true ∧ noticeDue.ntc.enabled.get .met = true ∧
      noticeDue.ntc.readySent = true ∧ noticeDue.tx.lastNotice = false ∧ noticeDue.ntc.pending.get .sys = false) := by
  refine ⟨by decide, by decide, by decide, by decide, by decide +kernel, by decide, by decide, by decide, by decide, ?_, ?_, by decide⟩
  · intro c; cases c <;> decide
  · rintro (h | ⟨r, h⟩)
    · exact h rfl
    · exact absurd h (List.not_mem_nil)
/-- `=ABT` goes before the record its abort causes, also where it waits behind an AUD read (R203, R204). -/
theorem test_abt_goes_first : let d := after (.abt []) (busy .zer (.zerWait 9) { bare with tx := { bare.tx with held := [.read ⟨[5], none⟩] } })
    d.tx.longs ≠ [] ∧ (after .recordPlacement d).tx.queue = [] := by decide
/-- An AUD whose read would wait for a report stays in the buffer (R186, R200). -/
theorem test_aud_waits : (match exec .recordDispatch ⟨received (recordText .aud [['5']]) false false
      (writing ⟨.discard, .audit 1 ⟨6, .calDiscard, none, none⟩⟩ onDeck), audited, []⟩ with
    | .next t => t.dev.rx.complete && t.dev.tx.held.isEmpty && t.dev.tx.replies.isEmpty
    | _ => false) = true := by decide
theorem witness_WeightArithmetic : bare.mst.active = none ∧ (0 < 20 ∧ onDeck.mst.active = some cal ∧ 0 < cal.n ∧ slotCal onDeck ⟨.i0, .i0⟩ = some slotA ∧
    slotA.configured = true ∧ configured onDeck ⟨.i3, .i3⟩ = false) ∧ slotA.lcell = some 3000000 ∧ slotA.lref = some 2000000 ∧ slotA.s = some 196500 ∧ slotA.z = some 12400 ∧
    slotA.tcal = some 200 ∧ 0 < 196500 := by decide
/-- A weight record of the worked case: F 5,000 fine units from zero, with the state NORMAL. -/
def heavy : WeightRecord := { worked with f := some 5000, g := some 6240, w := some 60 }
/-- A window one entry short of full, and full. -/
def still (n : Nat) (d : Device) : Device := { d with zsu := { d.zsu with window := List.replicate n ⟨5000, some 0⟩ } }
theorem witness_StableSample :
    (let d := phased .quiet
     running d = true ∧ (lineOf d .i0).phase = .quiet ∧ d.clc.cycle = some ⟨4, 40, false⟩ ∧ (lineOf d .i1).phase ≠ .quiet) ∧
    (let d := { phased .quiet with clc := { (phased .quiet).clc with polled := Quad.const (Quad.const false) } }
     ∀ k ∈ Ix.all, unpolled d k = []) ∧
    (onDeck.exe.stage = .none ∧ bare.mst.active = none ∧ onDeck.mst.active = some cal ∧ heavy.f = some 5000) ∧
    (windowThen cal heavy (still 99 onDeck).zsu.window).length = max 2 (cal.window / cal.p) ∧
    (windowThen cal heavy (still 98 onDeck).zsu.window).length ≠ max 2 (cal.window / cal.p) ∧
    (let d := { onDeck with zsu := { onDeck.zsu with set := false, z := some (-1300), zInit := none }, lsv := { onDeck.lsv with lane := .init } }
     d.zsu.z = some (-1300) ∧ d.zsu.set = false ∧ d.lsv.lane = .init ∧ d.mst.run = none ∧ (5000 - cal.zcal).natAbs ≤ 10 * cal.max ∧
       10 * cal.max < (798701 - cal.zcal).natAbs ∧ (beamLeft true d).lsv.beamIn.state = false ∧ (beamLeft false d).lsv.beamIn.state = true ∧
       (busy .zer (.zerWait 9) d).exe = ⟨some .zer, .zerWait 9⟩) ∧
    (clearLane.zsu.set = true ∧ clearLane.zsu.z = some (-1240) ∧ clearLane.zsu.zInit = some (-1240) ∧ heavy.g = some 6240 ∧
      clearLane.lsv.lane = .clear ∧ onDeck.lsv.lane ≠ .clear ∧ ¬ 2 * (6240 : Int).natAbs ≤ 100 * cal.d ∧
      2 * (1000 : Int).natAbs ≤ 100 * cal.d ∧ (5000 - (-1240) : Int).natAbs ≤ 4 * cal.max ∧ 4 * cal.max < (318761 - (-1240) : Int).natAbs) := by
  decide +kernel
/-- A ZER that sets zero in INIT with the entry beam BLOCKED ends once, with =ZER (R51, R52, R66). -/
theorem test_zer_ends_once :
    (zsuRecord NvStore.blank none heavy (busy .zer (.zerWait 9) (beamLeft false { still 99 onDeck with
      zsu := { (still 99 onDeck).zsu with set := false, z := some (-1300), zInit := none },
      lsv := { onDeck.lsv with lane := .init } }))).tx.longs = ["=ZER SET 63.00\r\n".toList] := by decide +kernel
theorem witness_CaptureEnds :
    (let d := busy .wgg (.capWait (.wgg ref1) 9) (still 99 onDeck)
     d.exe = ⟨some .wgg, .capWait (.wgg ref1) 9⟩ ∧ d.mst.active = some cal ∧ d.zsu.set = true ∧ d.lsv.lane = .onDeck ∧
       d.lsv.current = some (passage 318) ∧ findVisit d d.txu.nextVisit = none ∧ firstPlace (visitSlotFree d) 48 = some 1 ∧
       firstPlace (tareSlotFree d) 64 = some 1 ∧ QueueServed d ∧ findTare d ref1 = none) ∧
    (windowThen cal heavy (still 99 onDeck).zsu.window).length = max 2 (cal.window / cal.p) ∧
    (heavy.wstate = .normal ∧ heavy.w = some 60 ∧ tare1.tare ≤ 15000 ∧ findVisit tables 7 = some (1, visit1) ∧ visit1.first.weight < 40560) ∧
    (configured onDeck ⟨.i0, .i0⟩ = true ∧ heavy.states.sel ⟨.i0, .i0⟩ = .live ∧
      ({ heavy with states := heavy.states.put ⟨.i0, .i0⟩ .faulted } : WeightRecord).states.sel ⟨.i0, .i0⟩ = .faulted) ∧
    ({ clearLane with mst := { clearLane.mst with verif := some [] } } : Device).mst.verif = some [] ∧
    (60 < tare1.tare ∧ 60 < visit1.first.weight ∧ visit1.dir = .receival ∧ visit1.summary = none ∧ tables.txu.awaiting = [] ∧
      QueueServed tables ∧ visit1.first.passage = some 318 ∧ ∃ e ∈ [(⟨7, 318⟩ : AttachEntry)], e.visit = visit1.number) ∧
    (let d := { onDeck with txu := { onDeck.txu with visits := (List.range 48).map fun k => (k + 1, visit1) } }
     findVisit d d.txu.nextVisit = none ∧ firstPlace (visitSlotFree d) 48 = none) := by
  decide +kernel

def axle (n : Nat) (load : AxleLoad) : Axle := ⟨n, 10000, 13000, some ⟨300, 3000⟩, .first, none, load⟩
def interval (n : Nat) (set : List Nat) (u : Usability) (m : Option Int) : Interval :=
  ⟨n, set, 0, some 100, none, none, 0, 0, u, m, .none⟩
theorem witness_AxleBuilding : (running (lane .entering) = true ∧ (lane .entering).clc.cycle ≠ none ∧ lastHitOf (lane .entering) .a = some 1000 ∧
    1000 + 40 ≤ 1040 ∧ (lane .entering).lsv.current = some (passage 318) ∧ (lane .entering).lsv.lane = .entering) ∧
    (Axu.reset.counting = false ∧ Axu.reset.pendingA = [] ∧ Axu.reset.onModule = [] ∧
      ({ Axu.reset with pendingA := [10000], onModule := [1] } : Axu).pendingA = 10000 :: [] ∧ (passage 1).axles = [] ∧
      (passage 1).axles.length < 16 ∧ 16 ≤ (List.replicate 16 (axle 1 .unset)).length ∧ [axle 1 .unset].getLast? = some (axle 1 .unset)) ∧
    ((fixInterval 0 1 { Axu.reset with baseline := some 100, samples := [⟨1, 50, some 300, false, true⟩] } (interval 1 [1] .pending none)).usability =
        .usable ∧
      (fixInterval 1 1 Axu.reset (interval 1 [1] .pending none)).usability ≠ .usable) := by decide
/-- 05, worked case: the first two axles' loads, from intervals 1 and 2. -/
theorem test_solve : ((axuSolve Settings.default 100 ⟨Axu.reset, { passage 318 with
    axles := [axle 1 .unset, axle 2 .unset]
    intervals := [interval 1 [1] .usable (some 561240), interval 2 [1, 2] .usable (some 1398010)] }⟩).axles.map (·.load)) =
    [.fine 561240, .fine 836770] := by decide +kernel
theorem witness_AxleSolve : (running (lane .leaving) = true ∧ (lane .leaving).lsv.current = some (passage 318) ∧
      (lane .leaving).lsv.clear = some 600 ∧ (lane .leaving).lsv.lane = .leaving) ∧
    (let p := { passage 1 with axles := [axle 1 .unset, axle 2 .unset], intervals := [interval 1 [1] .usable (some 561240), interval 2 [1, 2] .usable (some 1398010)] }
     p.flags.reversed = false ∧ p.axles ≠ [] ∧ (∃ v ∈ p.intervals, v.usability ≠ .absent) ∧ p.axles.length ≤ 16 ∧
       (p.axles.map (·.number)).Nodup ∧ (∀ a ∈ p.axles, a.load = .unset) ∧ (p.intervals.map (·.number)).Nodup ∧
       (∀ v ∈ p.intervals, v.outcome = .none ∧ v.axles.Nodup ∧ (∀ n ∈ v.axles, ∃ a ∈ p.axles, a.number = n) ∧
         (v.usability ≠ .pending → (v.mean.isSome = true ↔ v.usability = .usable))) ∧
       foundIn p.intervals = [(1, 561240, 1), (2, 836770, 2)]) ∧
    ({ passage 1 with flags := { PassFlags.none with reversed := true } } : Passage).flags.reversed = true := by decide
theorem witness_AxleJudgement : (passage 1).flags.reversed = false ∧ (∀ a ∈ (passage 1).axles, a.load = .absent) ∧
    ({ passage 1 with flags := { PassFlags.none with reversed := true } } : Passage).flags.reversed = true ∧
    (∃ a ∈ ({ passage 1 with axles := [⟨1, 0, 1, none, .first, none, .fine 5⟩] } : Passage).axles, a.load ≠ .absent) := by decide

end Sys2Proof.Tests
end

section
/-! PROOF. Reference, symbols and the fields of a frame (R6 to R8), and the slot a BAD frame leaves (R11). -/

namespace Sys2Proof.Machine

/-! ### Reference and symbols (R6, R7) -/

theorem refOk_iff (ref : Nat) : refOk ref = true ↔ 384 * 64 ≤ 10 * ref ∧ 10 * ref ≤ 576 * 64 := by
  simp only [refOk, Bool.and_eq_true, decide_eq_true_eq]
  omega

/-- R7 without the nearest integer: the ratio 48 t / ref lies within a quarter of v + 10. -/
def SymbolFits (ref t v : Nat) : Prop := v ≤ 15 ∧ 4 * ((48 * t : Int) - (v + 10) * ref).natAbs ≤ ref

/-- The only integer within a quarter of 48 t / ref is the one the part rounds to. -/
theorem nearest_eq_of_within_quarter {ref t n : Nat} (href : 0 < ref) (h : 4 * ((48 * t : Int) - n * ref).natAbs ≤ ref) :
    (96 * t + ref) / (2 * ref) = n := by
  have hlow : n * (2 * ref) = 2 * (n * ref) := by ring
  have hhigh : (n + 1) * (2 * ref) = 2 * (n * ref) + 2 * ref := by ring
  rw [← Nat.cast_mul] at h
  exact Nat.div_eq_of_lt_le (by omega) (by omega)

theorem symbolValue_eq_some_iff {ref : Nat} (href : 0 < ref) (t v : Nat) : symbolValue ref t = some v ↔ SymbolFits ref t v := by
  have hdist (n : Nat) : max (48 * t) (n * ref) - min (48 * t) (n * ref) = ((48 * t : Int) - n * ref).natAbs := by
    rw [← Nat.cast_mul]
    omega
  have hten : ((v + 10 : Nat) : Int) = v + 10 := Nat.cast_add v 10
  simp only [symbolValue, hdist, Option.ite_none_right_eq_some, Option.some.injEq, SymbolFits, ← hten]
  constructor
  · rintro ⟨⟨hoff, hmin, hmax⟩, hv⟩
    have hn : (96 * t + ref) / (2 * ref) = v + 10 := by omega
    exact ⟨by omega, hn ▸ hoff⟩
  · rintro ⟨hv, hoff⟩
    rw [nearest_eq_of_within_quarter href hoff]
    exact ⟨⟨hoff, by omega, by omega⟩, by omega⟩

theorem symbolValue_le {ref t v : Nat} (h : symbolValue ref t = some v) : v ≤ 15 := by
  simp only [symbolValue, Option.ite_none_right_eq_some, Option.some.injEq] at h
  omega

theorem symbolValues_cons_eq_some_iff (ref t : Nat) (ts vs : List Nat) :
    symbolValues ref (t :: ts) = some vs ↔
      ∃ w ws, symbolValue ref t = some w ∧ symbolValues ref ts = some ws ∧ vs = w :: ws := by
  cases hw : symbolValue ref t with
  | none => simp [symbolValues, hw]
  | some w => cases hws : symbolValues ref ts <;> simp [symbolValues, hw, hws, eq_comm]

theorem symbolValues_eq_some_iff (ref : Nat) (syms vs : List Nat) :
    symbolValues ref syms = some vs ↔ List.Forall₂ (fun t v => symbolValue ref t = some v) syms vs := by
  induction syms generalizing vs with
  | nil => simp [symbolValues, eq_comm]
  | cons t ts ih => simp only [symbolValues_cons_eq_some_iff, ih, List.forall₂_cons_left_iff, exists_and_left]

theorem symbolValues_eq_some_iff_forall₂_fits {ref : Nat} (href : 0 < ref) (syms vs : List Nat) :
    symbolValues ref syms = some vs ↔ List.Forall₂ (SymbolFits ref) syms vs := by
  simp only [symbolValues_eq_some_iff, symbolValue_eq_some_iff href]

/-- The symbol rule over `Int`: a statement whose lengths and values are integers speaks of the two lists cast. -/
theorem forall₂_symbolFits_iff_int (ref : Nat) (syms vs : List Nat) :
    List.Forall₂ (SymbolFits ref) syms vs ↔
      List.Forall₂ (fun t v : Int => v ≤ 15 ∧ 4 * (48 * t - (v + 10) * ref).natAbs ≤ ref) (syms.map Nat.cast) (vs.map Nat.cast) := by
  simp only [List.forall₂_map_left_iff, List.forall₂_map_right_iff, Nat.cast_le_ofNat]
  rfl

theorem symbolValues_le {ref : Nat} {syms vs : List Nat} (h : symbolValues ref syms = some vs) : ∀ v ∈ vs, v ≤ 15 := by
  rw [symbolValues_eq_some_iff] at h
  induction h with
  | nil => simp
  | cons hv _ ih => exact List.forall_mem_cons.mpr ⟨symbolValue_le hv, ih⟩

/-! ### The fields of a frame (R8) -/

theorem bitSet_two_pow (n k : Nat) : bitSet n (2 ^ k) = n.testBit k := by
  rw [bitSet, Nat.testBit_eq_decide_div_mod_eq, beq_eq_decide]

/-- R8 on integers: U, less 1,048,576 above 524,287. -/
theorem rawOfSymbols_eq (v2 v3 v4 v5 v6 : Nat) :
    let u : Int := v2 * 65536 + v3 * 4096 + v4 * 256 + v5 * 16 + v6
    rawOfSymbols v2 v3 v4 v5 v6 = if u ≤ 524287 then u else u - 1048576 := by
  simp only [rawOfSymbols]
  split_ifs <;> omega

theorem rawOfSymbols_range {v2 v3 v4 v5 v6 : Nat} (h2 : v2 ≤ 15) (h3 : v3 ≤ 15) (h4 : v4 ≤ 15) (h5 : v5 ≤ 15) (h6 : v6 ≤ 15) :
    -524288 ≤ rawOfSymbols v2 v3 v4 v5 v6 ∧ rawOfSymbols v2 v3 v4 v5 v6 ≤ 524287 := by
  simp only [rawOfSymbols]
  split <;> omega

/-- A frame whose reference and eight symbols are good is decided by its check (R8). -/
theorem decodeFrame_of_symbols {ref : Nat} {syms : List Nat} {v1 v2 v3 v4 v5 v6 v7 v8 : Nat} (href : refOk ref = true)
    (hvals : symbolValues ref syms = some [v1, v2, v3, v4, v5, v6, v7, v8]) :
    decodeFrame ref syms = if v8 = frameCheck v1 v2 v3 v4 v5 v6 v7 then
      some ⟨v1 / 4, v1.testBit 1, v1.testBit 0, rawOfSymbols v2 v3 v4 v5 v6,
        ⟨v7.testBit 3, v7.testBit 2, v7.testBit 1, v7.testBit 0⟩⟩ else none := by
  simp only [← bitSet_two_pow]
  simp [decodeFrame, href, hvals]

/-! ### The slot a BAD frame leaves (R7, R11) -/

@[simp] theorem slotOf_storeSlot_self (i : SlotId) (x : Slot) (d : Device) : slotOf (storeSlot i x d) i = x := by
  obtain ⟨l, a⟩ := i
  cases l <;> cases a <;> rfl

@[simp] theorem slotOf_storeLine (l : Ix) (x : Line) (d : Device) (i : SlotId) : slotOf (storeLine l x d) i = slotOf d i := rfl

@[simp] theorem slotOf_raise (c : Notice) (d : Device) (i : SlotId) : slotOf (raise c d) i = slotOf d i := by
  unfold raise
  split <;> rfl

@[simp] theorem slotOf_refreshLights (d : Device) (i : SlotId) : slotOf (refreshLights d) i = slotOf d i := by
  unfold refreshLights
  split <;> rfl

/-- A slot that does not enter MISMATCH is stored as given; only that entry would mark it further (R19). -/
theorem slotOf_putSlot_of_no_entry (nv : NvStore) {i : SlotId} {x : Slot} {d : Device}
    (h : (slotOf d i).state ≠ .mismatch → x.state ≠ .mismatch) : slotOf (putSlot nv i x d) i = x := by
  unfold putSlot
  dsimp only
  split_ifs with hsame hmis
  · simp
  · exact absurd hmis (h fun hold => hsame (hmis.trans hold.symm))
  · simp

theorem countMiss_state_ne_mismatch (h : Nat) {x : Slot} (hx : x.state ≠ .mismatch) : (countMiss h x).state ≠ .mismatch := by
  unfold countMiss
  split_ifs
  · exact SlotState.noConfusion
  · exact hx

theorem countGood_state_ne_mismatch {x : Slot} (hx : x.state ≠ .mismatch) : (countGood x).state ≠ .mismatch := by
  unfold countGood
  split_ifs
  · exact SlotState.noConfusion
  · exact hx

@[simp] theorem countMiss_lastOutcome (h : Nat) (x : Slot) : (countMiss h x).lastOutcome = x.lastOutcome := by
  unfold countMiss
  split_ifs <;> rfl

@[simp] theorem countGood_lastOutcome (x : Slot) : (countGood x).lastOutcome = x.lastOutcome := by
  unfold countGood
  split_ifs <;> rfl

/-- No outcome by itself takes a slot to MISMATCH: only the identity check does (R19). -/
theorem stepSlot_state_ne_mismatch (h : Nat) (o : SlotOutcome) {x : Slot} (hx : x.state ≠ .mismatch) :
    (stepSlot h o x).state ≠ .mismatch := by
  cases hs : x.state <;> simp only [stepSlot, hs]
  case unused => exact SlotState.noConfusion
  case mismatch => exact absurd hs hx
  all_goals split_ifs <;> simp [toVerifying, toFaulted, countMiss_state_ne_mismatch, countGood_state_ne_mismatch, hs]

@[simp] theorem stepSlot_lastOutcome (h : Nat) (o : SlotOutcome) (x : Slot) : (stepSlot h o x).lastOutcome = x.lastOutcome := by
  cases hs : x.state <;> simp only [stepSlot, hs]
  all_goals split_ifs <;> simp [toVerifying, toFaulted]

@[simp] theorem missSlot_lastOutcome (h : Nat) (o : SlotOutcome) (x : Slot) : (missSlot h o x).lastOutcome = some o := by
  simp [missSlot, recordOutcome]

theorem missSlot_state_ne_mismatch (h : Nat) (o : SlotOutcome) {x : Slot} (hx : x.state ≠ .mismatch) :
    (missSlot h o x).state ≠ .mismatch :=
  stepSlot_state_ne_mismatch h o (x := recordOutcome o x) hx

theorem slotOf_missOutcome_self (nv : NvStore) (o : SlotOutcome) (i : SlotId) (d : Device) :
    slotOf (missOutcome nv o i d) i = missSlot d.nvc.settings.hold o (slotOf d i) :=
  slotOf_putSlot_of_no_entry nv (missSlot_state_ne_mismatch _ o)

theorem slotOf_badFrame_self (l a : Ix) (nv : NvStore) {d : Device} (hpoll : isPolled d ⟨l, a⟩ = true) :
    slotOf (badFrame l a nv d) ⟨l, a⟩ = missSlot d.nvc.settings.hold .bad (slotOf d ⟨l, a⟩) := by
  simp [badFrame, waitedMiss, hpoll, slotOf_missOutcome_self]

theorem replyFrame_of_not_valid {l a : Ix} {ref : Nat} {syms : List Nat} (nv : NvStore) {d : Device} (hrun : running d = true)
    (hwait : (lineOf d l).phase = .waiting a) (hbad : decodeFrame ref syms = none) :
    replyFrame l ref syms nv d = badFrame l a nv d := by
  simp [replyFrame, hrun, hwait, hbad]

/-- REPLY_FRAME with a frame that is not valid gives the polled slot the outcome BAD (R7, R11). -/
theorem exec_replyFrame_bad {l a : Ix} {ref : Nat} {syms : List Nat} {s : State} (hrun : running s.dev = true)
    (hwait : (lineOf s.dev l).phase = .waiting a) (hpoll : isPolled s.dev ⟨l, a⟩ = true) (hbad : decodeFrame ref syms = none) :
    ∃ t, exec (.replyFrame l ref syms) s = .next t ∧ (slotOf t.dev ⟨l, a⟩).lastOutcome = some .bad := by
  refine ⟨_, rfl, ?_⟩
  simp [replyFrame_of_not_valid s.nv hrun hwait hbad, slotOf_badFrame_self l a s.nv hpoll]

/-- Settles O34: the reference's range and the symbol rule, then the frame's fields and the two outcomes of its check. -/
theorem frameFields : Obligations.FrameFields := by
  refine ⟨refOk_iff, fun ref syms vs href => ?_, fun ref syms v1 v2 v3 v4 v5 v6 v7 v8 href hvals => ?_⟩
  · -- the statement casts its lists by a monadic lift, which is `flatMap` by definition
    rw [symbolValues_eq_some_iff_forall₂_fits href, forall₂_symbolFits_iff_int, List.map_eq_flatMap, List.map_eq_flatMap]
    rfl
  · intro u right
    have hraw : rawOfSymbols v2 v3 v4 v5 v6 = if u ≤ 524287 then u else u - 1048576 := rawOfSymbols_eq v2 v3 v4 v5 v6
    have hcheck : right = true ↔ v8 = frameCheck v1 v2 v3 v4 v5 v6 v7 := by simp [right, frameCheck]
    have hframe := decodeFrame_of_symbols href hvals
    simp only [← hcheck, hraw] at hframe
    refine ⟨hframe, fun hwrong l a s hrun hwait hpoll => ?_, fun _ => ?_⟩
    · exact exec_replyFrame_bad hrun hwait hpoll (by simp [hframe, hwrong])
    · have hle := symbolValues_le hvals
      simp only [List.forall_mem_cons] at hle
      obtain ⟨_, h2, h3, h4, h5, h6, _⟩ := hle
      exact hraw ▸ rawOfSymbols_range h2 h3 h4 h5 h6

end Sys2Proof.Machine
end

section
/-! PROOF. Weights (R28 to R39, R43): the rounding convention, the cell weight, what the slots contribute, the loads they sum to, the
filter, and the fields of a weight record. -/

namespace Sys2Proof.Machine

open Sys2Proof.Safety

/-! ### Rounding (section 4.2) -/

/-- The quotient `(2 a + d) / (2 d)` of naturals rounds a / d to the nearest, halves up. -/
theorem two_mul_div_bounds {a d : Nat} (hd : 0 < d) :
    let q := (2 * a + d) / (2 * d)
    2 * (q * d) ≤ 2 * a + d ∧ 2 * a < 2 * (q * d) + d := by
  intro q
  have hmul : q * (2 * d) = 2 * (q * d) := by ring
  have hle : q * (2 * d) ≤ 2 * a + d := Nat.div_mul_le_self _ _
  have hlt : 2 * a + d < q * (2 * d) + 2 * d := Nat.lt_div_mul_add (by omega)
  omega

theorem nearest_roundDiv (n : Int) {d : Nat} (hd : 0 < d) : Nearest n d (roundDiv n d) := by
  obtain ⟨hle, hlt⟩ := two_mul_div_bounds (a := n.natAbs) hd
  unfold Nearest roundDiv
  generalize (2 * n.natAbs + d) / (2 * d) = q at hle hlt
  dsimp only
  split_ifs with hneg
  · rw [neg_mul, Int.natAbs_neg, Int.natAbs_natCast, ← Nat.cast_mul]
    omega
  · rw [Int.natAbs_natCast, ← Nat.cast_mul]
    omega

/-! ### The cell weight (R28 to R30) -/

theorem clampLow_le_clampHigh (lcell : Nat) : clampLow lcell ≤ clampHigh lcell := by
  simp only [clampLow, clampHigh, roundDiv]
  split_ifs <;> omega

theorem clampWeight_mem_bounds (lcell : Nat) (w : Int) :
    clampLow lcell ≤ (clampWeight lcell w).1 ∧ (clampWeight lcell w).1 ≤ clampHigh lcell := by
  have hbounds := clampLow_le_clampHigh lcell
  unfold clampWeight
  split_ifs <;> dsimp only <;> omega

/-- R30: whatever the count, the weight lies within its slot's bounds. -/
theorem cellWeight_mem_bounds (c : SlotCal) (raw temp : Int) (ovl : Bool) :
    clampLow (c.lcell.getD 0) ≤ (cellWeight c raw temp ovl).1 ∧ (cellWeight c raw temp ovl).1 ≤ clampHigh (c.lcell.getD 0) := by
  cases ovl
  case false => exact clampWeight_mem_bounds _ _
  case true => exact ⟨clampLow_le_clampHigh _, le_rfl⟩

/-- R28 to R30 for a slot whose calibration fields are all set. -/
theorem cellWeight_eq {c : SlotCal} {lcell lref s : Nat} {z tcal : Int} (hlcell : c.lcell = some lcell) (hlref : c.lref = some lref)
    (hs : c.s = some s) (hz : c.z = some z) (htcal : c.tcal = some tcal) (raw temp : Int) (ovl : Bool) :
    cellWeight c raw temp ovl = if ovl then (clampHigh lcell, true)
      else clampWeight lcell (roundDiv ((raw - z - roundDiv (c.k * (temp - tcal)) 100) * lref) s) := by
  simp [cellWeight, rawWeight, tempOffset, hlcell, hlref, hs, hz, htcal]

/-! ### The weight of a gross (R37 to R39) -/

theorem weightOf_is_nearest_multiple {d : Nat} (g : Int) (hd : 0 < d) : ∃ n : Int, weightOf d g = d * n ∧ Nearest g (100 * d) n :=
  ⟨roundDiv g (100 * d), rfl, nearest_roundDiv g (by omega)⟩

/-- R38 in its own terms: d_fine is 100 d. -/
theorem weightState_some (max d : Nat) (g : Int) : weightState max d (some g) =
    if (((max + 9 * d) * 100 : Nat) : Int) < g then .over else if g < -((20 * (100 * d) : Nat) : Int) then .under else .normal := by
  rw [← Nat.mul_assoc 20]
  rfl

theorem zeroCentre_eq_true_iff (d : Nat) (set : Bool) (ws : WeightState) (g : Option Int) :
    zeroCentre d set ws g = true ↔ ws = .normal ∧ set = true ∧ ∃ g', g = some g' ∧ 4 * g'.natAbs ≤ 100 * d := by
  cases g with
  | none => simp [zeroCentre]
  | some g =>
    have hquarter : absInt g ≤ ((25 * d : Nat) : Int) ↔ 4 * g.natAbs ≤ 100 * d := by
      unfold absInt
      omega
    simp only [zeroCentre, Bool.and_eq_true, beq_iff_eq, decide_eq_true_eq, hquarter, and_assoc, Option.some.injEq, exists_eq_left']

/-! ### Last-good records (R31) -/

theorem lastGoodAfter_fresh {c : SlotCal} {x : SlotSample} {raw temp : Int} {f : StatusFlags} (old : Option LastGood)
    (hc : c.configured = true) (hlive : x.state = .live) (hgood : x.outcome = .good) (hraw : x.raw = some raw)
    (htemp : x.temp = some temp) (hflags : x.flags = some f) :
    lastGoodAfter (some c) x old = some (lastGoodOf c raw temp f.ovl) := by
  simp [lastGoodAfter, hc, hlive, hgood, hraw, htemp, hflags]

theorem lastGoodAfter_holding (cal : Option SlotCal) {x : SlotSample} (old : Option LastGood) (h : x.state = .holding) :
    lastGoodAfter cal x old = old := by
  simp [lastGoodAfter, h]

/-- A LIVE slot with nothing fresh keeps its record. -/
theorem lastGoodAfter_live_kept {cal : Option SlotCal} {x : SlotSample} (old : Option LastGood) (hlive : x.state = .live)
    (h : x.outcome ≠ .good ∨ (cal.map (·.configured)).getD false = false) : lastGoodAfter cal x old = old := by
  cases cal with
  | none => simp [lastGoodAfter, hlive]
  | some c =>
    simp only [lastGoodAfter, hlive]
    refine if_neg ?_
    rintro ⟨hconf, hgood⟩
    rcases h with h | h
    · exact h hgood
    · exact absurd hconf (by simpa using h)

theorem lastGoodAfter_outside (cal : Option SlotCal) {x : SlotSample} (old : Option LastGood) (hlive : x.state ≠ .live)
    (hhold : x.state ≠ .holding) : lastGoodAfter cal x old = none := by
  unfold lastGoodAfter
  split <;> simp_all

/-! ### Contributions (R31) -/

/-- The weight a slot gives: that of its last-good record, when it is LIVE with a GOOD outcome or HOLDING. -/
def weightGiven (x : SlotSample) (lg : Option LastGood) : Option Int :=
  if (x.state = .live ∧ x.outcome = .good) ∨ x.state = .holding then lg.map (·.weight) else none

/-- The slot gives a held weight. -/
def givesHeld (x : SlotSample) (lg : Option LastGood) : Bool := decide (x.state = .holding) && lg.isSome

/-- The weight a slot gives has its CLAMPED mark. -/
def givesClamped (x : SlotSample) (lg : Option LastGood) : Bool := (weightGiven x lg).isSome && (lg.map (·.clamped)).getD false

theorem contribution_record (x : SlotSample) (lg : Option LastGood) :
    (contribution x lg).2 = if (x.state = .live ∧ x.outcome = .good) ∨ x.state = .holding then lg else none := by
  cases hs : x.state <;> simp only [contribution, hs]
  case live => split_ifs <;> simp_all
  case holding => cases lg <;> simp
  all_goals simp

theorem contribution_weight (x : SlotSample) (lg : Option LastGood) : (contribution x lg).2.map (·.weight) = weightGiven x lg := by
  rw [contribution_record, weightGiven]
  split_ifs <;> rfl

theorem contribution_clamped (x : SlotSample) (lg : Option LastGood) :
    ((contribution x lg).2.map (·.clamped)).getD false = givesClamped x lg := by
  rw [contribution_record, givesClamped, weightGiven]
  split_ifs
  · cases lg <;> rfl
  · rfl

theorem contribution_kind (x : SlotSample) (lg : Option LastGood) :
    (contribution x lg).1 = if x.state = .live ∧ x.outcome = .good then .fresh else if givesHeld x lg = true then .held else .none := by
  cases hs : x.state <;> simp only [contribution, givesHeld, hs]
  case live => split_ifs <;> simp_all
  case holding => cases lg <;> simp
  all_goals simp

theorem contribution_held (x : SlotSample) (lg : Option LastGood) : ((contribution x lg).1 == .held) = givesHeld x lg := by
  rw [contribution_kind]
  split_ifs with hfresh hheld
  · simp [givesHeld, hfresh.1]
  · exact hheld.symm
  · exact (Bool.eq_false_iff.mpr hheld).symm

/-! ### Sums of contributions (R32, R33) -/

theorem sumInt_eq_sum (l : List Int) : sumInt l = l.sum := List.sum_eq_foldl.symm

/-- A list is read whole or not at all. -/
theorem mapM_option_eq_ite {α β : Type} (g : α → Option β) (z : β) (l : List α) :
    l.mapM g = if l.any (fun i => (g i).isNone) then none else some (l.map fun i => (g i).getD z) := by
  induction l with
  | nil => rfl
  | cons i l ih => cases hi : g i <;> by_cases hl : l.any (fun i => (g i).isNone) <;> simp [List.mapM_cons, ih, hi, hl]

theorem sumLoads_map {α : Type} (part : α → ContribKind × Option LastGood) (l : List α) :
    sumLoads (l.map part) = ⟨(l.mapM fun i => (part i).2.map (·.weight)).map List.sum, l.any fun i => (part i).1 == .held,
      l.any fun i => ((part i).2.map (·.clamped)).getD false⟩ := by
  simp only [mapM_option_eq_ite _ (0 : Int), sumLoads, sumInt_eq_sum, List.map_map, List.any_map, Function.comp_def, Option.isNone_map]
  split_ifs <;> rfl

/-- The load of a set of slots, each given by its sample and last-good record. -/
theorem sumLoads_contributions (x : SlotId → SlotSample) (lg : SlotId → Option LastGood) (l : List SlotId) :
    sumLoads (l.map fun i => contribution (x i) (lg i)) =
      ⟨(l.mapM fun i => weightGiven (x i) (lg i)).map List.sum, l.any fun i => givesHeld (x i) (lg i),
        l.any fun i => givesClamped (x i) (lg i)⟩ := by
  simp only [sumLoads_map, contribution_weight, contribution_held, contribution_clamped]

/-! ### The filter (R34) -/

theorem historyAfter_some_ne_nil {n : Nat} (hn : 0 < n) (t : Int) (h : List Int) : historyAfter n (some t) h ≠ [] := by
  simp only [historyAfter, pushCapped, keepLast, ne_eq, List.drop_eq_nil_iff, List.length_append, List.length_singleton]
  omega

/-- F is the mean of a history that holds at least one total, rounded to the nearest. -/
theorem filtered_nearest {h : List Int} (hne : h ≠ []) (t : Int) :
    ∃ f, filtered (some t) h = some f ∧ Nearest h.sum h.length f :=
  ⟨roundDiv h.sum h.length, by simp [filtered, hne, sumInt_eq_sum], nearest_roundDiv _ (List.length_pos_iff.mpr hne)⟩

/-! ### The weight record (R40) -/

@[simp] theorem quad_get_tab {α : Type} (f : Ix → α) (i : Ix) : (Quad.tab f).get i = f i := by
  cases i <;> rfl

@[simp] theorem slots_sel_tab {α : Type} (f : SlotId → α) (i : SlotId) : (Slots.tab f).sel i = f i := by
  simp [Slots.tab, Slots.sel]

section
variable (sr : SampleRecord) (x : Device)

theorem csuRecord_lastGood (i : SlotId) :
    (csuRecord sr x).2.lastGood.sel i = lastGoodAfter (slotCal x i) (sr.slots.sel i) (x.csu.lastGood.sel i) :=
  slots_sel_tab _ i

/-- The weight a slot gives to a weight record; `heldAt` and `clampedAt` are its marks. -/
def gives (i : SlotId) : Option Int := weightGiven (sr.slots.sel i) ((csuRecord sr x).2.lastGood.sel i)
def heldAt (i : SlotId) : Bool := givesHeld (sr.slots.sel i) ((csuRecord sr x).2.lastGood.sel i)
def clampedAt (i : SlotId) : Bool := givesClamped (sr.slots.sel i) ((csuRecord sr x).2.lastGood.sel i)

/-- The load of some slots, from what each gives. -/
def loadOf (l : List SlotId) : ModuleLoad :=
  ⟨(l.mapM (gives sr x)).map List.sum, l.any (heldAt sr x), l.any (clampedAt sr x)⟩

theorem loadOf_eq_sumLoads (l : List SlotId) :
    loadOf sr x l = sumLoads (l.map fun i => contribution (sr.slots.sel i) ((csuRecord sr x).2.lastGood.sel i)) :=
  (sumLoads_contributions _ _ l).symm

/-- The configured slots among some. -/
abbrev usedOf (l : List SlotId) : List SlotId := l.filter (configured x)

/-- The deck's sum, INVALID with no slot configured (R33). -/
def deckOf : ModuleLoad :=
  if usedOf x SlotId.all = [] then ⟨none, false, false⟩ else loadOf sr x (usedOf x SlotId.all)

theorem csuRecord_deck :
    (csuRecord sr x).1.total = (deckOf sr x).load ∧
      (csuRecord sr x).1.held = ((deckOf sr x).load.isSome && (deckOf sr x).held) ∧
      (csuRecord sr x).1.clamped = ((deckOf sr x).load.isSome && (deckOf sr x).clamped) := by
  simp only [deckOf, loadOf_eq_sumLoads, ← List.isEmpty_iff]
  exact ⟨rfl, rfl, rfl⟩

theorem csuRecord_total :
    (csuRecord sr x).1.total = if usedOf x SlotId.all = [] then none else ((usedOf x SlotId.all).mapM (gives sr x)).map List.sum := by
  rw [(csuRecord_deck sr x).1, deckOf]
  split_ifs <;> rfl

/-- A mark of the deck total: some slot used gives a weight that has it. -/
theorem csuRecord_held :
    (csuRecord sr x).1.held = ((csuRecord sr x).1.total.isSome && (usedOf x SlotId.all).any (heldAt sr x)) := by
  obtain ⟨htotal, hheld, -⟩ := csuRecord_deck sr x
  rw [hheld, htotal, deckOf]
  split_ifs <;> rfl

theorem csuRecord_clamped :
    (csuRecord sr x).1.clamped = ((csuRecord sr x).1.total.isSome && (usedOf x SlotId.all).any (clampedAt sr x)) := by
  obtain ⟨htotal, -, hclamped⟩ := csuRecord_deck sr x
  rw [hclamped, htotal, deckOf]
  split_ifs <;> rfl

theorem csuRecord_module (m : Ix) :
    (csuRecord sr x).1.modules.get m =
      if usedOf x (SlotId.ofLine m) = [] then none else some (loadOf sr x (usedOf x (SlotId.ofLine m))) := by
  simp only [loadOf_eq_sumLoads, ← List.isEmpty_iff]
  exact quad_get_tab _ m

theorem csuRecord_kind (i : SlotId) :
    (csuRecord sr x).1.kinds.sel i = if configured x i = false then .none
      else if (sr.slots.sel i).state = .live ∧ (sr.slots.sel i).outcome = .good then .fresh
      else if heldAt sr x i = true then .held else .none := by
  have hkind : (csuRecord sr x).1.kinds.sel i = if configured x i = true then
      (contribution (sr.slots.sel i) ((csuRecord sr x).2.lastGood.sel i)).1 else .none := slots_sel_tab _ i
  rw [hkind, contribution_kind]
  cases configured x i <;> rfl

theorem csuRecord_state (i : SlotId) : (csuRecord sr x).1.states.sel i = (sr.slots.sel i).state := slots_sel_tab _ i

theorem csuRecord_f : (csuRecord sr x).1.f = filtered (csuRecord sr x).1.total (csuRecord sr x).2.history := rfl

theorem csuRecord_history : (csuRecord sr x).2.history =
    historyAfter ((x.mst.active.map (·.n)).getD 1) (csuRecord sr x).1.total x.csu.history := rfl

theorem csuRecord_g : (csuRecord sr x).1.g = (match (csuRecord sr x).1.f, x.zsu.z with
    | some f, some z => some (f - z)
    | _, _ => none) := rfl

/-- Without a valid total the filter is empty and F is none (R34). -/
theorem csuRecord_of_total_none (h : (csuRecord sr x).1.total = none) :
    (csuRecord sr x).1.f = none ∧ (csuRecord sr x).2.history = [] := by
  rw [csuRecord_f, csuRecord_history, h]
  exact ⟨rfl, rfl⟩

/-- Without an active record no slot is configured, so there is no gross (R27, R33). -/
theorem csuRecord_g_of_uncalibrated (h : x.mst.active = none) : (csuRecord sr x).1.g = none := by
  have htotal : (csuRecord sr x).1.total = none := by simp [csuRecord_total, usedOf, configured, slotCal, h]
  rw [csuRecord_g, (csuRecord_of_total_none sr x htotal).1]

theorem csuRecord_wstate : (csuRecord sr x).1.wstate =
    weightState ((x.mst.active.map (·.max)).getD 0) ((x.mst.active.map (·.d)).getD 1) (csuRecord sr x).1.g := rfl

theorem csuRecord_zeroCentre : (csuRecord sr x).1.zeroCentre =
    zeroCentre ((x.mst.active.map (·.d)).getD 1) x.zsu.set (csuRecord sr x).1.wstate (csuRecord sr x).1.g := rfl

theorem csuRecord_w : (csuRecord sr x).1.w = (csuRecord sr x).1.g.map (weightOf ((x.mst.active.map (·.d)).getD 1)) := rfl

theorem csuRecord_of_uncalibrated (h : x.mst.active = none) :
    (csuRecord sr x).1.wstate = .invalid ∧ (csuRecord sr x).1.zeroCentre = false := by
  rw [csuRecord_zeroCentre, csuRecord_wstate, csuRecord_g_of_uncalibrated sr x h]
  exact ⟨rfl, rfl⟩

/-- F of a weight record with a valid total, the filter keeping at least one (R34). -/
theorem csuRecord_f_nearest {r : CalRecord} (hr : x.mst.active = some r) (hn : 0 < r.n) {t : Int}
    (ht : (csuRecord sr x).1.total = some t) :
    ∃ f, (csuRecord sr x).1.f = some f ∧ Nearest (csuRecord sr x).2.history.sum (csuRecord sr x).2.history.length f := by
  have hne : (csuRecord sr x).2.history ≠ [] := by
    rw [csuRecord_history, ht, hr]
    exact historyAfter_some_ne_nil hn t _
  rw [csuRecord_f, ht]
  exact filtered_nearest hne t

end

/-! ### The statement -/

/-- Settles O54: the cell weight's rounding and bounds, the weight and its state, the last-good records, the sums over the deck and each
module, and the filter. -/
theorem weightArithmetic : Obligations.WeightArithmetic := by
  refine ⟨?cell, ⟨fun d g => weightOf_is_nearest_multiple g, ?gross, ?shown, by decide, by decide⟩, ?record, fun _ => rfl⟩
  case cell =>
    intro c lcell lref s z tcal raw temp ovl hlcell hlref hs hz htcal hpos r
    have hbounds := cellWeight_mem_bounds c raw temp ovl
    rw [hlcell, Option.getD_some] at hbounds
    exact ⟨_, _, _, _, nearest_roundDiv _ (by decide), nearest_roundDiv _ hpos, nearest_roundDiv _ (by decide),
      nearest_roundDiv _ (by decide), cellWeight_eq hlcell hlref hs hz htcal raw temp ovl, hbounds⟩
  case gross =>
    intro sr x r hr
    exact ⟨by rw [csuRecord_w, hr]; rfl, csuRecord_g sr x⟩
  case shown =>
    intro wr
    cases h : wr.wstate <;> simp only [weightField, h] <;> rfl
  case record =>
    intro sr x
    refine ⟨fun i => ⟨?fresh, ?kept, ?emptied⟩, csuRecord_total sr x,
      ⟨csuRecord_held sr x, csuRecord_clamped sr x, csuRecord_module sr x, fun i => ⟨csuRecord_kind sr x i, csuRecord_state sr x i⟩⟩,
      csuRecord_of_uncalibrated sr x, fun r hr => ⟨?wstate, ?centre⟩, fun r hr hn => ⟨?history, fun t => csuRecord_f_nearest sr x hr hn⟩,
      csuRecord_of_total_none sr x⟩
    case fresh =>
      intro c raw temp f hcal hconf hlive hgood hraw htemp hflags
      rw [csuRecord_lastGood, hcal]
      exact lastGoodAfter_fresh _ hconf hlive hgood hraw htemp hflags
    case kept =>
      rw [csuRecord_lastGood]
      rintro (hhold | ⟨hlive, hno⟩)
      · exact lastGoodAfter_holding _ _ hhold
      · exact lastGoodAfter_live_kept _ hlive hno
    case emptied =>
      rw [csuRecord_lastGood]
      exact lastGoodAfter_outside _ _
    case wstate =>
      rw [csuRecord_wstate, hr]
      cases (csuRecord sr x).1.g with
      | none => rfl
      | some g => exact weightState_some r.max r.d g
    case centre =>
      rw [csuRecord_zeroCentre, hr]
      exact zeroCentre_eq_true_iff _ _ _ _
    case history =>
      rw [csuRecord_history, hr]
      rfl

end Sys2Proof.Machine
end

section
/-! PROOF. The two lights (R82, R83, R85): what evaluating them again writes, and that every command ends by doing so. -/

namespace Sys2Proof.Machine

open Sys2Proof.Safety

/-! ### Conditions and modes (R82, R83) -/

theorem running_iff (d : Device) : running d = true ↔ d.power.phase = .run := beq_iff_eq

theorem entryAuto_iff (d : Device) : entryAuto d = true ↔
    d.lsv.lane = .clear ∧ d.zsu.set = true ∧ d.mst.state ≠ .uncalibrated ∧ d.mst.run = none := by
  simp [entryAuto, calibratedOrSuspect, runOpen, and_assoc]

theorem exitAuto_iff (d : Device) : exitAuto d = true ↔
    (d.lsv.lane = .onDeck ∨ d.lsv.lane = .leaving) ∧ ∃ p, d.lsv.current = some p ∧ p.ring ≠ [] := by
  cases h : d.lsv.current <;> simp [exitAuto, h]

theorem lightOut_iff (mode : LightMode) (auto : Bool) :
    lightOut mode auto = true ↔ mode = .forceGreen ∨ mode = .auto ∧ auto = true := by
  cases mode <;> simp [lightOut]

/-! ### Evaluating the lights again -/

/-- In and outside operation alike: the mode's output, RED outside operation (R85), with nothing else changed. -/
theorem refreshLights_eq (d : Device) : refreshLights d = { d with lsv := { d.lsv with
    greenIn := running d && lightOut d.lsv.modeIn (entryAuto d)
    greenOut := running d && lightOut d.lsv.modeOut (exitAuto d) } } := by
  cases h : running d <;> simp [refreshLights, h]

theorem entryLightRule_refreshLights (d : Device) : EntryLightRule (refreshLights d) := by
  simp only [EntryLightRule, refreshLights_eq, Bool.and_eq_true, running_iff, lightOut_iff, entryAuto_iff]

theorem exitLightRule_refreshLights (d : Device) : ExitLightRule (refreshLights d) := by
  simp only [ExitLightRule, refreshLights_eq, Bool.and_eq_true, running_iff, lightOut_iff, exitAuto_iff]

/-- The conditions name none of the outputs, so the outputs written follow the rule of the very state they are written to. -/
theorem lightRule_refreshLights (d : Device) : LightRule (refreshLights d) :=
  ⟨entryLightRule_refreshLights d, exitLightRule_refreshLights d⟩

/-! ### Every command goes through `State.act` or `State.actNv` -/

/-- The five events that may change the store go through `State.actNv`; every other command reads it alone. -/
theorem exec_eq_act_or_actNv (c : Instr) (s : State) : (∃ f, exec c s = s.act f) ∨ ∃ f, exec c s = s.actNv f := by
  cases c
  case powerOn | resetLineLow | resetLineRelease | nvcWriteComplete | powerFailure => exact .inr ⟨_, rfl⟩
  all_goals exact .inl ⟨_, rfl⟩

theorem exec_next_dev_eq_refreshLights {c : Instr} {s t : State} (h : exec c s = .next t) : ∃ d, t.dev = refreshLights d := by
  obtain ⟨f, hf⟩ | ⟨f, hf⟩ := exec_eq_act_or_actNv c s
  · cases hf.symm.trans h
    exact ⟨_, rfl⟩
  · cases hf.symm.trans h
    exact ⟨_, rfl⟩

/-- Settles O4: every command ends by evaluating the lights again, and lights just evaluated follow the rule. -/
theorem lightOutputsFollowRule : Obligations.LightOutputsFollowRule := by
  intro c s t h
  obtain ⟨d, hd⟩ := exec_next_dev_eq_refreshLights h
  exact hd ▸ lightRule_refreshLights d

end Sys2Proof.Machine
end

section
/-! PROOF. Steps and commands: what a step runs, that every command completes, what reset leaves, and which commands can touch the
non-volatile store. -/

namespace Sys2Proof.Machine

open Sys2Proof.Safety

/-! ### Steps -/

/-- Settles O1: it is the second equation of `step`. -/
theorem stepRunsFrontCommand : Obligations.StepRunsFrontCommand := by
  intro c rest s h
  simp only [step, h]

/-- Settles O2: `State.act` and `State.actNv` always answer a next state and leave the queue of commands alone. -/
theorem everyCommandCompletes : Obligations.EveryCommandCompletes := by
  intro c s
  obtain ⟨f, hf⟩ | ⟨f, hf⟩ := exec_eq_act_or_actNv c s
  · exact ⟨_, hf, rfl⟩
  · exact ⟨_, hf, rfl⟩

/-- What every command keeps, every step keeps: a step runs the front command or idles. -/
theorem step_keeps {P : State → Prop} (hq : ∀ s q, P s → P { s with pending := q })
    (hx : ∀ c s t, P s → exec c s = .next t → P t) {s t : State} (hs : P s) (h : step s = .next t) : P t := by
  unfold step at h
  split at h
  · cases h; exact hs
  · exact hx _ _ _ (hq s _ hs) h

/-! ### Reset -/

theorem zeroRule_reset : ZeroRule State.reset.dev :=
  ⟨⟨fun _ => rfl, fun _ => rfl⟩, fun _ => ⟨rfl, rfl⟩, fun h => absurd h (by decide)⟩

/-- Settles O3: the reset state is a literal; its slots, its lines and its notice classes are read off index by index. -/
theorem resetState : Obligations.ResetState := by
  have slots : ∀ i, slotOf State.reset.dev i = Slot.reset .unused := by
    rintro ⟨l, a⟩; cases l <;> cases a <;> rfl
  have lines : ∀ l, (lineOf State.reset.dev l).status = .active ∧ (lineOf State.reset.dev l).phase = .idle := by
    intro l; cases l <;> exact ⟨rfl, rfl⟩
  have notices : ∀ c, State.reset.dev.ntc.enabled.get c = true ∧ State.reset.dev.ntc.pending.get c = false := by
    intro c; cases c <;> exact ⟨rfl, rfl⟩
  have bounds : PortBounds State.reset.dev := by decide
  have form : StoreForm State.reset.nv := by decide
  have lights : LightRule State.reset.dev := lightRule_refreshLights State.reset.dev
  refine ⟨⟨slots, lines, ?_⟩, form, zeroRule_reset, bounds, fun h => absurd h (by decide), lights⟩
  exact ⟨rfl, rfl, rfl, rfl, rfl, rfl, rfl, rfl, rfl, rfl, rfl, rfl, rfl, rfl, rfl, rfl, rfl, rfl, rfl, rfl, rfl, rfl, rfl, rfl,
    rfl, rfl, rfl, rfl, rfl, rfl, rfl, rfl, rfl, rfl, rfl, rfl, rfl, rfl, rfl, notices, rfl, rfl⟩

/-! ### The commands that can touch the store -/

/-- Every command but five reads the store alone. -/
theorem exec_eq_act {c : Instr} (s : State) (h1 : ∀ a j, c ≠ .powerOn a j) (h2 : ∀ p, c ≠ .resetLineLow p)
    (h3 : ∀ a j, c ≠ .resetLineRelease a j) (h4 : ∀ x, c ≠ .nvcWriteComplete x) (h5 : ∀ p, c ≠ .powerFailure p) :
    ∃ f, exec c s = s.act f := by
  cases c
  case powerOn a j => exact absurd rfl (h1 a j)
  case resetLineLow p => exact absurd rfl (h2 p)
  case resetLineRelease a j => exact absurd rfl (h3 a j)
  case nvcWriteComplete x => exact absurd rfl (h4 x)
  case powerFailure p => exact absurd rfl (h5 p)
  all_goals exact ⟨_, rfl⟩

/-- Settles O5: `State.act` leaves the store as it is. -/
theorem storeChangesOnlyAtWritesAndPower : Obligations.StoreChangesOnlyAtWritesAndPower := by
  intro c s t h h1 h2 h3 h4 h5
  obtain ⟨f, hf⟩ := exec_eq_act s h1 h2 h3 h4 h5
  cases hf.symm.trans h
  rfl

/-! ### The store's form -/

theorem auditRepair_form (ok : Bool) {nv : NvStore} (d : Device) (h : StoreForm nv) : StoreForm (auditRepair ok nv d).1 := by
  unfold auditRepair
  split
  · exact land_form _ _ h
  · exact h

theorem journalRepair_form (ok : Bool) {nv : NvStore} (d : Device) (h : StoreForm nv) : StoreForm (journalRepair ok nv d).1 := by
  unfold journalRepair
  dsimp only
  split
  · split
    · exact land_form _ _ h
    · exact h
  · exact h

theorem scan_form (a j : Bool) {nv : NvStore} (d : Device) (h : StoreForm nv) : StoreForm (scan a j nv d).1 :=
  journalRepair_form j _ (auditRepair_form a _ h)

theorem writeComplete_form (ok : Bool) {nv : NvStore} (d : Device) (h : StoreForm nv) :
    StoreForm (writeComplete ok nv d).1 := by
  unfold writeComplete
  repeat' split
  exacts [land_form _ _ h, h, h]

/-- The repairs of the scan, a write's end and what a reset leaves of one are each puts into one table. -/
theorem exec_form {c : Instr} {s t : State} (hs : StoreForm s.nv) (h : exec c s = .next t) : StoreForm t.nv := by
  cases c
  case powerOn a j =>
    cases h
    unfold powerOn
    repeat' split
    exacts [hs, scan_form a j _ hs, hs]
  case resetLineLow p =>
    cases h
    unfold resetLineLow
    split
    exacts [cut_form _ p hs, hs]
  case resetLineRelease a j =>
    cases h
    unfold resetLineRelease
    split
    exacts [scan_form a j _ hs, hs]
  case nvcWriteComplete x => cases h; exact writeComplete_form x _ hs
  case powerFailure p =>
    cases h
    unfold powerFailure
    split
    exacts [hs, cut_form _ p hs]
  all_goals cases h; exact hs

/-- Settles O6. -/
theorem storeFormKept : Obligations.StoreFormKept :=
  fun _ _ hs h => step_keeps (P := fun s => StoreForm s.nv) (fun _ _ hs => hs) (fun _ _ _ hs h => exec_form hs h) hs h

end Sys2Proof.Machine
end

section
/-! PROOF. A served queue of the NVC holds requests only behind a write in progress (R186): what each operation does to the queue. -/

namespace Sys2Proof.Machine

open Sys2Proof.Safety

/-- `QueueServed` as a predicate of the NVC alone. -/
def Nvc.Served (n : Nvc) : Prop := n.serving = true → n.writing = none → n.queue = []

/-- The error report, the settings, the clock and the READY report are no part of it. -/
@[simp] theorem served_mk (n : Nvc) (r : ErrorReport) (s : Settings) (f : Bool) (c : Option Nat) (y : ReadyReport) :
    Nvc.Served ⟨n.queue, n.writing, n.serving, r, s, f, c, y⟩ ↔ n.Served := Iff.rfl

theorem served_foldl {α : Type} {f : Device → α → Device} (hf : ∀ d x, d.nvc.Served → (f d x).nvc.Served) (l : List α) {d : Device}
    (h : d.nvc.Served) : (l.foldl f d).nvc.Served := by
  induction l generalizing d with
  | nil => exact h
  | cons x l ih => exact ih (hf d x h)

theorem nvc_foldl {α : Type} {f : Device → α → Device} (hf : ∀ d x, (f d x).nvc = d.nvc) (l : List α) (d : Device) :
    (l.foldl f d).nvc = d.nvc := by
  induction l generalizing d with
  | nil => rfl
  | cons x l ih => exact (ih (f d x)).trans (hf d x)

@[simp] theorem joinReplies_nvc (r : Text) (d : Device) : (joinReplies r d).nvc = d.nvc := by
  unfold joinReplies; split <;> simp

@[simp] theorem reply_nvc (lead : Char) (tag : Text) (fields : List Text) (d : Device) :
    (reply lead tag fields d).nvc = d.nvc := joinReplies_nvc _ d

@[simp] theorem answer_nvc (t : Tag) (fields : List Text) (d : Device) : (answer t fields d).nvc = d.nvc := reply_nvc _ _ _ d

@[simp] theorem refuse_nvc (t : Tag) (c : Code) (d : Device) : (refuse t c d).nvc = d.nvc := reply_nvc _ _ _ d

@[simp] theorem sendLong_nvc (lead : Char) (tag : Text) (fields : List Text) (d : Device) :
    (sendLong lead tag fields d).nvc = d.nvc := by simp [sendLong]

@[simp] theorem setStage_nvc (st : Stage) (d : Device) : (setStage st d).nvc = d.nvc := by simp [setStage]

@[simp] theorem accept_nvc (t : Tag) (st : Stage) (d : Device) : (accept t st d).nvc = d.nvc := by simp [accept]

@[simp] theorem complete_nvc (fields : List Text) (d : Device) : (complete fields d).nvc = d.nvc := by simp [complete]

@[simp] theorem failWith_nvc (c : Code) (detail : List Text) (d : Device) : (failWith c detail d).nvc = d.nvc := by simp [failWith]

@[simp] theorem raise_nvc (c : Notice) (d : Device) : (raise c d).nvc = d.nvc := by
  unfold raise; split <;> simp

@[simp] theorem advance_nvc (t : Nat) (d : Device) : (advance t d).nvc = d.nvc := by simp [advance]

@[simp] theorem startWrite_nvc_served (d : Device) : (startWrite d).nvc.Served := startWrite_served d

@[simp] theorem request_served (r : WriteReq) (d : Device) : (request r d).nvc.Served := startWrite_served _

@[simp] theorem requestStatus_served (nv : NvStore) (rec : StatusRec) (forLong : Bool) {d : Device} (h : d.nvc.Served) :
    (requestStatus nv rec forLong d).nvc.Served := by
  unfold requestStatus; split <;> simp [h]

@[simp] theorem appendRefused_served (nv : NvStore) {d : Device} (h : d.nvc.Served) : (appendRefused nv d).nvc.Served := by
  unfold appendRefused; dsimp only; repeat' split
  all_goals simp [h]

@[simp] theorem append_served (nv : NvStore) (src : Requester) (body : AuditBody) (counter : Option Nat) {d : Device}
    (h : d.nvc.Served) :
    (append nv src body counter d).nvc.Served := by
  unfold append; split <;> simp [h]

@[simp] theorem requestDiscard_served (nv : NvStore) {d : Device} (h : d.nvc.Served) : (requestDiscard nv d).nvc.Served := by
  unfold requestDiscard; split <;> simp [h]

@[simp] theorem submitHeld_served (nv : NvStore) {d : Device} (x2 : HeldReq) (h : d.nvc.Served) :
    (submitHeld nv d x2).nvc.Served := by
  unfold submitHeld; split <;> simp [h]

@[simp] theorem releaseHeld_served (nv : NvStore) {d : Device} (h : d.nvc.Served) : (releaseHeld nv d).nvc.Served := by
  unfold releaseHeld
  exact served_foldl (fun _ _ h => by simp [h]) _ h

@[simp] theorem syncOwed_nvc (d : Device) : (syncOwed d).nvc = d.nvc := by simp [syncOwed]

@[simp] theorem requestFreeing_served (nv : NvStore) (x1 : Nat) {x2 : Device} (h : x2.nvc.Served) :
    (requestFreeing nv x1 x2).nvc.Served := by
  induction x1 generalizing x2 with
  | zero => exact h
  | succ n ih =>
    unfold requestFreeing; repeat' split
    all_goals simp [ih, h]

@[simp] theorem requestOwed_served (nv : NvStore) (x1 : Nat) {x2 : Device} (h : x2.nvc.Served) :
    (requestOwed nv x1 x2).nvc.Served := by
  induction x1 generalizing x2 with
  | zero => exact h
  | succ n ih =>
    unfold requestOwed; repeat' split
    all_goals simp [ih, h]

@[simp] theorem requestAttachments_served (nv : NvStore) {d : Device} (h : d.nvc.Served) :
    (requestAttachments nv d).nvc.Served := by simp [requestAttachments, h]

@[simp] theorem dropAttachment_nvc (visit : Nat) (d : Device) : (dropAttachment visit d).nvc = d.nvc := by simp [dropAttachment]

@[simp] theorem requestJournal_served (rec : JournalRec) (d : Device) : (requestJournal rec d).nvc.Served := by
  simp [requestJournal]

@[simp] theorem makeOwn_served (nv : NvStore) (x1 : Draft) (d : Device) : (makeOwn nv x1 d).nvc.Served := by
  simp [makeOwn]

@[simp] theorem makeRecord_served (nv : NvStore) (x1 : Draft) (d : Device) :
    (makeRecord nv x1 d).nvc.Served := by
  unfold makeRecord; split <;> simp

@[simp] theorem beginAxleWait_nvc (x0 : Draft) (passage : Nat) (d : Device) : (beginAxleWait x0 passage d).nvc = d.nvc := by
  simp [beginAxleWait]

@[simp] theorem endAxleWait_served (nv : NvStore) {d : Device} (h : d.nvc.Served) : (endAxleWait nv d).nvc.Served := by
  unfold endAxleWait; split <;> simp [h]

@[simp] theorem issue_served (nv : NvStore) (x1 : Draft) (passage : Option Nat) {d : Device} (h : d.nvc.Served) :
    (issue nv x1 passage d).nvc.Served := by
  unfold issue; split <;> simp [h]

@[simp] theorem issueTicket_served (nv : NvStore) (v : VisitRec) (w : Weighing) {d : Device} (h : d.nvc.Served) :
    (issueTicket nv v w d).nvc.Served := by
  unfold issueTicket; repeat' split
  all_goals simp [h]

@[simp] theorem issueOnePass_served (nv : NvStore) (ref : Text) (t : TareEntry) (w : Weighing) {d : Device} (h : d.nvc.Served) :
    (issueOnePass nv ref t w d).nvc.Served := by simp [issueOnePass, h]

@[simp] theorem issueGross_served (nv : NvStore) (ref : Text) (w : Weighing) {d : Device} (h : d.nvc.Served) :
    (issueGross nv ref w d).nvc.Served := by simp [issueGross, h]

@[simp] theorem passageClosed_served (nv : NvStore) (n : Nat) {d : Device} (h : d.nvc.Served) :
    (passageClosed nv n d).nvc.Served := by
  unfold passageClosed; dsimp only; repeat' split
  all_goals simp [h]

@[simp] theorem requestFree_served (nv : NvStore) (x1 : Draft) (rec : JournalRec) (slot : Nat) (second : Bool) {d : Device}
    (h : d.nvc.Served) :
    (requestFree nv x1 rec slot second d).nvc.Served := by
  unfold requestFree; split <;> simp [h]

@[simp] theorem releaseFree_served (nv : NvStore) {d : Device} (h : d.nvc.Served) : (releaseFree nv d).nvc.Served := by
  unfold releaseFree; split <;> simp [h]

@[simp] theorem freeVisitOf_served (nv : NvStore) (x1 : Draft) (rec : JournalRec) {d : Device} (h : d.nvc.Served) :
    (freeVisitOf nv x1 rec d).nvc.Served := by
  unfold freeVisitOf; dsimp only; repeat' split
  all_goals simp [h]

@[simp] theorem raiseJournal_nvc (nv x1 : NvStore) (d : Device) : (raiseJournal nv x1 d).nvc = d.nvc := by
  unfold raiseJournal; dsimp only; repeat' split
  all_goals simp

@[simp] theorem openVisit_served (nv : NvStore) (ref : Text) (dir : Direction) (w : Weighing) {d : Device} (h : d.nvc.Served) :
    (openVisit nv ref dir w d).nvc.Served := by
  unfold openVisit; split <;> simp [h]

@[simp] theorem storeTare_served (nv : NvStore) (t : Tag) (e : TareEntry) {d : Device} (h : d.nvc.Served) :
    (storeTare nv t e d).nvc.Served := by
  unfold storeTare; split <;> simp [h]

@[simp] theorem storeStaticTare_served (nv : NvStore) (ref : Text) (days : Nat) (w : Weighing) {d : Device} (h : d.nvc.Served) :
    (storeStaticTare nv ref days w d).nvc.Served := by
  unfold storeStaticTare; split <;> simp [h]

@[simp] theorem addPoint_nvc (x0 : Nat) (w : Weighing) (d : Device) : (addPoint x0 w d).nvc = d.nvc := by
  unfold addPoint; split <;> simp

@[simp] theorem captureYields_served (nv : NvStore) (cmd : CapCmd) (w : Weighing) {d : Device} (h : d.nvc.Served) :
    (captureYields nv cmd w d).nvc.Served := by
  unfold captureYields; repeat' split
  all_goals simp [h]

@[simp] theorem laneWaits_nvc (d : Device) : (laneWaits d).nvc = d.nvc := by
  unfold laneWaits; dsimp only; repeat' split
  all_goals simp

@[simp] theorem setLane_nvc (l : Lane) (d : Device) : (setLane l d).nvc = d.nvc := by
  unfold setLane; split <;> simp

@[simp] theorem evalTimers_nvc (t : Nat) (d : Device) : (evalTimers t d).nvc = d.nvc := by simp [evalTimers]

@[simp] theorem hitTimers_nvc (t : Nat) (d : Device) : (hitTimers t d).nvc = d.nvc := by simp [hitTimers]

@[simp] theorem stopSettle_nvc (d : Device) : (stopSettle d).nvc = d.nvc := by simp [stopSettle]

@[simp] theorem openPassage_nvc (cause : OpenCause) (t : Nat) (d : Device) : (openPassage cause t d).nvc = d.nvc := by
  simp [openPassage]

@[simp] theorem pushHistory_nvc (p : Passage) (d : Device) : (pushHistory p d).nvc = d.nvc := by simp [pushHistory]

@[simp] theorem closePassage_served (nv : NvStore) (cause : CloseCause) (t : Nat) {d : Device} (h : d.nvc.Served) :
    (closePassage nv cause t d).nvc.Served := by
  unfold closePassage; split <;> simp [h]

@[simp] theorem enterPassage_nvc (cause : OpenCause) (t : Nat) (d : Device) : (enterPassage cause t d).nvc = d.nvc := by
  simp [enterPassage]

@[simp] theorem laneZeroSet_nvc (d : Device) : (laneZeroSet d).nvc = d.nvc := by
  unfold laneZeroSet; dsimp only; repeat' split
  all_goals simp

@[simp] theorem pushRing_nvc (w : Weighing) (d : Device) : (pushRing w d).nvc = d.nvc := by
  unfold pushRing; split <;> simp

@[simp] theorem handHit_nvc (strip : Strip) (t : Nat) (d : Device) : (handHit strip t d).nvc = d.nvc := by
  unfold handHit; split <;> simp

@[simp] theorem tailgate_served (nv : NvStore) (t : Nat) {d : Device} (h : d.nvc.Served) : (tailgate nv t d).nvc.Served := by
  simp [tailgate, h]

@[simp] theorem laneHit_served (nv : NvStore) (strip : Strip) (t : Nat) {d : Device} (h : d.nvc.Served) :
    (laneHit nv strip t d).nvc.Served := by
  unfold laneHit; split <;> simp [h]

@[simp] theorem beamEndsCapture_nvc (d : Device) : (beamEndsCapture d).nvc = d.nvc := by
  unfold beamEndsCapture; split <;> simp

@[simp] theorem laneBeam_nvc (beam : Beam) (blocked : Bool) (t : Nat) (d : Device) : (laneBeam beam blocked t d).nvc = d.nvc := by
  unfold laneBeam; dsimp only; repeat' split
  all_goals simp

@[simp] theorem laneRecord_nvc (wasInit : Bool) (wr : WeightRecord) (d : Device) : (laneRecord wasInit wr d).nvc = d.nvc := by
  unfold laneRecord; dsimp only; repeat' split
  all_goals simp

@[simp] theorem settleExpires_nvc (d : Device) : (settleExpires d).nvc = d.nvc := by simp [settleExpires]

@[simp] theorem clearExpires_served (nv : NvStore) (t : Nat) {d : Device} (h : d.nvc.Served) :
    (clearExpires nv t d).nvc.Served := by simp [clearExpires, h]

@[simp] theorem laneCommit_served (nv : NvStore) {d : Device} (h : d.nvc.Served) : (laneCommit nv d).nvc.Served := by
  simp [laneCommit, h]

@[simp] theorem timersUnderNewSettings_served (nv : NvStore) {d : Device} (h : d.nvc.Served) :
    (timersUnderNewSettings nv d).nvc.Served := by
  unfold timersUnderNewSettings; dsimp only; repeat' split
  all_goals simp [h]

@[simp] theorem setInitialZero_nvc (f : Int) (d : Device) : (setInitialZero f d).nvc = d.nvc := by simp [setInitialZero]

@[simp] theorem setOperatingZero_nvc (f : Int) (d : Device) : (setOperatingZero f d).nvc = d.nvc := by simp [setOperatingZero]

@[simp] theorem track_nvc (r : CalRecord) (f : Int) (g : Option Int) (d : Device) : (track r f g d).nvc = d.nvc := by
  unfold track; repeat' split
  all_goals simp

@[simp] theorem updateBaseline_nvc (w : List WinEntry) (d : Device) : (updateBaseline w d).nvc = d.nvc := by
  unfold updateBaseline; split <;> simp

@[simp] theorem emptyWindow_nvc (d : Device) : (emptyWindow d).nvc = d.nvc := by simp [emptyWindow]

@[simp] theorem stableUnset_nvc (r : CalRecord) (f : Int) (d : Device) : (stableUnset r f d).nvc = d.nvc := by
  unfold stableUnset; repeat' split
  all_goals simp

@[simp] theorem stableClear_nvc (r : CalRecord) (f : Int) (g : Option Int) (d : Device) : (stableClear r f g d).nvc = d.nvc := by
  unfold stableClear; repeat' split
  all_goals simp

@[simp] theorem captureSlots_nvc (before : Option WeightRecord) (wr : WeightRecord) (d : Device) :
    (captureSlots before wr d).nvc = d.nvc := by
  unfold captureSlots; repeat' split
  all_goals simp

@[simp] theorem captureStable_served (nv : NvStore) (r : CalRecord) (wr : WeightRecord) {d : Device} (h : d.nvc.Served) :
    (captureStable nv r wr d).nvc.Served := by
  unfold captureStable; repeat' split
  all_goals simp [h]

@[simp] theorem zsuRecord_served (nv : NvStore) (before : Option WeightRecord) (wr : WeightRecord) {d : Device} (h : d.nvc.Served) :
    (zsuRecord nv before wr d).nvc.Served := by
  unfold zsuRecord; dsimp only; repeat' split
  all_goals simp [h]

@[simp] theorem axuRecord_nvc (wr : WeightRecord) (d : Device) : (axuRecord wr d).nvc = d.nvc := by
  unfold axuRecord; split <;> simp

@[simp] theorem weightRecord_served (nv : NvStore) (sr : SampleRecord) {d : Device} (h : d.nvc.Served) :
    (weightRecord nv sr d).nvc.Served := by simp [weightRecord, h]

@[simp] theorem csuCommit_nvc (d : Device) : (csuCommit d).nvc = d.nvc := by simp [csuCommit]

@[simp] theorem zsuCommit_nvc (d : Device) : (zsuCommit d).nvc = d.nvc := by simp [zsuCommit]

@[simp] theorem storeSlot_nvc (i : SlotId) (s : Slot) (d : Device) : (storeSlot i s d).nvc = d.nvc := by simp [storeSlot]

@[simp] theorem requestMismatch_served (nv : NvStore) (i : SlotId) {d : Device} (h : d.nvc.Served) :
    (requestMismatch nv i d).nvc.Served := by simp [requestMismatch, h]

@[simp] theorem enterMismatch_served (nv : NvStore) (i : SlotId) {d : Device} (h : d.nvc.Served) :
    (enterMismatch nv i d).nvc.Served := by
  unfold enterMismatch; split <;> simp [h]

@[simp] theorem putSlot_served (nv : NvStore) (i : SlotId) (s : Slot) {d : Device} (h : d.nvc.Served) :
    (putSlot nv i s d).nvc.Served := by
  unfold putSlot; dsimp only; repeat' split
  all_goals simp [h]

@[simp] theorem mapSlots_served (nv : NvStore) (f : SlotId → Slot → Slot) (is : List SlotId) {d : Device} (h : d.nvc.Served) :
    (mapSlots nv f is d).nvc.Served := by
  unfold mapSlots; exact served_foldl (fun _ _ h => by simp [h]) _ h

@[simp] theorem clcCommit_served (nv : NvStore) {d : Device} (h : d.nvc.Served) : (clcCommit nv d).nvc.Served := by
  unfold clcCommit; simp [h]

@[simp] theorem clcNewHold_served (nv : NvStore) {d : Device} (h : d.nvc.Served) : (clcNewHold nv d).nvc.Served := by
  unfold clcNewHold; simp [h]

@[simp] theorem setWork_nvc (w : WorkCopy) (d : Device) : (setWork w d).nvc = d.nvc := by simp [setWork]

@[simp] theorem captureZero_nvc (sr : SampleRecord) (win : List (Slots (Option Int))) (w : WorkCopy) (d : Device) :
    (captureZero sr win w d).nvc = d.nvc := by simp [captureZero]

@[simp] theorem captureSpan_nvc (m : Ix) (x1 : Nat) (sr : SampleRecord) (win : List (Slots (Option Int))) (w : WorkCopy)
    (d : Device) :
    (captureSpan m x1 sr win w d).nvc = d.nvc := by
  unfold captureSpan; dsimp only; repeat' split
  all_goals simp

@[simp] theorem mstRecord_nvc (sr : SampleRecord) (d : Device) : (mstRecord sr d).nvc = d.nvc := by
  unfold mstRecord; dsimp only; repeat' split
  all_goals simp

@[simp] theorem discardRun_served (nv : NvStore) {d : Device} (h : d.nvc.Served) : (discardRun nv d).nvc.Served := by
  simp [discardRun, h]

@[simp] theorem blocksCommit_served (nv : NvStore) {d : Device} (h : d.nvc.Served) : (blocksCommit nv d).nvc.Served := by
  simp [blocksCommit, h]

@[simp] theorem installRecord_served (nv : NvStore) (r : CalRecord) {d : Device} (h : d.nvc.Served) :
    (installRecord nv r d).nvc.Served := by simp [installRecord, h]

@[simp] theorem loseRecord_served (nv : NvStore) {d : Device} (h : d.nvc.Served) : (loseRecord nv d).nvc.Served := by
  simp [loseRecord, h]

@[simp] theorem checkOverdue_served (nv : NvStore) {d : Device} (h : d.nvc.Served) : (checkOverdue nv d).nvc.Served := by
  unfold checkOverdue; repeat' split
  all_goals simp [h]

@[simp] theorem storeLine_nvc (l : Ix) (x1 : Line) (d : Device) : (storeLine l x1 d).nvc = d.nvc := by simp [storeLine]

@[simp] theorem handSample_served (nv : NvStore) {d : Device} (h : d.nvc.Served) : (handSample nv d).nvc.Served := by
  unfold handSample; repeat' split
  all_goals simp [h]

@[simp] theorem missOutcome_served (nv : NvStore) (o : SlotOutcome) (i : SlotId) {d : Device} (h : d.nvc.Served) :
    (missOutcome nv o i d).nvc.Served := by simp [missOutcome, h]

@[simp] theorem lateSlots_served (nv : NvStore) {d : Device} (h : d.nvc.Served) : (lateSlots nv d).nvc.Served := by
  unfold lateSlots
  exact served_foldl (fun _ _ h => by simp [h]) _ h

@[simp] theorem idleLines_nvc (d : Device) : (idleLines d).nvc = d.nvc := by simp [idleLines]

@[simp] theorem endCycle_served (nv : NvStore) {d : Device} (h : d.nvc.Served) : (endCycle nv d).nvc.Served := by
  unfold endCycle; split <;> simp [h]

@[simp] theorem silentSlots_served (nv : NvStore) {d : Device} (h : d.nvc.Served) : (silentSlots nv d).nvc.Served := by
  unfold silentSlots
  exact served_foldl (fun _ _ h => by simp [h]) _ h

@[simp] theorem pollPulse_nvc (l : Ix) (x1 : NvStore) (d : Device) : (pollPulse l x1 d).nvc = d.nvc := by
  unfold pollPulse; dsimp only; repeat' split
  all_goals simp

@[simp] theorem lineGoesOn_served (nv : NvStore) (l : Ix) {d : Device} (h : d.nvc.Served) : (lineGoesOn nv l d).nvc.Served := by
  simp [lineGoesOn, h]

@[simp] theorem waitedMiss_served (nv : NvStore) (o : SlotOutcome) (i : SlotId) {d : Device} (h : d.nvc.Served) :
    (waitedMiss nv o i d).nvc.Served := by
  unfold waitedMiss; split <;> simp [h]

@[simp] theorem replyWaitTimeout_served (l : Ix) (nv : NvStore) {d : Device} (h : d.nvc.Served) :
    (replyWaitTimeout l nv d).nvc.Served := by
  unfold replyWaitTimeout; repeat' split
  all_goals simp [h]

@[simp] theorem badFrame_served (l x1 : Ix) (nv : NvStore) {d : Device} (h : d.nvc.Served) : (badFrame l x1 nv d).nvc.Served := by
  simp [badFrame, h]

@[simp] theorem validFrame_served (nv : NvStore) (i : SlotId) (f : Frame) {d : Device} (h : d.nvc.Served) :
    (validFrame nv i f d).nvc.Served := by
  unfold validFrame; split <;> simp [h]

@[simp] theorem replyFrame_served (l : Ix) (ref : Nat) (syms : List Nat) (nv : NvStore) {d : Device} (h : d.nvc.Served) :
    (replyFrame l ref syms nv d).nvc.Served := by
  unfold replyFrame; repeat' split
  all_goals simp [h]

@[simp] theorem frameEdgeTimeout_served (l : Ix) (nv : NvStore) {d : Device} (h : d.nvc.Served) :
    (frameEdgeTimeout l nv d).nvc.Served := by
  unfold frameEdgeTimeout; repeat' split
  all_goals simp [h]

@[simp] theorem badFrameEdge_served (l : Ix) (ref : Nat) (syms : List Nat) (nv : NvStore) {d : Device} (h : d.nvc.Served) :
    (badFrameEdge l ref syms nv d).nvc.Served := by
  unfold badFrameEdge; repeat' split
  all_goals simp [h]

@[simp] theorem quietWaitEnd_served (l : Ix) (nv : NvStore) {d : Device} (h : d.nvc.Served) :
    (quietWaitEnd l nv d).nvc.Served := by
  unfold quietWaitEnd; split <;> simp [h]

@[simp] theorem shortedSlot_served (nv : NvStore) (l : Ix) {d : Device} (h : d.nvc.Served) : (shortedSlot nv l d).nvc.Served := by
  unfold shortedSlot; split <;> simp [h]

@[simp] theorem faultLine_served (nv : NvStore) (l : Ix) {d : Device} (h : d.nvc.Served) : (faultLine nv l d).nvc.Served := by
  unfold faultLine; simp [h]

@[simp] theorem lineShorted_served (l : Ix) (nv : NvStore) {d : Device} (h : d.nvc.Served) : (lineShorted l nv d).nvc.Served := by
  unfold lineShorted; split
  · exact handSample_served _ (silentSlots_served _ (by simp [h]))
  · exact h

@[simp] theorem shortRetry_nvc (l : Ix) (x1 : NvStore) (d : Device) : (shortRetry l x1 d).nvc = d.nvc := by
  unfold shortRetry; dsimp only; repeat' split
  all_goals simp

@[simp] theorem lineRecovery_served (l : Ix) (nv : NvStore) {d : Device} (h : d.nvc.Served) :
    (lineRecovery l nv d).nvc.Served := by
  unfold lineRecovery; dsimp only; split <;> simp [h]

@[simp] theorem storeBeam_nvc (b : Beam) (x1 : Input) (d : Device) : (storeBeam b x1 d).nvc = d.nvc := by
  unfold storeBeam; split <;> simp

@[simp] theorem beamLevelChange_nvc (b : Beam) (blocked : Bool) (t : Nat) (x3 : NvStore) (d : Device) :
    (beamLevelChange b blocked t x3 d).nvc = d.nvc := by
  unfold beamLevelChange; split <;> simp

@[simp] theorem beamChange_nvc (b : Beam) (x1 : NvStore) (d : Device) : (beamChange b x1 d).nvc = d.nvc := by
  unfold beamChange; repeat' split
  all_goals simp

@[simp] theorem storeHit_nvc (strip : Strip) (t : Nat) (d : Device) : (storeHit strip t d).nvc = d.nvc := by
  unfold storeHit; split <;> simp

@[simp] theorem stripHit_served (strip : Strip) (t : Nat) (nv : NvStore) {d : Device} (h : d.nvc.Served) :
    (stripHit strip t nv d).nvc.Served := by
  unfold stripHit; repeat' split
  all_goals simp [h]

@[simp] theorem settleTimerExpires_nvc (x0 : NvStore) (d : Device) : (settleTimerExpires x0 d).nvc = d.nvc := by
  unfold settleTimerExpires; repeat' split
  all_goals simp

@[simp] theorem clearTimerExpires_served (nv : NvStore) {d : Device} (h : d.nvc.Served) : (clearTimerExpires nv d).nvc.Served := by
  unfold clearTimerExpires; repeat' split
  all_goals simp [h]

@[simp] theorem lockLevelChange_nvc (isOpen : Bool) (t : Nat) (x2 : NvStore) (d : Device) :
    (lockLevelChange isOpen t x2 d).nvc = d.nvc := by
  unfold lockLevelChange; split <;> simp

@[simp] theorem lockCloses_served (nv : NvStore) {d : Device} (h : d.nvc.Served) : (lockCloses nv d).nvc.Served := by
  unfold lockCloses; repeat' split
  all_goals simp [h]

@[simp] theorem lockPositionChange_served (nv : NvStore) {d : Device} (h : d.nvc.Served) :
    (lockPositionChange nv d).nvc.Served := by
  unfold lockPositionChange; dsimp only; repeat' split
  all_goals simp [h]

@[simp] theorem zerDeadline_nvc (x0 : NvStore) (d : Device) : (zerDeadline x0 d).nvc = d.nvc := by
  unfold zerDeadline; split <;> simp

@[simp] theorem captureDeadline_nvc (x0 : NvStore) (d : Device) : (captureDeadline x0 d).nvc = d.nvc := by
  unfold captureDeadline; split <;> simp

@[simp] theorem runCaptureDeadline_nvc (x0 : NvStore) (d : Device) : (runCaptureDeadline x0 d).nvc = d.nvc := by
  unfold runCaptureDeadline; split <;> simp

@[simp] theorem axleWaitExpires_served (nv : NvStore) {d : Device} (h : d.nvc.Served) : (axleWaitExpires nv d).nvc.Served := by
  unfold axleWaitExpires; split <;> simp [h]

@[simp] theorem putVisit_nvc (slot : Nat) (v : VisitRec) (d : Device) : (putVisit slot v d).nvc = d.nvc := by simp [putVisit]

@[simp] theorem eraseVisit_nvc (slot : Nat) (d : Device) : (eraseVisit slot d).nvc = d.nvc := by simp [eraseVisit]

@[simp] theorem putTare_nvc (slot : Nat) (c : Option TareEntry) (d : Device) : (putTare slot c d).nvc = d.nvc := by
  unfold putTare; split <;> simp

@[simp] theorem tareDone_nvc (ok : Bool) (slot : Nat) (c : Option TareEntry) (ref : Text) (replaced : Bool) (d : Device) :
    (tareDone ok slot c ref replaced d).nvc = d.nvc := by
  unfold tareDone; split <;> simp

@[simp] theorem wg1Done_served (nv : NvStore) (ok : Bool) (slot : Nat) (v : VisitRec) {d : Device} (h : d.nvc.Served) :
    (wg1Done nv ok slot v d).nvc.Served := by
  unfold wg1Done; split <;> simp [h]

@[simp] theorem owedTornDone_served (nv x1 : NvStore) (ok : Bool) (x3 : Draft) {d : Device} (h : d.nvc.Served) :
    (owedTornDone nv x1 ok x3 d).nvc.Served := by
  unfold owedTornDone; split <;> simp [h]

@[simp] theorem recordDone_served (nv x1 : NvStore) (ok : Bool) (x3 : Draft) (rec : JournalRec) {d : Device} (h : d.nvc.Served) :
    (recordDone nv x1 ok x3 rec d).nvc.Served := by
  unfold recordDone; split <;> simp [h]

@[simp] theorem tornDone_nvc (nv x1 : NvStore) (ok : Bool) (x3 : Draft) (n : Nat) (d : Device) :
    (tornDone nv x1 ok x3 n d).nvc = d.nvc := by
  unfold tornDone; split <;> simp

@[simp] theorem freeingDone_served (nv : NvStore) (ok : Bool) (x2 : Draft) (rec : JournalRec) (slot : Nat) (second : Bool)
    {d : Device} (h : d.nvc.Served) :
    (freeingDone nv ok x2 rec slot second d).nvc.Served := by
  unfold freeingDone; repeat' split
  all_goals simp [h]

@[simp] theorem exportDone_nvc (nv : NvStore) (ok : Bool) (n : Nat) (d : Device) : (exportDone nv ok n d).nvc = d.nvc := by
  unfold exportDone; split <;> simp

@[simp] theorem settingsDone_served (nv : NvStore) (ok : Bool) (new : Settings) {d : Device} (h : d.nvc.Served) :
    (settingsDone nv ok new d).nvc.Served := by
  unfold settingsDone; split <;> simp [h]

@[simp] theorem ccmAuditDone_served (nv : NvStore) (ok more : Bool) (count time : Nat) (lockClosed : Bool) {d : Device}
    (h : d.nvc.Served) :
    (ccmAuditDone nv ok more count time lockClosed d).nvc.Served := by
  unfold ccmAuditDone; repeat' split
  all_goals simp [h]

@[simp] theorem ccmRecordDone_served (nv : NvStore) (ok : Bool) (w : NvWrite) (more : Bool) (count : Nat) (lockClosed : Bool)
    {d : Device} (h : d.nvc.Served) :
    (ccmRecordDone nv ok w more count lockClosed d).nvc.Served := by
  unfold ccmRecordDone; repeat' split
  all_goals simp [h]

@[simp] theorem vcmAuditDone_served (nv : NvStore) (ok pass : Bool) (time number : Nat) {d : Device} (h : d.nvc.Served) :
    (vcmAuditDone nv ok pass time number d).nvc.Served := by
  unfold vcmAuditDone; split <;> simp [h]

@[simp] theorem countReadFailures_served (k : Nat) {d : Device} (h : d.nvc.Served) : (countReadFailures k d).nvc.Served := h

@[simp] theorem answerRead_served (nv : NvStore) (r : AudRead) {d : Device} (h : d.nvc.Served) :
    (answerRead nv r d).nvc.Served := by
  simp [answerRead, h]

@[simp] theorem releaseReply_served (nv : NvStore) {d : Device} (r : HeldReply) (h : d.nvc.Served) :
    (releaseReply nv d r).nvc.Served := by
  cases r <;> simp [releaseReply, h]

@[simp] theorem auditReads_served (nv : NvStore) {d : Device} (h : d.nvc.Served) : (auditReads nv d).nvc.Served :=
  served_foldl (fun _ r h => releaseReply_served nv r h) _ h

@[simp] theorem journalEnded_nvc (w : NvWrite) (d : Device) : (journalEnded w d).nvc = d.nvc := by
  unfold journalEnded; split <;> exact rfl

@[simp] theorem longDone_served (nv x1 : NvStore) (ok : Bool) (w : NvWrite) {d : Device} (h : d.nvc.Served) :
    (longDone nv x1 ok w d).nvc.Served := by
  unfold longDone; split <;> simp [h]

@[simp] theorem longStatusDone_served (nv : NvStore) (ok : Bool) {d : Device} (h : d.nvc.Served) :
    (longStatusDone nv ok d).nvc.Served := by
  unfold longStatusDone; repeat' split
  all_goals simp [h]

@[simp] theorem mismatchDone_served (nv : NvStore) (i : SlotId) {d : Device} (h : d.nvc.Served) :
    (mismatchDone nv i d).nvc.Served := by
  unfold mismatchDone; dsimp only; repeat' split
  all_goals simp [h]

@[simp] theorem attachDone_served (nv : NvStore) (ok : Bool) (w : NvWrite) {d : Device} (h : d.nvc.Served) :
    (attachDone nv ok w d).nvc.Served := by
  unfold attachDone; split <;> simp [h]

@[simp] theorem startFreeDone_served (nv : NvStore) (ok : Bool) (r : FreeReq) {d : Device} (h : d.nvc.Served) :
    (startFreeDone nv ok r d).nvc.Served := by
  unfold startFreeDone; split <;> simp [h]

@[simp] theorem reportTo_served (nv x1 : NvStore) (ok : Bool) (r : WriteReq) {d : Device} (h : d.nvc.Served) :
    (reportTo nv x1 ok r d).nvc.Served := by
  unfold reportTo; repeat' split
  all_goals simp [h]

@[simp] theorem doWtr_nvc (fields : List Text) (x1 : NvStore) (d : Device) : (doWtr fields x1 d).nvc = d.nvc := by
  unfold doWtr; repeat' split
  all_goals simp

@[simp] theorem doSta_nvc (fields : List Text) (x1 : NvStore) (d : Device) : (doSta fields x1 d).nvc = d.nvc := by
  unfold doSta noFields; split <;> simp

@[simp] theorem clearCounts_nvc (d : Device) : (clearCounts d).nvc = d.nvc := by simp [clearCounts]

@[simp] theorem doCel_nvc (fields : List Text) (x1 : NvStore) (d : Device) : (doCel fields x1 d).nvc = d.nvc := by
  unfold doCel; repeat' split
  all_goals simp

@[simp] theorem doPas_nvc (fields : List Text) (x1 : NvStore) (d : Device) : (doPas fields x1 d).nvc = d.nvc := by
  unfold doPas; repeat' split
  all_goals simp

@[simp] theorem doVis_nvc (fields : List Text) (x1 : NvStore) (d : Device) : (doVis fields x1 d).nvc = d.nvc := by
  unfold doVis; repeat' split
  all_goals simp

@[simp] theorem doTrl_nvc (fields : List Text) (x1 : NvStore) (d : Device) : (doTrl fields x1 d).nvc = d.nvc := by
  unfold doTrl; repeat' split
  all_goals simp

@[simp] theorem doJst_nvc (fields : List Text) (nv : NvStore) (d : Device) : (doJst fields nv d).nvc = d.nvc := by
  unfold doJst noFields; split <;> simp

@[simp] theorem audRange_served (nv : NvStore) (x1 b : Nat) {d : Device} (h : d.nvc.Served) : (audRange nv x1 b d).nvc.Served := by
  unfold audRange; dsimp only; repeat' split
  all_goals simp [h]

@[simp] theorem doAud_served (fields : List Text) (nv : NvStore) {d : Device} (h : d.nvc.Served) :
    (doAud fields nv d).nvc.Served := by
  unfold doAud; repeat' split
  all_goals simp [h]

@[simp] theorem doMst_nvc (fields : List Text) (x1 : NvStore) (d : Device) : (doMst fields x1 d).nvc = d.nvc := by
  unfold doMst noFields; split <;> simp

@[simp] theorem doGet_nvc (fields : List Text) (x1 : NvStore) (d : Device) : (doGet fields x1 d).nvc = d.nvc := by
  unfold doGet; repeat' split
  all_goals simp

@[simp] theorem clearReport_served {d : Device} (h : d.nvc.Served) : (clearReport d).nvc.Served := h

@[simp] theorem doGetNvc_served (fields : List Text) (x1 : NvStore) {d : Device} (h : d.nvc.Served) :
    (doGetNvc fields x1 d).nvc.Served := by
  unfold doGetNvc; repeat' split
  all_goals simp [h]

@[simp] theorem setClock_served (nv : NvStore) (t : Nat) {d : Device} (h : d.nvc.Served) : (setClock nv t d).nvc.Served := by
  simp [setClock, h]

@[simp] theorem doClk_served (fields : List Text) (nv : NvStore) {d : Device} (h : d.nvc.Served) :
    (doClk fields nv d).nvc.Served := by
  unfold doClk; repeat' split
  all_goals simp [h]

@[simp] theorem answerLights_nvc (d : Device) : (answerLights d).nvc = d.nvc := answer_nvc _ _ d

@[simp] theorem doLit_nvc (fields : List Text) (x1 : NvStore) (d : Device) : (doLit fields x1 d).nvc = d.nvc := by
  unfold doLit; repeat' split
  all_goals simp

@[simp] theorem doNte_nvc (fields : List Text) (x1 : NvStore) (d : Device) : (doNte fields x1 d).nvc = d.nvc := by
  unfold doNte; split <;> simp

@[simp] theorem stopStream_nvc (d : Device) : (stopStream d).nvc = d.nvc := by
  unfold stopStream; split <;> simp

@[simp] theorem abort_served (nv : NvStore) {d : Device} (h : d.nvc.Served) : (abort nv d).nvc.Served := by
  unfold abort; split <;> simp [h]

@[simp] theorem doAbt_served (fields : List Text) (nv : NvStore) {d : Device} (h : d.nvc.Served) :
    (doAbt fields nv d).nvc.Served := by
  unfold doAbt noFields; split
  · dsimp only; split <;> simp [h]
  · simp [h]

@[simp] theorem runEndsZer_nvc (d : Device) : (runEndsZer d).nvc = d.nvc := by
  unfold runEndsZer; split <;> simp

@[simp] theorem openRun_nvc (d : Device) : (openRun d).nvc = d.nvc := by simp [openRun]

@[simp] theorem doCop_nvc (fields : List Text) (x1 : NvStore) (d : Device) : (doCop fields x1 d).nvc = d.nvc := by
  unfold doCop guarded; split <;> simp

@[simp] theorem doCpaWork_nvc (fields : List Text) (w : WorkCopy) (d : Device) : (doCpaWork fields w d).nvc = d.nvc := by
  unfold doCpaWork; repeat' split
  all_goals simp

@[simp] theorem doCpa_nvc (fields : List Text) (x1 : NvStore) (d : Device) : (doCpa fields x1 d).nvc = d.nvc := by
  unfold doCpa; repeat' split
  all_goals simp

@[simp] theorem doCdx_served (fields : List Text) (nv : NvStore) {d : Device} (h : d.nvc.Served) :
    (doCdx fields nv d).nvc.Served := by
  unfold doCdx guarded; split <;> simp [h]

@[simp] theorem openVerification_nvc (d : Device) : (openVerification d).nvc = d.nvc := by simp [openVerification]

@[simp] theorem doVop_nvc (fields : List Text) (x1 : NvStore) (d : Device) : (doVop fields x1 d).nvc = d.nvc := by
  unfold doVop guarded; split <;> simp

@[simp] theorem doZer_nvc (fields : List Text) (x1 : NvStore) (d : Device) : (doZer fields x1 d).nvc = d.nvc := by
  unfold doZer guarded; split <;> simp

@[simp] theorem beginCapture_nvc (t : Tag) (cmd : CapCmd) (d : Device) : (beginCapture t cmd d).nvc = d.nvc := by
  simp [beginCapture]

@[simp] theorem doWg1_nvc (fields : List Text) (x1 : NvStore) (d : Device) : (doWg1 fields x1 d).nvc = d.nvc := by
  unfold doWg1 guarded; repeat' split
  all_goals simp

@[simp] theorem doTrs_nvc (fields : List Text) (x1 : NvStore) (d : Device) : (doTrs fields x1 d).nvc = d.nvc := by
  unfold doTrs guarded; repeat' split
  all_goals simp

@[simp] theorem doTrk_served (fields : List Text) (nv : NvStore) {d : Device} (h : d.nvc.Served) :
    (doTrk fields nv d).nvc.Served := by
  unfold doTrk guarded; repeat' split
  all_goals simp [h]

@[simp] theorem dropTare_served (nv : NvStore) (slot : Nat) (ref : Text) (d : Device) : (dropTare nv slot ref d).nvc.Served := by
  simp [dropTare]

@[simp] theorem doTrd_served (fields : List Text) (nv : NvStore) {d : Device} (h : d.nvc.Served) :
    (doTrd fields nv d).nvc.Served := by
  unfold doTrd; repeat' split
  all_goals simp [h]

@[simp] theorem doWg2_nvc (fields : List Text) (nv : NvStore) (d : Device) : (doWg2 fields nv d).nvc = d.nvc := by
  unfold doWg2 guarded; repeat' split
  all_goals simp

@[simp] theorem doWgs_nvc (fields : List Text) (nv : NvStore) (d : Device) : (doWgs fields nv d).nvc = d.nvc := by
  unfold doWgs guarded; repeat' split
  all_goals simp

@[simp] theorem doWgg_nvc (fields : List Text) (nv : NvStore) (d : Device) : (doWgg fields nv d).nvc = d.nvc := by
  unfold doWgg guarded; repeat' split
  all_goals simp

@[simp] theorem doVcl_served (fields : List Text) (nv : NvStore) {d : Device} (h : d.nvc.Served) :
    (doVcl fields nv d).nvc.Served := by
  unfold doVcl guarded; repeat' split
  all_goals simp [h]

@[simp] theorem doVod_served (fields : List Text) (nv : NvStore) {d : Device} (h : d.nvc.Served) :
    (doVod fields nv d).nvc.Served := by
  unfold doVod guarded; repeat' split
  all_goals simp [h]

@[simp] theorem moveExport_served (nv : NvStore) (n : Nat) {d : Device} (h : d.nvc.Served) : (moveExport nv n d).nvc.Served := by
  unfold moveExport; split <;> simp [h]

@[simp] theorem doJex_served (fields : List Text) (nv : NvStore) {d : Device} (h : d.nvc.Served) :
    (doJex fields nv d).nvc.Served := by
  unfold doJex; repeat' split
  all_goals simp [h]

@[simp] theorem beginStream_nvc (t : Tag) (start count : Nat) (d : Device) : (beginStream t start count d).nvc = d.nvc := by
  simp [beginStream]

@[simp] theorem doJrd_nvc (fields : List Text) (nv : NvStore) (d : Device) : (doJrd fields nv d).nvc = d.nvc := by
  unfold doJrd; repeat' split
  all_goals simp

@[simp] theorem continueStream_nvc (nv : NvStore) (cursor count : Nat) (d : Device) :
    (continueStream nv cursor count d).nvc = d.nvc := by
  unfold continueStream; repeat' split
  all_goals simp

@[simp] theorem doJnx_nvc (fields : List Text) (nv : NvStore) (d : Device) : (doJnx fields nv d).nvc = d.nvc := by
  unfold doJnx; repeat' split
  all_goals simp

@[simp] theorem doSet_served (fields : List Text) (x1 : NvStore) {d : Device} (h : d.nvc.Served) :
    (doSet fields x1 d).nvc.Served := by
  unfold doSet; repeat' split
  all_goals simp [h]

@[simp] theorem doCze_nvc (fields : List Text) (x1 : NvStore) (d : Device) : (doCze fields x1 d).nvc = d.nvc := by
  unfold doCze guarded; split <;> simp

@[simp] theorem doCsp_nvc (fields : List Text) (x1 : NvStore) (d : Device) : (doCsp fields x1 d).nvc = d.nvc := by
  unfold doCsp guarded; repeat' split
  all_goals simp

@[simp] theorem appendLong_served (nv : NvStore) (body : AuditBody) (counter : Nat) (st : Stage) {d : Device} (h : d.nvc.Served) :
    (appendLong nv body counter st d).nvc.Served := by
  unfold appendLong; split <;> simp [h]

@[simp] theorem beginCommit_served (nv : NvStore) {d : Device} (h : d.nvc.Served) : (beginCommit nv d).nvc.Served := by
  simp [beginCommit, h]

@[simp] theorem doCcm_served (fields : List Text) (nv : NvStore) {d : Device} (h : d.nvc.Served) :
    (doCcm fields nv d).nvc.Served := by
  unfold doCcm guarded; split <;> simp [h]

@[simp] theorem doVpt_nvc (fields : List Text) (x1 : NvStore) (d : Device) : (doVpt fields x1 d).nvc = d.nvc := by
  unfold doVpt guarded; repeat' split
  all_goals simp

@[simp] theorem beginClose_served (nv : NvStore) {d : Device} (h : d.nvc.Served) : (beginClose nv d).nvc.Served := by
  simp [beginClose, h]

@[simp] theorem doVcm_served (fields : List Text) (nv : NvStore) {d : Device} (h : d.nvc.Served) :
    (doVcm fields nv d).nvc.Served := by
  unfold doVcm guarded; split <;> simp [h]

end Sys2Proof.Machine
end

section
/-! PROOF. The port's buffers and the write queue (R186, R197, R199, R204): what the message port, the scan and the end of a write do to
them, and that every command keeps their bounds. -/

namespace Sys2Proof.Machine

open Sys2Proof.Safety

/-! ### The port and the power events: the write queue (R186) -/

@[simp] theorem startTx_nvc (d : Device) : (startTx d).nvc = d.nvc := by simp [startTx]

@[simp] theorem freeSlot_nvc (d : Device) : (freeSlot d).nvc = d.nvc := by
  unfold freeSlot; split <;> simp

@[simp] theorem rateChanged_nvc (before : Tx) (d : Device) : (rateChanged before d).nvc = d.nvc := by
  unfold rateChanged; split <;> simp

@[simp] theorem placeText_nvc (r : Text) (notice : Bool) (d : Device) : (placeText r notice d).nvc = d.nvc := by simp [placeText]

@[simp] theorem noteRateChange_nvc (r : Text) (d : Device) : (noteRateChange r d).nvc = d.nvc := by
  unfold noteRateChange; split <;> simp

@[simp] theorem canReceived_nvc (d : Device) : (canReceived d).nvc = d.nvc := by simp [canReceived]

@[simp] theorem takeReceived_nvc (b : Byte) (err : Bool) (d : Device) : (takeReceived b err d).nvc = d.nvc := by
  unfold takeReceived; dsimp only; split <;> simp

theorem command_served (t : Tag) {body : NvStore → Device → Device} (hb : ∀ nv d, d.nvc.Served → (body nv d).nvc.Served)
    (nv : NvStore) {d : Device} (h : d.nvc.Served) : (command t body nv d).nvc.Served := by
  unfold command
  repeat' split
  all_goals simp [h, hb]

theorem runCommand_served (t : Tag) (fields : List Text) (nv : NvStore) {d : Device} (h : d.nvc.Served) :
    (runCommand t fields nv d).nvc.Served := by
  cases t
  case get =>
    unfold runCommand
    dsimp only
    repeat' split
    all_goals exact command_served _ (fun _ _ h => by simp [h]) nv h
  all_goals exact command_served _ (fun _ _ h => by simp [h]) nv h

theorem recordDispatch_served (nv : NvStore) {d : Device} (h : d.nvc.Served) : (recordDispatch nv d).nvc.Served := by
  unfold recordDispatch parseRecord
  dsimp only
  repeat' split
  all_goals simp [h, runCommand_served]

theorem recordPlacement_served (nv : NvStore) {d : Device} (h : d.nvc.Served) : (recordPlacement nv d).nvc.Served := by
  unfold recordPlacement
  repeat' split
  all_goals simp [h]

theorem noticeEmission_served (nv : NvStore) {d : Device} (h : d.nvc.Served) : (noticeEmission nv d).nvc.Served := by
  unfold noticeEmission
  repeat' split
  all_goals simp [emitNotice, h]

theorem streamStep_served (nv : NvStore) {d : Device} (h : d.nvc.Served) : (streamStep nv d).nvc.Served := by
  unfold streamStep endStream sendItem
  dsimp only
  repeat' split
  all_goals simp [h]

/-! ### Requests leave it open whether the queue is served -/

@[simp] theorem startWrite_serving (d : Device) : (startWrite d).nvc.serving = d.nvc.serving := by
  unfold startWrite
  repeat' split
  all_goals rfl

@[simp] theorem request_serving (r : WriteReq) (d : Device) : (request r d).nvc.serving = d.nvc.serving := by simp [request]

@[simp] theorem requestStatus_serving (nv : NvStore) (rec : StatusRec) (forLong : Bool) (d : Device) :
    (requestStatus nv rec forLong d).nvc.serving = d.nvc.serving := by
  unfold requestStatus; split <;> simp

@[simp] theorem append_serving (nv : NvStore) (src : Requester) (body : AuditBody) (counter : Option Nat) (d : Device) :
    (append nv src body counter d).nvc.serving = d.nvc.serving := by
  unfold append appendRefused
  dsimp only
  repeat' split
  all_goals simp

@[simp] theorem requestFreeing_serving (nv : NvStore) (f : Nat) (d : Device) :
    (requestFreeing nv f d).nvc.serving = d.nvc.serving := by
  induction f generalizing d with
  | zero => rfl
  | succ f ih =>
    unfold requestFreeing
    repeat' split
    all_goals simp [ih]

/-! ### The scan -/

/-- The record buffer, the FIFO and the output queue are the same, and so is whether the write queue is served. -/
abbrev BuffersSame (a b : Device) : Prop :=
  a.rx.fifo = b.rx.fifo ∧ a.rx.buf = b.rx.buf ∧ a.tx.queue = b.tx.queue ∧ a.nvc.serving = b.nvc.serving

theorem scanState_buffers (nv : NvStore) (d : Device) : BuffersSame (scanState nv d) d := by
  unfold scanState
  dsimp only
  repeat' split
  all_goals simp [BuffersSame]

theorem auditRepair_buffers (ok : Bool) (nv : NvStore) (d : Device) : BuffersSame (auditRepair ok nv d).2 d := by
  unfold auditRepair
  split <;> simp [BuffersSame]

theorem journalRepair_buffers (ok : Bool) (nv : NvStore) (d : Device) : BuffersSame (journalRepair ok nv d).2 d := by
  unfold journalRepair oweRepair
  dsimp only
  repeat' split
  all_goals simp [BuffersSame]

theorem BuffersSame.trans {a b c : Device} (h : BuffersSame a b) (k : BuffersSame b c) : BuffersSame a c :=
  ⟨h.1.trans k.1, h.2.1.trans k.2.1, h.2.2.1.trans k.2.2.1, h.2.2.2.trans k.2.2.2⟩

/-- Steps 1 to 3 and the audit log: of the port they touch RTS, the rate and the parity alone. -/
theorem scanFirst_buffers (nv : NvStore) (d : Device) :
    BuffersSame (scanAudit nv (scanStatus nv (scanCalibration nv (scanSettings nv d)))) d := ⟨rfl, rfl, rfl, rfl⟩

theorem scanTables_buffers (nv : NvStore) (d : Device) : BuffersSame (scanJournal nv (scanVisits nv (scanTares nv d))) d :=
  ⟨rfl, rfl, rfl, rfl⟩

theorem scanLast_buffers (nv : NvStore) (f : Nat) (d : Device) :
    BuffersSame (requestFreeing nv f (scanNextVisit nv (reconcile nv d))) d := by
  have h : BuffersSame (scanNextVisit nv (reconcile nv d)) d := ⟨rfl, rfl, rfl, rfl⟩
  exact BuffersSame.trans (by simp [BuffersSame]) h

theorem scan_buffers (a j : Bool) (nv : NvStore) (d : Device) : BuffersSame (scan a j nv d).2 d :=
  (scanLast_buffers _ _ _).trans <| (journalRepair_buffers j _ _).trans <| (scanTables_buffers _ _).trans <|
    (scanState_buffers _ _).trans <| (auditRepair_buffers a _ _).trans (scanFirst_buffers nv d)

/-! ### Every command keeps both -/

/-- From a reset on, and until the scan ends, the buffers are empty and the queue is not served. -/
theorem bounds_of_buffers {d : Device} {phase : Phase} {low rawIn rawOut rawOpen cts : Bool} {cause : StartCause} {clock : Option Nat}
    (h : BuffersSame d (Device.cleared phase low rawIn rawOut rawOpen cts cause clock)) : PortBounds d ∧ d.nvc.Served := by
  obtain ⟨hf, hb, hq, hs⟩ := h
  refine ⟨⟨?_, ?_, ?_⟩, fun ht => ?_⟩
  · simp [hf, Device.cleared, Rx.reset]
  · simp [hb, Device.cleared, Rx.reset]
  · simp [hq, Device.cleared, Tx.reset]
  · simp [hs, Device.cleared, Nvc.reset] at ht

theorem bounds_clearedFrom (d : Device) (phase : Phase) (low : Bool) (cause : StartCause) (clock : Option Nat) :
    PortBounds (clearedFrom d phase low cause clock) ∧ (clearedFrom d phase low cause clock).nvc.Served :=
  bounds_of_buffers ⟨rfl, rfl, rfl, rfl⟩

theorem bounds_scan (a j : Bool) (nv : NvStore) (d : Device) (cause : StartCause) (clock : Option Nat) :
    PortBounds (scan a j nv (clearedFrom d .scan false cause clock)).2 ∧
      (scan a j nv (clearedFrom d .scan false cause clock)).2.nvc.Served := bounds_of_buffers (scan_buffers a j nv _)

/-- What the power events leave: the part as it was but for the RESET pin, a cleared part, or a scanned one. -/
theorem powerOn_kept (a j : Bool) (nv : NvStore) {d : Device} {P : Device → Prop} (h : P d)
    (hc : ∀ phase low cause clock, P (clearedFrom d phase low cause clock))
    (hs : ∀ cause clock, P (scan a j nv (clearedFrom d .scan false cause clock)).2) : P (powerOn a j nv d).2 := by
  unfold powerOn
  repeat' split
  exacts [hc _ _ _ _, hs _ _, h]

theorem resetLineRelease_kept (a j : Bool) (nv : NvStore) {d : Device} {P : Device → Prop}
    (h : ∀ low, P { d with power := { d.power with resetLow := low } })
    (hs : ∀ cause clock, P (scan a j nv (clearedFrom d .scan false cause clock)).2) : P (resetLineRelease a j nv d).2 := by
  unfold resetLineRelease
  split
  exacts [hs _ _, h _]

theorem resetLineLow_kept (phase : WritePhase) (nv : NvStore) {d : Device} {P : Device → Prop}
    (h : ∀ low, P { d with power := { d.power with resetLow := low } })
    (hc : ∀ phase low cause clock, P (clearedFrom d phase low cause clock)) : P (resetLineLow phase nv d).2 := by
  unfold resetLineLow
  split
  exacts [hc _ _ _ _, h _]

theorem powerFailure_kept (phase : WritePhase) (nv : NvStore) {d : Device} {P : Device → Prop} (h : P d)
    (hc : ∀ phase low cause clock, P (clearedFrom d phase low cause clock)) : P (powerFailure phase nv d).2 := by
  unfold powerFailure
  split
  exacts [h, hc _ _ _ _]

theorem writeComplete_served (ok : Bool) (nv : NvStore) {d : Device} (h : d.nvc.Served) : (writeComplete ok nv d).2.nvc.Served := by
  unfold writeComplete
  repeat' split
  exacts [startWrite_nvc_served _, h, h]

@[simp] theorem refreshLights_nvc (d : Device) : (refreshLights d).nvc = d.nvc := by simp [refreshLights_eq]

/-! ### The events, each under one bound or the other -/

theorem sampleInstant_served (nv : NvStore) {d : Device} (h : d.nvc.Served) : (sampleInstant nv d).nvc.Served := by
  unfold sampleInstant beginCycle
  dsimp only
  split
  · exact handSample_served _ (silentSlots_served _ (by simp [h]))
  · exact h

theorem scanEnd_served (nv : NvStore) {d : Device} (h : d.nvc.Served) : (scanEnd nv d).nvc.Served := by
  unfold scanEnd finishScan
  dsimp only
  repeat' split
  all_goals simp [h]

theorem clockSecond_served (nv : NvStore) {d : Device} (h : d.nvc.Served) : (clockSecond nv d).nvc.Served := by
  unfold clockSecond
  dsimp only
  repeat' split
  all_goals simp [h]

theorem gapTimeout_served (nv : NvStore) {d : Device} (h : d.nvc.Served) : (gapTimeout nv d).nvc.Served := by
  unfold gapTimeout
  split <;> simp [h]

theorem txCharacterSent_served (nv : NvStore) {d : Device} (h : d.nvc.Served) : (txCharacterSent nv d).nvc.Served := by
  unfold txCharacterSent
  split <;> simp [h]

theorem charReceived_served (b : Byte) (parityBit stopBit : Bool) (nv : NvStore) {d : Device} (h : d.nvc.Served) :
    (rxCharacter b parityBit stopBit nv d).nvc.Served ∧ (canCharacter nv d).nvc.Served := by
  unfold rxCharacter canCharacter
  constructor <;> split <;> simp [h]

theorem recordAssembly_served (nv : NvStore) {d : Device} (h : d.nvc.Served) : (recordAssembly nv d).nvc.Served := by
  unfold recordAssembly
  split <;> simp [h]

/-! ### Host commands -/

/-- A host command is its owner's body under the Executive's checks; the body leaves the intake, the output queue, zero and lane alone
and keeps the write queue served. -/
theorem exec_command {i : Instr} {g : Tag} {fs : List Text} (h : i.command? = some (g, fs)) (s : State) :
    ∃ body, exec i s = s.act (command g body) ∧
      ∀ nv d, HostSame (body nv d) d ∧ ZeroSame (body nv d) d ∧ (d.nvc.Served → (body nv d).nvc.Served) := by
  cases i <;> cases h <;> exact ⟨_, rfl, fun nv d => ⟨by simp [HostSame], by simp [ZeroSame], fun h => by simp [h]⟩⟩

theorem event_served {c : Instr} {s t : State} (hc : c.command? = none) (hs : s.dev.nvc.Served) (h : exec c s = .next t) :
    t.dev.nvc.Served := by
  cases c
  case powerOn a j =>
    cases h
    exact powerOn_kept a j _ (P := fun d => (refreshLights d).nvc.Served) (by simp [hs])
      (fun _ _ _ _ => by simp [bounds_clearedFrom]) fun _ _ => by simp [bounds_scan]
  case resetLineRelease a j =>
    cases h
    exact resetLineRelease_kept a j _ (P := fun d => (refreshLights d).nvc.Served) (fun _ => by simp [hs])
      fun _ _ => by simp [bounds_scan]
  case resetLineLow p =>
    cases h
    exact resetLineLow_kept p _ (P := fun d => (refreshLights d).nvc.Served) (fun _ => by simp [hs])
      fun _ _ _ _ => by simp [bounds_clearedFrom]
  case powerFailure p =>
    cases h
    exact powerFailure_kept p _ (P := fun d => (refreshLights d).nvc.Served) (by simp [hs])
      fun _ _ _ _ => by simp [bounds_clearedFrom]
  case nvcWriteComplete x => cases h; simp [writeComplete_served, hs]
  case recordDispatch => cases h; simp [recordDispatch_served, hs]
  case recordPlacement => cases h; simp [recordPlacement_served, hs]
  case noticeEmission => cases h; simp [noticeEmission_served, hs]
  case streamItem => cases h; simp [streamStep_served, hs]
  case sampleInstant => cases h; simp [sampleInstant_served, hs]
  case scanEnd => cases h; simp [scanEnd_served, hs]
  case clockSecond => cases h; simp [clockSecond_served, hs]
  case gapTimeout => cases h; simp [gapTimeout_served, hs]
  case txCharacterSent => cases h; simp [txCharacterSent_served, hs]
  case rxCharacter b x y => cases h; simp [charReceived_served, hs]
  case canCharacter => cases h; simp [charReceived_served 0 false false, hs]
  case recordAssembly => cases h; simp [recordAssembly_served, hs]
  case ctsChange x => cases h; simp [ctsChange, hs]
  all_goals cases hc <;> cases h <;> simp [hs]

theorem exec_served {c : Instr} {s t : State} (hs : s.dev.nvc.Served) (h : exec c s = .next t) : t.dev.nvc.Served := by
  cases hc : c.command? with
  | none => exact event_served hc hs h
  | some x =>
    obtain ⟨body, he, hb⟩ := exec_command hc s
    cases he.symm.trans h
    simpa using command_served x.1 (fun nv d => (hb nv d).2.2) s.nv hs

/-! ### The buffers of the port (R197, R199, R204) -/

theorem bounds_of_host {a b : Device} (h : HostSame a b) (hb : PortBounds b) : PortBounds a := by
  obtain ⟨hrx, hq, -⟩ := h
  simpa only [PortBounds, hrx, hq] using hb

@[simp] theorem refreshLights_bounds (d : Device) : PortBounds (refreshLights d) ↔ PortBounds d := by
  simp [PortBounds, refreshLights_eq]

theorem enterFifo_bound (c : RxChar) {rx : Rx} (h : rx.fifo.length ≤ 64) :
    (enterFifo c rx).fifo.length ≤ 64 ∧ (enterFifo c rx).buf = rx.buf := by
  by_cases hl : rx.fifo.length ≥ Config.fifoCap
  · simp only [enterFifo, hl, ↓reduceIte, overrun]
    split <;> exact ⟨h, rfl⟩
  · simp only [enterFifo, hl, ↓reduceIte, List.length_append, List.length_singleton, and_true]
    simp only [Config.fifoCap] at hl
    omega

theorem takeReceived_bounds (b : Byte) (err : Bool) {d : Device} (h : PortBounds d) : PortBounds (takeReceived b err d) := by
  unfold takeReceived
  dsimp only
  split
  · exact bounds_of_host (stopStream_host _) h
  · obtain ⟨hf, hb, hq⟩ := h
    obtain ⟨hf', hb'⟩ := enterFifo_bound ⟨charOf b, err || d.rx.spoilt⟩ (rx := { d.rx with spoilt := false }) hf
    exact ⟨hf', hb'.symm ▸ hb, hq⟩

theorem assembleChar_bound (c : RxChar) {rx : Rx} (h : rx.buf.length ≤ 120) :
    (assembleChar c rx).buf.length ≤ 120 ∧ (assembleChar c rx).fifo = rx.fifo := by
  unfold assembleChar
  split
  · split
    · exact ⟨h, rfl⟩
    · split
      · rename_i hl
        exact ⟨by simpa [Config.recordCap] using hl, rfl⟩
      · exact ⟨h, rfl⟩
  · split
    · exact ⟨h, rfl⟩
    · exact ⟨by simp, rfl⟩

theorem recordAssembly_bounds (nv : NvStore) {d : Device} (h : PortBounds d) : PortBounds (recordAssembly nv d) := by
  unfold recordAssembly takeChar
  split
  · split
    · exact h
    · rename_i c rest hq
      obtain ⟨hf, hb, hq'⟩ := h
      rw [hq] at hf
      have hc := fun rts => assembleChar_bound c (rx := { d.rx with fifo := rest, rts := rts }) hb
      exact ⟨(congrArg List.length (hc _).2).trans_le (Nat.le_of_succ_le hf), (hc _).1, hq'⟩
  · exact h

theorem emptied_bounds {d : Device} (h : PortBounds d) : PortBounds { d with rx := d.rx.emptied } :=
  ⟨h.1, Nat.zero_le _, h.2.2⟩

theorem gapTimeout_bounds (nv : NvStore) {d : Device} (h : PortBounds d) : PortBounds (gapTimeout nv d) := by
  unfold gapTimeout
  split
  · exact bounds_of_host (reply_host _ _ _ _) (emptied_bounds h)
  · exact h

theorem command_host (t : Tag) {body : NvStore → Device → Device} (hb : ∀ nv d, HostSame (body nv d) d) (nv : NvStore) (d : Device) :
    HostSame (command t body nv d) d := by
  unfold command
  repeat' split
  all_goals simp [hb, HostSame]

theorem runCommand_host (t : Tag) (fields : List Text) (nv : NvStore) (d : Device) : HostSame (runCommand t fields nv d) d := by
  cases t
  case get =>
    unfold runCommand
    dsimp only
    repeat' split
    all_goals exact command_host _ (fun _ _ => by simp [HostSame]) nv d
  all_goals exact command_host _ (fun _ _ => by simp [HostSame]) nv d

theorem parseRecord_host (buf : Text) (err ovf : Bool) (nv : NvStore) (d : Device) : HostSame (parseRecord buf err ovf nv d) d := by
  unfold parseRecord
  repeat' split
  all_goals simp [runCommand_host, HostSame]

theorem recordDispatch_bounds (nv : NvStore) {d : Device} (h : PortBounds d) : PortBounds (recordDispatch nv d) := by
  unfold recordDispatch
  dsimp only
  repeat' split
  · exact bounds_of_host (parseRecord_host _ _ _ _ _) (emptied_bounds h)
  all_goals exact h

/-- What the output side does to the port: RX and the output queue are those of the device it began with. -/
theorem startTx_bounds (d : Device) : PortBounds (startTx d) ↔ PortBounds d := Iff.rfl

theorem freeSlot_bounds (d : Device) : PortBounds (freeSlot d) ↔ PortBounds d := by
  unfold freeSlot; split <;> rfl

theorem rateChanged_bounds (before : Tx) (d : Device) : PortBounds (rateChanged before d) ↔ PortBounds d := by
  unfold rateChanged; split <;> rfl

theorem noteRateChange_bounds (r : Text) (d : Device) : PortBounds (noteRateChange r d) ↔ PortBounds d := by
  unfold noteRateChange; split <;> rfl

theorem placeText_bounds (r : Text) (notice : Bool) {d : Device} (h : PortBounds d) : PortBounds (placeText r notice d) := by
  obtain ⟨hf, hb, hq⟩ := h
  refine ⟨hf, hb, ?_⟩
  simp [placeText, startTx, Config.outputCap]
  omega

theorem charSent_bounds {d : Device} (h : PortBounds d) : PortBounds { d with tx := charSent d.tx } := by
  obtain ⟨hf, hb, hq⟩ := h
  refine ⟨hf, hb, ?_⟩
  simp [charSent, rateChanges]
  omega

theorem txCharacterSent_bounds (nv : NvStore) {d : Device} (h : PortBounds d) : PortBounds (txCharacterSent nv d) := by
  unfold txCharacterSent
  split
  · rw [startTx_bounds, freeSlot_bounds, rateChanged_bounds]
    exact charSent_bounds h
  · exact h

theorem recordPlacement_bounds (nv : NvStore) {d : Device} (h : PortBounds d) : PortBounds (recordPlacement nv d) := by
  unfold recordPlacement
  repeat' split
  · exact placeText_bounds _ _ h
  · exact h
  · rw [freeSlot_bounds, noteRateChange_bounds]
    exact placeText_bounds _ _ h
  all_goals exact h

theorem noticeEmission_bounds (nv : NvStore) {d : Device} (h : PortBounds d) : PortBounds (noticeEmission nv d) := by
  unfold noticeEmission emitNotice
  repeat' split
  · exact placeText_bounds _ _ h
  all_goals exact h

theorem streamStep_bounds (nv : NvStore) {d : Device} (h : PortBounds d) : PortBounds (streamStep nv d) := by
  unfold streamStep endStream sendItem
  dsimp only
  repeat' split
  · exact h
  · exact placeText_bounds _ _ h
  · exact placeText_bounds _ _ h
  all_goals exact h

theorem sampleInstant_bounds (nv : NvStore) {d : Device} (h : PortBounds d) : PortBounds (sampleInstant nv d) := by
  unfold sampleInstant beginCycle
  dsimp only
  split
  · refine bounds_of_host (handSample_host _ _) (bounds_of_host (silentSlots_host _ _) ?_)
    exact bounds_of_host (a := endCycle nv d) (endCycle_host nv d) h
  · exact h

theorem scanEnd_bounds (nv : NvStore) {d : Device} (h : PortBounds d) : PortBounds (scanEnd nv d) := by
  unfold scanEnd finishScan
  dsimp only
  repeat' split
  · exact bounds_of_host (raise_host _ _) (bounds_of_host (raise_host _ _) (bounds_of_host (startWrite_host _) h))
  · exact bounds_of_host (raise_host _ _) (bounds_of_host (startWrite_host _) h)
  · exact h

theorem clockSecond_bounds (nv : NvStore) {d : Device} (h : PortBounds d) : PortBounds (clockSecond nv d) := by
  unfold clockSecond
  dsimp only
  repeat' split
  · exact h
  · exact bounds_of_host (checkOverdue_host _ _) h
  · exact h

theorem writeComplete_bounds (ok : Bool) (nv : NvStore) {d : Device} (h : PortBounds d) : PortBounds (writeComplete ok nv d).2 := by
  unfold writeComplete
  repeat' split
  · exact bounds_of_host (startWrite_host _) (bounds_of_host (reportTo_host _ _ _ _ _) h)
  all_goals exact h

theorem event_bounds {c : Instr} {s t : State} (hc : c.command? = none) (hs : PortBounds s.dev) (h : exec c s = .next t) :
    PortBounds t.dev := by
  cases c
  case powerOn a j =>
    cases h
    exact (refreshLights_bounds _).2 (powerOn_kept a j _ hs (fun _ _ _ _ => (bounds_clearedFrom _ _ _ _ _).1)
      fun _ _ => (bounds_scan a j _ _ _ _).1)
  case resetLineRelease a j =>
    cases h
    exact (refreshLights_bounds _).2 (resetLineRelease_kept a j _ (fun _ => hs) fun _ _ => (bounds_scan a j _ _ _ _).1)
  case resetLineLow p =>
    cases h
    exact (refreshLights_bounds _).2 (resetLineLow_kept p _ (fun _ => hs) fun _ _ _ _ => (bounds_clearedFrom _ _ _ _ _).1)
  case powerFailure p =>
    cases h
    exact (refreshLights_bounds _).2 (powerFailure_kept p _ hs fun _ _ _ _ => (bounds_clearedFrom _ _ _ _ _).1)
  case nvcWriteComplete x => cases h; exact (refreshLights_bounds _).2 (writeComplete_bounds x _ hs)
  case recordDispatch => cases h; exact (refreshLights_bounds _).2 (recordDispatch_bounds _ hs)
  case recordPlacement => cases h; exact (refreshLights_bounds _).2 (recordPlacement_bounds _ hs)
  case noticeEmission => cases h; exact (refreshLights_bounds _).2 (noticeEmission_bounds _ hs)
  case streamItem => cases h; exact (refreshLights_bounds _).2 (streamStep_bounds _ hs)
  case sampleInstant => cases h; exact (refreshLights_bounds _).2 (sampleInstant_bounds _ hs)
  case scanEnd => cases h; exact (refreshLights_bounds _).2 (scanEnd_bounds _ hs)
  case clockSecond => cases h; exact (refreshLights_bounds _).2 (clockSecond_bounds _ hs)
  case gapTimeout => cases h; exact (refreshLights_bounds _).2 (gapTimeout_bounds _ hs)
  case txCharacterSent => cases h; exact (refreshLights_bounds _).2 (txCharacterSent_bounds _ hs)
  case rxCharacter b x y =>
    cases h
    refine (refreshLights_bounds _).2 ?_
    unfold rxCharacter
    split
    exacts [takeReceived_bounds _ _ hs, hs]
  case canCharacter =>
    cases h
    refine (refreshLights_bounds _).2 ?_
    unfold canCharacter
    split
    exacts [takeReceived_bounds _ _ hs, hs]
  case recordAssembly => cases h; exact (refreshLights_bounds _).2 (recordAssembly_bounds _ hs)
  case ctsChange x => cases h; exact (refreshLights_bounds _).2 hs
  all_goals cases hc <;> cases h <;> exact (refreshLights_bounds _).2 (bounds_of_host (by simp [HostSame]) hs)

theorem exec_bounds {c : Instr} {s t : State} (hs : PortBounds s.dev) (h : exec c s = .next t) : PortBounds t.dev := by
  cases hc : c.command? with
  | none => exact event_bounds hc hs h
  | some x =>
    obtain ⟨body, he, hb⟩ := exec_command hc s
    cases he.symm.trans h
    exact (refreshLights_bounds _).2 (bounds_of_host (command_host x.1 (fun nv d => (hb nv d).1) s.nv _) hs)

/-- Settles O8. -/
theorem queuesKept : Obligations.QueuesKept :=
  ⟨fun _ _ hs h => step_keeps (P := fun s => PortBounds s.dev) (fun _ _ hs => hs) (fun _ _ _ hs h => exec_bounds hs h) hs h,
    fun _ _ hs h => step_keeps (P := fun s => s.dev.nvc.Served) (fun _ _ hs => hs) (fun _ _ _ hs h => exec_served hs h) hs h⟩

end Sys2Proof.Machine
end

section
/-! PROOF. The rule of zero (R48): UNSET exactly in INIT, SET within its two ranges; what each operation does to zero, lane and active
record, and that every command keeps the rule. -/

namespace Sys2Proof.Machine

open Sys2Proof.Safety

/-! ### What the rule reads -/

/-- The zero unit and the active record are the same, and so is whether the lane is INIT: all that the rule of zero reads. -/
abbrev ZeroKept (a b : Device) : Prop := a.zsu = b.zsu ∧ a.mst.active = b.mst.active ∧ (a.lsv.lane = .init ↔ b.lsv.lane = .init)

theorem ZeroSame.kept {a b : Device} (h : ZeroSame a b) : ZeroKept a b := ⟨h.1, h.2.1, by rw [h.2.2]⟩

theorem ZeroKept.trans {a b c : Device} (h : ZeroKept a b) (k : ZeroKept b c) : ZeroKept a c :=
  ⟨h.1.trans k.1, h.2.1.trans k.2.1, h.2.2.trans k.2.2⟩

theorem ZeroKept.rule {a b : Device} (h : ZeroKept a b) (hb : ZeroRule b) : ZeroRule a := by
  obtain ⟨hz, ha, hl⟩ := h
  unfold ZeroRule
  rw [hz, ha, hl]
  exact hb

/-! ### The lane (R66 to R71, R79) -/

theorem setLane_lane (l : Lane) (d : Device) : (setLane l d).lsv.lane = l := by
  unfold setLane
  split
  · assumption
  · rw [(laneWaits_zero _).2.2, (raise_zero _ _).2.2]

theorem setLane_zsu (l : Lane) (d : Device) : (setLane l d).zsu = d.zsu ∧ (setLane l d).mst.active = d.mst.active := by
  unfold setLane
  split <;> simp

/-- A lane that leaves no INIT and enters none. -/
theorem setLane_kept {l : Lane} {d : Device} (hl : l ≠ .init) (hd : d.lsv.lane ≠ .init) : ZeroKept (setLane l d) d :=
  ⟨(setLane_zsu l d).1, (setLane_zsu l d).2, by simp [setLane_lane, hl, hd]⟩

theorem enterPassage_kept (cause : OpenCause) (t : Nat) {d : Device} (hd : d.lsv.lane ≠ .init) : ZeroKept (enterPassage cause t d) d :=
  setLane_kept (by decide) hd

theorem tailgate_kept (nv : NvStore) (t : Nat) {d : Device} (hd : d.lsv.lane ≠ .init) : ZeroKept (tailgate nv t d) d :=
  (enterPassage_kept _ _ (by simpa using hd)).trans (closePassage_zero _ _ _ _).kept

theorem hitActs_same (strip : Strip) (t : Nat) (d : Device) : ZeroSame (hitTimers t (handHit strip t d)) d :=
  (hitTimers_zero t _).trans (handHit_zero strip t d)

theorem laneHit_kept (nv : NvStore) (strip : Strip) (t : Nat) (d : Device) : ZeroKept (laneHit nv strip t d) d := by
  unfold laneHit
  split
  case h_1 | h_3 => exact ⟨rfl, rfl, Iff.rfl⟩
  case h_2 hl => exact (hitActs_same _ _ _).kept.trans (enterPassage_kept _ _ (hl ▸ by decide))
  case h_4 | h_5 | h_8 => exact (hitActs_same _ _ _).kept
  case h_6 hl _ => exact (hitActs_same _ _ _).kept.trans (setLane_kept (d := stopSettle d) (by decide) (hl ▸ by decide))
  case h_7 hl => exact (hitActs_same _ _ _).kept.trans (tailgate_kept _ _ (hl ▸ by decide))

theorem laneBeam_kept (beam : Beam) (blocked : Bool) (t : Nat) (d : Device) : ZeroKept (laneBeam beam blocked t d) d := by
  have hb : ZeroSame (beamEndsCapture d) d := beamEndsCapture_zero d
  unfold laneBeam
  dsimp only
  split
  · split
    case h_1 hl => exact (enterPassage_kept _ _ (hl ▸ by decide)).trans hb.kept
    case h_2 hl => exact (setLane_kept (d := stopSettle (beamEndsCapture d)) (by decide) (hl ▸ by decide)).trans hb.kept
    case h_3 hl => exact (setLane_kept (by decide) (hl ▸ by decide)).trans hb.kept
    case h_4 hl => exact (setLane_kept (by decide) (hl ▸ by decide)).trans hb.kept
    case h_5 => exact hb.kept
  · exact ⟨rfl, rfl, Iff.rfl⟩

theorem laneRecord_kept (wasInit : Bool) (wr : WeightRecord) (d : Device) : ZeroKept (laneRecord wasInit wr d) d := by
  unfold laneRecord
  dsimp only
  repeat' split
  case isTrue => exact ⟨rfl, rfl, Iff.rfl⟩
  case isFalse.isTrue h => exact enterPassage_kept _ _ (d := { d with lsv := { d.lsv with occupancy := _ } }) (by simp [h.1])
  case isFalse.isFalse => exact ⟨rfl, rfl, Iff.rfl⟩

theorem settleExpires_kept {d : Device} (hd : d.lsv.lane ≠ .init) : ZeroKept (settleExpires d) d := setLane_kept (by decide) hd

theorem clearExpires_kept (nv : NvStore) (t : Nat) {d : Device} (hd : d.lsv.lane ≠ .init) : ZeroKept (clearExpires nv t d) d := by
  have hc : ZeroSame (closePassage nv .clear t d) d := closePassage_zero nv .clear t d
  exact (setLane_kept (d := { closePassage nv .clear t d with lsv := { (closePassage nv .clear t d).lsv with settle := _, clear := _ } })
    (by decide) (by simpa using hd)).trans hc.kept

theorem ne_init_of_inPassage {l : Lane} (h : inPassage l = true) : l ≠ .init := by
  rintro rfl
  simp [inPassage] at h

theorem settleTimerExpires_kept (nv : NvStore) (d : Device) : ZeroKept (settleTimerExpires nv d) d := by
  unfold settleTimerExpires
  repeat' split
  case h_1.isTrue due _ h => exact settleExpires_kept (d := advance due d) (by simp [h.2])
  all_goals exact ⟨rfl, rfl, Iff.rfl⟩

theorem clearTimerExpires_kept (nv : NvStore) (d : Device) : ZeroKept (clearTimerExpires nv d) d := by
  unfold clearTimerExpires
  repeat' split
  case h_1.isTrue due _ h => exact clearExpires_kept nv due (d := advance due d) (ne_init_of_inPassage h.2)
  all_goals exact ⟨rfl, rfl, Iff.rfl⟩

theorem timersUnderNewSettings_kept (nv : NvStore) (d : Device) : ZeroKept (timersUnderNewSettings nv d) d := by
  have settle : ∀ due, ZeroKept (if d.lsv.lane = .entering ∧ due ≤ d.now then evalTimers d.now (settleExpires d) else d) d := by
    intro due
    split
    case isTrue h => exact settleExpires_kept (h.1 ▸ by decide)
    case isFalse => exact ⟨rfl, rfl, Iff.rfl⟩
  have clear : ∀ e due, ZeroKept
      (if inPassage e.lsv.lane ∧ due ≤ e.now then clearExpires nv (reportInstant e) e else e) e := by
    intro e due
    split
    case isTrue h => exact clearExpires_kept nv _ (ne_init_of_inPassage h.1)
    case isFalse => exact ⟨rfl, rfl, Iff.rfl⟩
  unfold timersUnderNewSettings
  cases settleDue d with
  | none =>
    dsimp only
    split
    · exact clear _ _
    · exact ⟨rfl, rfl, Iff.rfl⟩
  | some due =>
    dsimp only
    split
    · exact (clear _ _).trans (settle due)
    · exact settle due

theorem beamChange_kept (b : Beam) (nv : NvStore) (d : Device) : ZeroKept (beamChange b nv d) d := by
  unfold beamChange
  repeat' split
  case h_1.isTrue => exact (laneBeam_kept _ _ _ _).trans (storeBeam_zero _ _ _).kept
  all_goals exact ⟨rfl, rfl, Iff.rfl⟩

theorem stripHit_kept (strip : Strip) (t : Nat) (nv : NvStore) (d : Device) : ZeroKept (stripHit strip t nv d) d := by
  unfold stripHit
  dsimp only
  repeat' split
  case isTrue.isTrue => exact (laneHit_kept _ _ _ _).trans (storeHit_zero _ _ _).kept
  all_goals exact ⟨rfl, rfl, Iff.rfl⟩

/-! ### Zero-sets and tracking (R49, R52 to R54) -/

theorem within_iff (f ref : Int) (limit : Nat) : within f ref limit = true ↔ (f - ref).natAbs ≤ limit := by
  simp only [within, absInt, decide_eq_true_eq, Nat.cast_le]

/-- A tracking step stops at the edges of the operating range (R53, R54). -/
theorem trackedZ_range (step z f zi : Int) (span : Nat) : ((trackedZ step z f zi span).1 - zi).natAbs ≤ span := by
  unfold trackedZ
  dsimp only
  repeat' split
  all_goals dsimp only
  all_goals omega

theorem track_rule {r : CalRecord} (f : Int) (g : Option Int) {d : Device} (ha : d.mst.active = some r) (h : ZeroRule d) :
    ZeroRule (track r f g d) := by
  unfold track
  split
  · split
    case isTrue hz hi hc =>
      obtain ⟨hl, -, hset⟩ := h
      obtain ⟨r', z', zi', hr, -, hzi, -, hcal⟩ := hset hc.1
      cases ha.symm.trans hr
      cases hi.symm.trans hzi
      exact ⟨hl, fun hu => absurd (hc.1.symm.trans hu) (by decide), fun _ => ⟨r, _, _, ha, rfl, hi, trackedZ_range _ _ _ _ _, hcal⟩⟩
    case isFalse => exact h
  · exact h

theorem setOperatingZero_rule {r : CalRecord} {f zi : Int} {d : Device} (ha : d.mst.active = some r) (hset : d.zsu.set = true)
    (hi : d.zsu.zInit = some zi) (hf : (f - zi).natAbs ≤ 4 * r.max) (h : ZeroRule d) : ZeroRule (setOperatingZero f d) := by
  obtain ⟨hl, -, hs⟩ := h
  obtain ⟨r', z', zi', hr, -, hzi, -, hcal⟩ := hs hset
  cases ha.symm.trans hr
  cases hi.symm.trans hzi
  exact ⟨hl, fun hu => absurd (hset.symm.trans hu) (by decide), fun _ => ⟨r, f, zi, ha, rfl, hi, hf, hcal⟩⟩

theorem updateBaseline_rule (w : List WinEntry) {d : Device} (h : ZeroRule d) : ZeroRule (updateBaseline w d) := by
  unfold updateBaseline
  split <;> exact h

/-- SET zero with the lane not INIT keeps the rule as the lane moves among the other states. -/
theorem laneZeroSet_zero (d : Device) : (laneZeroSet d).zsu = d.zsu ∧ (laneZeroSet d).mst.active = d.mst.active ∧
    (laneZeroSet d).lsv.lane ≠ .init := by
  have hc : ZeroSame (setLane .clear d) { d with lsv := { d.lsv with lane := .clear } } :=
    ⟨(setLane_zsu _ d).1, (setLane_zsu _ d).2, setLane_lane _ d⟩
  obtain ⟨hz, ha, hl⟩ := hc
  have hne : (setLane .clear d).lsv.lane ≠ .init := by simp [hl]
  unfold laneZeroSet
  dsimp only
  repeat' split
  · obtain ⟨hz', ha', hl'⟩ := enterPassage_kept .beamIn (setLane .clear d).now hne
    exact ⟨hz'.trans hz, ha'.trans ha, fun h => hne (hl'.1 h)⟩
  · exact ⟨hz, ha, hne⟩
  · exact ⟨rfl, rfl, ‹_›⟩

/-- The initial zero (R49): within 10% of Max of Zcal, and the lane leaves INIT with it (R66). -/
theorem initialZero_rule {r : CalRecord} {f : Int} {d e : Device} (ha : d.mst.active = some r) (hf : (f - r.zcal).natAbs ≤ 10 * r.max)
    (he : ZeroSame e (setInitialZero f d)) : ZeroRule (laneZeroSet e) := by
  obtain ⟨hz, hact, hl⟩ := laneZeroSet_zero e
  obtain ⟨ez, ea, -⟩ := he
  refine ⟨?_, ?_, ?_⟩
  · rw [hz, ez]
    exact ⟨fun h => absurd h (by simp [setInitialZero]), fun h => absurd h hl⟩
  · rw [hz, ez]
    exact fun h => absurd h (by simp [setInitialZero])
  · rw [hz, ez, hact, ea]
    exact fun _ => ⟨r, f, f, ha, rfl, rfl, by simp, hf⟩

theorem stableUnset_rule {r : CalRecord} (f : Int) {d : Device} (ha : d.mst.active = some r) (h : ZeroRule d) :
    ZeroRule (stableUnset r f d) := by
  unfold stableUnset
  dsimp only
  split
  · exact h
  · split
    case isTrue hw =>
      rw [within_iff] at hw
      refine initialZero_rule (e := if zerWaiting d then _ else _) ha hw ?_
      split
      · exact complete_zero _ _
      · exact ⟨rfl, rfl, rfl⟩
    case isFalse =>
      split
      · exact (failWith_zero _ _ d).kept.rule h
      · exact h

theorem stableClear_rule {r : CalRecord} (f : Int) (g : Option Int) {d : Device} (ha : d.mst.active = some r) (hset : d.zsu.set = true)
    (h : ZeroRule d) : ZeroRule (stableClear r f g d) := by
  have hfail : ZeroRule (failWith .zrg [] d) := (failWith_zero _ _ d).kept.rule h
  unfold stableClear
  dsimp only
  split
  · split
    case h_1 zi hi =>
      split
      case isTrue hw =>
        rw [within_iff] at hw
        exact updateBaseline_rule _ ((complete_zero _ _).kept.rule (setOperatingZero_rule ha hset hi hw h))
      case isFalse => exact updateBaseline_rule _ (track_rule f g ha hfail)
    case h_2 => exact updateBaseline_rule _ hfail
  · exact updateBaseline_rule _ (track_rule f g ha h)

/-- The capture at a STABLE sample, and what follows it. -/
theorem stableActs_rule (nv : NvStore) {r : CalRecord} (wr : WeightRecord) (f : Int) (l : Lane) {d : Device}
    (ha : d.mst.active = some r) (h : ZeroRule d) :
    ZeroRule (if (captureStable nv r wr d).zsu.set then
      (if l = .clear then stableClear r f wr.g (captureStable nv r wr d) else captureStable nv r wr d)
      else stableUnset r f (captureStable nv r wr d)) := by
  have hc : ZeroSame (captureStable nv r wr d) d := captureStable_zero nv r wr d
  repeat' split
  case isTrue.isTrue hset _ => exact stableClear_rule _ _ (hc.2.1.trans ha) hset (hc.kept.rule h)
  case isTrue.isFalse => exact hc.kept.rule h
  case isFalse => exact stableUnset_rule _ (hc.2.1.trans ha) (hc.kept.rule h)

theorem zsuRecord_rule (nv : NvStore) (before : Option WeightRecord) (wr : WeightRecord) {d : Device} (h : ZeroRule d) :
    ZeroRule (zsuRecord nv before wr d) := by
  have h0 : ZeroRule (captureSlots before wr d) := (captureSlots_zero before wr d).kept.rule h
  unfold zsuRecord
  dsimp only
  split
  · exact h0
  · rename_i r ha
    split
    · refine stableActs_rule _ _ _ _ ?_ ?_
      exacts [ha, h0]
    · exact h0

theorem weightRecord_rule (nv : NvStore) (sr : SampleRecord) {d : Device} (h : ZeroRule d) : ZeroRule (weightRecord nv sr d) :=
  (axuRecord_zero _ _).kept.rule ((laneRecord_kept _ _ _).rule (zsuRecord_rule nv _ _ h))

theorem handSample_rule (nv : NvStore) {d : Device} (h : ZeroRule d) : ZeroRule (handSample nv d) := by
  unfold handSample
  repeat' split
  case h_1.isTrue => exact (mstRecord_zero _ _).kept.rule (weightRecord_rule nv _ h)
  all_goals exact h

/-! ### Events that can end with a weight record -/

theorem lineGoesOn_rule (nv : NvStore) (l : Ix) {d : Device} (h : ZeroRule d) : ZeroRule (lineGoesOn nv l d) := handSample_rule nv h

theorem sampleInstant_rule (nv : NvStore) {d : Device} (h : ZeroRule d) : ZeroRule (sampleInstant nv d) := by
  have he : ZeroRule (endCycle nv d) := by
    unfold endCycle
    split
    · exact handSample_rule nv ((lateSlots_zero nv d).kept.rule h)
    · exact h
  unfold sampleInstant beginCycle
  dsimp only
  split
  · exact handSample_rule nv ((silentSlots_zero _ _).kept.rule he)
  · exact h

theorem replyWaitTimeout_rule (l : Ix) (nv : NvStore) {d : Device} (h : ZeroRule d) : ZeroRule (replyWaitTimeout l nv d) := by
  unfold replyWaitTimeout
  repeat' split
  case h_1.isTrue => exact lineGoesOn_rule nv l ((waitedMiss_zero _ _ _ _).kept.rule h)
  all_goals exact h

theorem replyFrame_rule (l : Ix) (ref : Nat) (syms : List Nat) (nv : NvStore) {d : Device} (h : ZeroRule d) :
    ZeroRule (replyFrame l ref syms nv d) := by
  unfold replyFrame
  repeat' split
  · exact lineGoesOn_rule nv l ((validFrame_zero _ _ _ _).kept.rule h)
  · exact (badFrame_zero _ _ _ _).kept.rule h
  all_goals exact h

theorem quietWaitEnd_rule (l : Ix) (nv : NvStore) {d : Device} (h : ZeroRule d) : ZeroRule (quietWaitEnd l nv d) := by
  unfold quietWaitEnd
  split
  · exact lineGoesOn_rule nv l h
  · exact h

theorem lineShorted_rule (l : Ix) (nv : NvStore) {d : Device} (h : ZeroRule d) : ZeroRule (lineShorted l nv d) := by
  unfold lineShorted
  dsimp only
  split
  · have hf : ZeroSame (faultLine nv l (shortedSlot nv l d)) d := (faultLine_zero _ _ _).trans (shortedSlot_zero _ _ _)
    exact handSample_rule nv ((silentSlots_zero _ _).kept.rule ((raise_zero _ _).kept.rule (hf.kept.rule h)))
  · exact h

/-! ### Commits (R61, R80, R166) and reports of writes -/

/-- The lane goes to INIT with zero UNSET at Zcal. -/
theorem setLane_init_rule {d : Device} (hs : d.zsu.set = false) (hz : d.zsu.z = d.mst.active.map (·.zcal)) (hi : d.zsu.zInit = none) :
    ZeroRule (setLane .init d) := by
  unfold ZeroRule
  rw [setLane_lane, (setLane_zsu _ _).1, (setLane_zsu _ _).2]
  exact ⟨⟨fun _ => rfl, fun _ => hs⟩, fun _ => ⟨hz, hi⟩, fun h => absurd (hs.symm.trans h) (by decide)⟩

/-- A commit, or a calibration write that failed: zero UNSET at the new Zcal, the lane INIT. -/
theorem blocksCommit_rule (nv : NvStore) (d : Device) : ZeroRule (blocksCommit nv d) := by
  generalize hd : zsuCommit (csuCommit (clcCommit nv d)) = e
  have he : e.zsu.set = false ∧ e.zsu.z = e.mst.active.map (·.zcal) ∧ e.zsu.zInit = none := hd ▸ ⟨rfl, rfl, rfl⟩
  obtain ⟨hz, ha, -⟩ := closePassage_zero nv .commit (reportInstant e) e
  unfold blocksCommit laneCommit
  rw [hd]
  refine setLane_init_rule ?_ ?_ ?_
  · simpa only [hz] using he.1
  · simpa only [hz, ha] using he.2.1
  · simpa only [hz] using he.2.2

theorem settingsDone_rule (nv : NvStore) (ok : Bool) (new : Settings) {d : Device} (h : ZeroRule d) : ZeroRule (settingsDone nv ok new d) := by
  unfold settingsDone
  split
  · refine (complete_zero _ _).kept.rule ((timersUnderNewSettings_kept nv _).rule ((clcNewHold_zero nv _).kept.rule h))
  · exact (failWith_zero _ _ d).kept.rule h

theorem ccmRecordDone_rule (nv : NvStore) (ok : Bool) (w : NvWrite) (more : Bool) (count : Nat) (lockClosed : Bool) (d : Device) :
    ZeroRule (ccmRecordDone nv ok w more count lockClosed d) := by
  have hl : ZeroRule (failWith .nvf [] (loseRecord nv d)) :=
    (failWith_zero _ _ _).kept.rule <| (requestStatus_zero _ _ _ _).kept.rule <| (raise_zero _ _).kept.rule (blocksCommit_rule nv _)
  unfold ccmRecordDone
  dsimp only
  repeat' split
  · exact (requestStatus_zero _ _ _ _).kept.rule ((raise_zero _ _).kept.rule (blocksCommit_rule nv _))
  · exact (discardRun_zero _ _).kept.rule hl
  · exact hl

theorem longDone_rule (nv nv' : NvStore) (ok : Bool) (w : NvWrite) {d : Device} (h : ZeroRule d) : ZeroRule (longDone nv nv' ok w d) := by
  unfold longDone
  split
  case h_8 => exact settingsDone_rule _ _ _ h
  case h_10 => exact ccmRecordDone_rule _ _ _ _ _ _ _
  all_goals exact ZeroKept.rule (ZeroSame.kept (by simp [ZeroSame])) h

theorem reportTo_rule (nv nv' : NvStore) (ok : Bool) (r : WriteReq) {d : Device} (h : ZeroRule d) : ZeroRule (reportTo nv nv' ok r d) := by
  unfold reportTo
  dsimp only
  repeat' split
  case h_1 => exact longDone_rule _ _ _ _ h
  all_goals exact ZeroKept.rule (ZeroSame.kept (by simp [ZeroSame])) h

theorem writeComplete_rule (ok : Bool) (nv : NvStore) {d : Device} (h : ZeroRule d) : ZeroRule (writeComplete ok nv d).2 := by
  unfold writeComplete
  repeat' split
  · exact (startWrite_zero _).kept.rule (reportTo_rule _ _ _ _ h)
  all_goals exact h

/-! ### Power, reset and the scan -/

theorem zeroRule_unset {d : Device} (hl : d.lsv.lane = .init) (hs : d.zsu.set = false) (hz : d.zsu.z = d.mst.active.map (·.zcal))
    (hi : d.zsu.zInit = none) : ZeroRule d :=
  ⟨⟨fun _ => hl, fun _ => hs⟩, fun _ => ⟨hz, hi⟩, fun h => absurd (hs.symm.trans h) (by decide)⟩

theorem clearedFrom_rule (d : Device) (phase : Phase) (low : Bool) (cause : StartCause) (clock : Option Nat) :
    ZeroRule (clearedFrom d phase low cause clock) := zeroRule_unset rfl rfl rfl rfl

theorem scanState_zero (nv : NvStore) (d : Device) : ZeroSame (scanState nv d) d := by
  unfold scanState
  dsimp only
  repeat' split
  all_goals simp [ZeroSame]

theorem auditRepair_zero (ok : Bool) (nv : NvStore) (d : Device) : ZeroSame (auditRepair ok nv d).2 d := by
  unfold auditRepair
  split <;> exact ⟨rfl, rfl, rfl⟩

theorem journalRepair_zero (ok : Bool) (nv : NvStore) (d : Device) : ZeroSame (journalRepair ok nv d).2 d := by
  unfold journalRepair oweRepair
  dsimp only
  repeat' split
  all_goals exact ⟨rfl, rfl, rfl⟩

/-- After the calibration record the scan touches neither zero, lane nor active record. -/
theorem scan_zero (a j : Bool) (nv : NvStore) (d : Device) : ZeroSame (scan a j nv d).2 (scanCalibration nv (scanSettings nv d)) := by
  have last : ∀ nv' e, ZeroSame (requestFreeing nv' Config.attachCap (scanNextVisit nv' (reconcile nv' e))) e :=
    fun nv' e => (requestFreeing_zero nv' Config.attachCap _).trans ⟨rfl, rfl, rfl⟩
  have tables : ∀ nv' e, ZeroSame (scanJournal nv' (scanVisits nv' (scanTares nv' e))) e := fun _ _ => ⟨rfl, rfl, rfl⟩
  have first : ∀ e, ZeroSame (scanAudit nv (scanStatus nv e)) e := fun _ => ⟨rfl, rfl, rfl⟩
  exact (last _ _).trans <| (journalRepair_zero j _ _).trans <| (tables _ _).trans <| (scanState_zero _ _).trans <|
    (auditRepair_zero a _ _).trans (first _)

theorem scan_rule (a j : Bool) (nv : NvStore) (d : Device) (cause : StartCause) (clock : Option Nat) :
    ZeroRule (scan a j nv (clearedFrom d .scan false cause clock)).2 :=
  (scan_zero a j nv _).kept.rule (zeroRule_unset rfl rfl rfl rfl)

theorem scanEnd_rule (nv : NvStore) {d : Device} (h : ZeroRule d) : ZeroRule (scanEnd nv d) := by
  unfold scanEnd finishScan
  dsimp only
  repeat' split
  · exact (raise_zero _ _).kept.rule ((raise_zero _ _).kept.rule ((startWrite_zero _).kept.rule h))
  · exact (raise_zero _ _).kept.rule ((startWrite_zero _).kept.rule h)
  · exact h

theorem clockSecond_rule (nv : NvStore) {d : Device} (h : ZeroRule d) : ZeroRule (clockSecond nv d) := by
  unfold clockSecond
  dsimp only
  repeat' split
  · exact h
  · exact (checkOverdue_zero _ _).kept.rule h
  · exact h

/-! ### Every command keeps the rule -/

theorem refreshLights_rule {d : Device} (h : ZeroRule d) : ZeroRule (refreshLights d) := by
  rw [refreshLights_eq]
  exact h

theorem command_rule (t : Tag) {body : NvStore → Device → Device} (hb : ∀ nv d, ZeroSame (body nv d) d) (nv : NvStore) {d : Device}
    (h : ZeroRule d) : ZeroRule (command t body nv d) := by
  unfold command
  repeat' split
  · exact (refuse_zero _ _ _).kept.rule h
  · exact (hb _ _).kept.rule h
  · exact (refuse_zero _ _ _).kept.rule h
  · exact h

theorem event_rule {c : Instr} {s t : State} (hc : c.command? = none) (hs : ZeroRule s.dev) (h : exec c s = .next t) : ZeroRule t.dev := by
  cases c
  case powerOn a j =>
    cases h
    exact refreshLights_rule (powerOn_kept a j _ hs (fun _ _ _ _ => clearedFrom_rule _ _ _ _ _) fun _ _ => scan_rule _ _ _ _ _ _)
  case resetLineRelease a j =>
    cases h
    exact refreshLights_rule (resetLineRelease_kept a j _ (fun _ => hs) fun _ _ => scan_rule _ _ _ _ _ _)
  case resetLineLow p =>
    cases h
    exact refreshLights_rule (resetLineLow_kept p _ (fun _ => hs) fun _ _ _ _ => clearedFrom_rule _ _ _ _ _)
  case powerFailure p =>
    cases h
    exact refreshLights_rule (powerFailure_kept p _ hs fun _ _ _ _ => clearedFrom_rule _ _ _ _ _)
  case nvcWriteComplete x => cases h; exact refreshLights_rule (writeComplete_rule x _ hs)
  case sampleInstant => cases h; exact refreshLights_rule (sampleInstant_rule _ hs)
  case scanEnd => cases h; exact refreshLights_rule (scanEnd_rule _ hs)
  case clockSecond => cases h; exact refreshLights_rule (clockSecond_rule _ hs)
  case replyWaitTimeout l => cases h; exact refreshLights_rule (replyWaitTimeout_rule l _ hs)
  case replyFrame l r ts => cases h; exact refreshLights_rule (replyFrame_rule l r ts _ hs)
  case quietWaitEnd l => cases h; exact refreshLights_rule (quietWaitEnd_rule l _ hs)
  case lineShorted l => cases h; exact refreshLights_rule (lineShorted_rule l _ hs)
  case beamChange b => cases h; exact refreshLights_rule ((beamChange_kept b _ _).rule hs)
  case stripHit k t => cases h; exact refreshLights_rule ((stripHit_kept k t _ _).rule hs)
  case settleTimerExpires => cases h; exact refreshLights_rule ((settleTimerExpires_kept _ _).rule hs)
  case clearTimerExpires => cases h; exact refreshLights_rule ((clearTimerExpires_kept _ _).rule hs)
  all_goals cases hc <;> cases h <;> exact refreshLights_rule (ZeroKept.rule (ZeroSame.kept (by simp [ZeroSame])) hs)

theorem exec_rule {c : Instr} {s t : State} (hs : ZeroRule s.dev) (h : exec c s = .next t) : ZeroRule t.dev := by
  cases hc : c.command? with
  | none => exact event_rule hc hs h
  | some x =>
    obtain ⟨body, he, hb⟩ := exec_command hc s
    cases he.symm.trans h
    exact refreshLights_rule (command_rule x.1 (fun nv d => (hb nv d).2.1) s.nv hs)

/-- Settles O7. -/
theorem zeroRuleKept : Obligations.ZeroRuleKept :=
  fun _ _ hs h => step_keeps (P := fun s => ZeroRule s.dev) (fun _ _ hs => hs) (fun _ _ _ hs h => exec_rule hs h) hs h

end Sys2Proof.Machine
end

section
/-! PROOF. The path of a command (R200 to R202): the form of a record, refusals before the command, and the command a record runs. -/

namespace Sys2Proof.Machine

open Sys2Proof.Safety

/-! ### The form of a command record (section 11.2) -/

/-- Fields as a record carries them: each after one or more spaces. -/
def fieldsText (gaps : List Nat) (fs : List Text) : Text := (gaps.zip fs).flatMap fun g => List.replicate g.1 ' ' ++ g.2

/-- The text is that of fields each after one or more spaces. -/
def FieldsForm (l : Text) (fs : List Text) : Prop :=
  ∃ gaps : List Nat, gaps.length = fs.length ∧ (∀ n ∈ gaps, 0 < n) ∧ l = fieldsText gaps fs

theorem FieldsForm.nil : FieldsForm [] [] := ⟨[], rfl, by simp, rfl⟩

theorem FieldsForm.cons {n : Nat} {f l : Text} {fs : List Text} (hn : 0 < n) (h : FieldsForm l fs) :
    FieldsForm (List.replicate n ' ' ++ (f ++ l)) (f :: fs) := by
  obtain ⟨gaps, hlen, hpos, rfl⟩ := h
  exact ⟨n :: gaps, by simp [hlen], by simpa [hn] using hpos, by simp [fieldsText]⟩

theorem FieldsForm.nil_inv {l : Text} (h : FieldsForm l []) : l = [] := by
  obtain ⟨gaps, hlen, -, rfl⟩ := h
  simp [fieldsText]

theorem FieldsForm.cons_inv {l f : Text} {fs : List Text} (h : FieldsForm l (f :: fs)) :
    ∃ n l', l = ' ' :: (List.replicate n ' ' ++ (f ++ l')) ∧ FieldsForm l' fs := by
  obtain ⟨gaps, hlen, hpos, rfl⟩ := h
  obtain _ | ⟨n, gaps⟩ := gaps
  · simp at hlen
  · obtain ⟨k, rfl⟩ : ∃ k, n = k + 1 := ⟨n - 1, by have := hpos n (by simp); omega⟩
    exact ⟨k, fieldsText gaps fs, by simp [fieldsText, List.replicate_succ],
      gaps, by simpa using hlen, fun m hm => hpos m (by simp [hm]), rfl⟩

/-- A word: at least one character, and no space. -/
abbrev IsWord (f : Text) : Prop := f ≠ [] ∧ ' ' ∉ f

/-- What the splitter makes of a text from each of its states: before any space, after spaces, and inside a field. -/
theorem splitFields_sound (l : Text) : ∀ acc out,
    (splitFields l none acc = some out → ∃ fs, out = acc.reverse ++ fs ∧ FieldsForm l fs ∧ ∀ f ∈ fs, IsWord f) ∧
    (splitFields l (some []) acc = some out → ∃ n f l' fs, out = acc.reverse ++ f :: fs ∧
      l = List.replicate n ' ' ++ (f ++ l') ∧ FieldsForm l' fs ∧ ∀ g ∈ f :: fs, IsWord g) ∧
    ∀ c cur, splitFields l (some (c :: cur)) acc = some out → ∃ f l' fs, out = acc.reverse ++ ((c :: cur).reverse ++ f) :: fs ∧
      l = f ++ l' ∧ ' ' ∉ f ∧ FieldsForm l' fs ∧ ∀ g ∈ fs, IsWord g := by
  induction l with
  | nil =>
    intro acc out
    refine ⟨?_, ?_, ?_⟩
    · intro h
      simp only [splitFields, Option.some.injEq] at h
      exact ⟨[], by simp [h], .nil, by simp⟩
    · intro h; simp [splitFields] at h
    · intro c cur h
      simp only [splitFields, Option.some.injEq] at h
      exact ⟨[], [], [], by simp [← h], rfl, by simp, .nil, by simp⟩
  | cons x l ih =>
    intro acc out
    by_cases hx : x = ' '
    · subst hx
      refine ⟨?_, ?_, ?_⟩
      · intro h
        rw [splitFields] at h
        obtain ⟨n, f, l', fs, hout, rfl, hform, hw⟩ := (ih acc out).2.1 h
        exact ⟨f :: fs, hout, .cons (n := n + 1) (by omega) hform, hw⟩
      · intro h
        rw [splitFields] at h
        obtain ⟨n, f, l', fs, hout, rfl, hform, hw⟩ := (ih acc out).2.1 h
        exact ⟨n + 1, f, l', fs, hout, rfl, hform, hw⟩
      · intro c cur h
        rw [splitFields] at h
        · obtain ⟨n, f, l', fs, hout, rfl, hform, hw⟩ := (ih _ out).2.1 h
          exact ⟨[], _, f :: fs, by simp [hout], rfl, by simp, .cons (n := n + 1) (by omega) hform, hw⟩
        · simp
    · refine ⟨?_, ?_, ?_⟩
      · intro h
        simp [splitFields] at h
      · intro h
        rw [splitFields] at h
        · obtain ⟨f, l', fs, hout, rfl, hf, hform, hw⟩ := (ih acc out).2.2 x [] h
          refine ⟨0, x :: f, l', fs, by simpa using hout, rfl, hform, ?_⟩
          simp only [List.mem_cons, forall_eq_or_imp]
          exact ⟨⟨by simp, by simp [hf, Ne.symm hx]⟩, hw⟩
        all_goals simp [hx]
      · intro c cur h
        rw [splitFields] at h
        · obtain ⟨f, l', fs, hout, rfl, hf, hform, hw⟩ := (ih acc out).2.2 x (c :: cur) h
          exact ⟨x :: f, l', fs, by simpa using hout, rfl, by simp [hf, Ne.symm hx], hform, hw⟩
        all_goals simp [hx]

theorem splitFields_spaces (n : Nat) (l : Text) (acc : List Text) :
    splitFields (List.replicate n ' ' ++ l) (some []) acc = splitFields l (some []) acc := by
  induction n with
  | zero => rfl
  | succ n ih => rw [List.replicate_succ, List.cons_append, splitFields, ih]

theorem splitFields_word {f : Text} (hf : ' ' ∉ f) (l cur : Text) (acc : List Text) :
    splitFields (f ++ l) (some cur) acc = splitFields l (some (f.reverse ++ cur)) acc := by
  induction f generalizing cur with
  | nil => rfl
  | cons x f ih =>
    obtain ⟨hx, hf⟩ := not_or.1 (List.mem_cons.not.1 hf)
    rw [List.cons_append, splitFields, ih hf]
    · simp
    all_goals simp [Ne.symm hx]

theorem splitFields_complete (fs : List Text) (hw : ∀ f ∈ fs, IsWord f) : ∀ l acc, FieldsForm l fs →
    splitFields l none acc = some (acc.reverse ++ fs) ∧
      ∀ c cur, splitFields l (some (c :: cur)) acc = some (acc.reverse ++ (c :: cur).reverse :: fs) := by
  induction fs with
  | nil =>
    intro l acc h
    cases h.nil_inv
    exact ⟨by simp [splitFields], fun c cur => by simp [splitFields]⟩
  | cons f fs ih =>
    intro l acc h
    obtain ⟨n, l', rfl, hform⟩ := h.cons_inv
    obtain ⟨⟨hne, hf⟩, hw⟩ := List.forall_mem_cons.1 hw
    obtain ⟨c, cur, hrev⟩ := List.exists_cons_of_ne_nil (List.reverse_ne_nil_iff.2 hne)
    have field : ∀ acc, splitFields (List.replicate n ' ' ++ (f ++ l')) (some []) acc = some (acc.reverse ++ f :: fs) := by
      intro acc
      rw [splitFields_spaces, splitFields_word hf, List.append_nil, hrev, (ih hw l' acc hform).2, ← hrev, List.reverse_reverse]
    refine ⟨by rw [splitFields, field], fun d rest => ?_⟩
    rw [splitFields, field]
    · simp
    · simp

theorem isPrintable_iff (c : Char) : isPrintable c = true ↔ c = ' ' ∨ 0x21 ≤ c.toNat ∧ c.toNat ≤ 0x7E := by
  have hsp : c = ' ' ↔ c.toNat = 0x20 := ⟨fun h => h ▸ rfl, fun h => Char.toNat_inj.1 h⟩
  simp only [isPrintable, Bool.and_eq_true, decide_eq_true_eq, hsp]
  omega

theorem isCapital_or_isDigit_iff (c : Char) :
    (isCapital c || isDigit c) = true ↔ (65 ≤ c.toNat ∧ c.toNat ≤ 90) ∨ (48 ≤ c.toNat ∧ c.toNat ≤ 57) := by
  simp [isCapital, isDigit]

theorem readTag_eq_some_iff (t name rest : Text) : readTag t = some (name, rest) ↔
    name.length = 3 ∧ (∀ c ∈ name, (65 ≤ c.toNat ∧ c.toNat ≤ 90) ∨ (48 ≤ c.toNat ∧ c.toNat ≤ 57)) ∧ t = '>' :: (name ++ rest) := by
  constructor
  · intro h
    unfold readTag at h
    split at h
    · split at h
      · rename_i a b c _ hall
        cases h
        exact ⟨rfl, fun x hx => (isCapital_or_isDigit_iff x).1 (List.all_eq_true.1 hall x hx), rfl⟩
      · cases h
    · cases h
  · rintro ⟨hlen, hall, rfl⟩
    obtain ⟨a, b, c, rfl⟩ := List.length_eq_three.1 hlen
    have : ([a, b, c].all fun x => isCapital x || isDigit x) = true :=
      List.all_eq_true.2 fun x hx => (isCapital_or_isDigit_iff x).2 (hall x hx)
    simp only [List.cons_append, List.nil_append, readTag, this, if_true]

theorem mem_fieldsText {gaps : List Nat} {fs : List Text} (hlen : gaps.length = fs.length) {c : Char} (hc : c ≠ ' ') :
    c ∈ fieldsText gaps fs ↔ ∃ f ∈ fs, c ∈ f := by
  induction gaps generalizing fs with
  | nil =>
    obtain rfl : fs = [] := List.length_eq_zero_iff.1 hlen.symm
    simp [fieldsText]
  | cons n gaps ih =>
    obtain _ | ⟨f, fs⟩ := fs
    · simp at hlen
    · have := ih (fs := fs) (by simpa using hlen)
      simp only [fieldsText] at this
      simp [fieldsText, this, hc]

/-- Check 3 of R200 is the form of section 11.2. -/
theorem readRecord_eq_some_iff (t name : Text) (fs : List Text) : readRecord t = some (name, fs) ↔ CommandForm t name fs := by
  constructor
  · intro h
    unfold readRecord at h
    split at h
    · rename_i hall
      split at h
      · cases h
      · rename_i tag rest htag
        obtain ⟨hlen, hname, rfl⟩ := (readTag_eq_some_iff _ _ _).1 htag
        obtain ⟨fs', hsplit, heq⟩ := Option.map_eq_some_iff.1 h
        cases heq
        obtain ⟨fs, rfl, hform, hw⟩ := (splitFields_sound rest [] fs).1 hsplit
        obtain ⟨gaps, hg, hpos, rfl⟩ := hform
        refine ⟨hlen, hname, fun f hf => ⟨(hw f hf).1, fun c hc => ?_⟩, gaps, hg, hpos, rfl⟩
        have hsp : c ≠ ' ' := fun h => (hw f hf).2 (h ▸ hc)
        have hmem : c ∈ '>' :: (name ++ fieldsText gaps fs) := by simp [(mem_fieldsText hg hsp).2 ⟨f, hf, hc⟩]
        exact ((isPrintable_iff c).1 (List.all_eq_true.1 hall c hmem)).resolve_left hsp
    · cases h
  · rintro ⟨hlen, hname, hfs, gaps, hg, hpos, rfl⟩
    have hw : ∀ f ∈ fs, IsWord f := fun f hf => ⟨(hfs f hf).1, fun h => absurd ((hfs f hf).2 _ h).1 (by decide)⟩
    have hall : ('>' :: (name ++ fieldsText gaps fs)).all isPrintable = true := by
      refine List.all_eq_true.2 fun c hc => (isPrintable_iff c).2 ?_
      by_cases hsp : c = ' '
      · exact .inl hsp
      · rw [List.mem_cons, List.mem_append, mem_fieldsText hg hsp] at hc
        obtain rfl | hc | ⟨f, hf, hc⟩ := hc
        · exact .inr (by decide)
        · exact .inr (by have := hname c hc; omega)
        · exact .inr ((hfs f hf).2 c hc)
    have htag : readTag ('>' :: (name ++ fieldsText gaps fs)) = some (name, fieldsText gaps fs) :=
      (readTag_eq_some_iff _ _ _).2 ⟨hlen, hname, rfl⟩
    have hsplit := (splitFields_complete fs hw (fieldsText gaps fs) [] ⟨gaps, hg, hpos, rfl⟩).1
    change readRecord ('>' :: (name ++ fieldsText gaps fs)) = _
    rw [readRecord, if_pos hall, htag]
    simp only [hsplit, List.reverse_nil, List.nil_append, Option.map_some]

/-! ### Tags -/

theorem tagOfText_tagText (g : Tag) : tagOfText (tagText g) = some g := by cases g <;> rfl

theorem tagOfText_eq_none {t : Text} (h : ∀ g, tagText g ≠ t) : tagOfText t = none := by
  simp [tagOfText, h]

theorem tagOfText_eq_some {t : Text} {g : Tag} (h : tagOfText t = some g) : tagText g = t := by
  simpa using List.find?_some h

theorem tagText_form (g : Tag) :
    (tagText g).length = 3 ∧ ∀ c ∈ tagText g, (65 ≤ c.toNat ∧ c.toNat ≤ 90) ∨ (48 ≤ c.toNat ∧ c.toNat ≤ 57) := by
  cases g <;> simp [tagText]

/-! ### The command a record runs -/

theorem runCommand_of_notNvc {i : Instr} {g : Tag} {fs : List Text} (hwf : i.wf = true) (h : i.command? = some (g, fs)) (s : State) :
    exec i s = s.act (runCommand g fs) := by
  cases i <;> cases h
  case get =>
    have hn : notNvc fs = true := (Bool.and_eq_true _ _ ▸ hwf).2
    cases fs with
    | nil => rfl
    | cons f rest =>
      have hf : f ≠ tNvc := by simpa [notNvc] using hn
      simp only [exec, execGet, runCommand, hf, if_false]
  case getNvc => simp only [exec, execGetNvc, runCommand, if_true]
  all_goals rfl

theorem fieldOk_iff (f : Text) : fieldOk f = true ↔ f ≠ [] ∧ ∀ c ∈ f, 0x21 ≤ c.toNat ∧ c.toNat ≤ 0x7E := by
  simp [fieldOk]

theorem fieldsText_single (fs : List Text) : fieldsText (List.replicate fs.length 1) fs = fs.flatMap fun f => ' ' :: f := by
  induction fs with
  | nil => rfl
  | cons f fs ih => simpa [fieldsText, List.replicate_succ] using ih

/-- The text of a well-formed command is in command form, each field after one space. -/
theorem commandForm_recordText {g : Tag} {fs : List Text} (h : fs.all fieldOk = true) :
    CommandForm (recordText g fs) (tagText g) fs := by
  obtain ⟨hlen, hname⟩ := tagText_form g
  refine ⟨hlen, hname, fun f hf => (fieldOk_iff f).1 (List.all_eq_true.1 h f hf), List.replicate fs.length 1, by simp,
    fun n hn => by simp [List.eq_of_mem_replicate hn], ?_⟩
  have := fieldsText_single fs
  rw [fieldsText] at this
  rw [this]
  rfl

theorem parseRecord_recordText {i : Instr} {g : Tag} {fs : List Text} (hwf : i.wf = true) (h : i.command? = some (g, fs)) (nv : NvStore)
    (d : Device) : parseRecord (recordText g fs) false false nv d = runCommand g fs nv d := by
  have hfs : fs.all fieldOk = true := by
    simp only [Instr.wf, h, recordOk, Bool.and_eq_true] at hwf
    exact hwf.1.1
  simp [parseRecord, (readRecord_eq_some_iff _ _ _).2 (commandForm_recordText hfs), tagOfText_tagText]

theorem fits_iff (q r : Text) : fits q r = true ↔ q = [] ∨ q.length + r.length ≤ 2048 := by
  rw [fits, Bool.or_eq_true, decide_eq_true_eq, List.isEmpty_iff, or_comm]
  rfl

/-- Settles O9: a well-formed command's text is read back as its tag and its fields, so dispatch runs that very command. -/
theorem hostRecordDispatch : Obligations.HostRecordDispatch := by
  intro i g fs s hwf hc hu hcomp hbuf herr hovf
  refine ⟨_, runCommand_of_notNvc hwf hc _, ?_⟩
  have hparse : parseRecord s.dev.rx.buf s.dev.rx.err s.dev.rx.ovf s.nv { s.dev with rx := s.dev.rx.emptied } =
      runCommand g fs s.nv { s.dev with rx := s.dev.rx.emptied } := by
    rw [hbuf, herr, hovf, parseRecord_recordText hwf hc]
  change s.act recordDispatch = _
  rw [act_eq, recordDispatch, hu, hcomp]
  simp only [Bool.and_self, if_true, hparse, Bool.and_eq_true, fits_iff, List.isEmpty_iff, and_assoc]
  generalize runCommand g fs s.nv { s.dev with rx := s.dev.rx.emptied } = d1
  have htx : (refreshLights d1).tx = d1.tx := by rw [refreshLights_eq]
  have hprod : produced s.dev (refreshLights d1) = produced s.dev d1 := by simp only [produced, htx]
  simp only [htx, hprod]
  split <;> rfl

/-! ### Refusals before the command -/

theorem readTag_tagText (g : Tag) (rest : Text) : readTag ('>' :: (tagText g ++ rest)) = some (tagText g, rest) :=
  (readTag_eq_some_iff _ _ _).2 ⟨(tagText_form g).1, (tagText_form g).2, rfl⟩

theorem refusalTag_known (g : Tag) (rest : Text) : refusalTag ('>' :: (tagText g ++ rest)) = tagText g := by
  simp [refusalTag, readTag_tagText, tagOfText_tagText]

theorem refusalTag_unknown {buf : Text} (h : ∀ (g : Tag) (rest : Text), buf ≠ '>' :: (tagText g ++ rest)) : refusalTag buf = noTag := by
  unfold refusalTag
  split
  · rename_i tag rest htag
    obtain ⟨-, -, rfl⟩ := (readTag_eq_some_iff _ _ _).1 htag
    rw [tagOfText_eq_none fun g hg => h g rest (hg ▸ rfl)]
    rfl
  · rfl

/-- A refusal, alone waiting, fits the empty queue: the record is taken. -/
theorem dispatch_refused {s : State} {name code : Text} (hu : uartOn s.dev = true) (hc : s.dev.rx.complete = true)
    (hr : s.dev.tx.replies = []) (hh : s.dev.tx.held = []) (hp : s.dev.tx.placing = []) (hq : s.dev.tx.queue = [])
    (h : parseRecord s.dev.rx.buf s.dev.rx.err s.dev.rx.ovf s.nv { s.dev with rx := s.dev.rx.emptied } =
      reply '#' name [code] { s.dev with rx := s.dev.rx.emptied }) :
    exec .recordDispatch s = .next (becomes s (withReply (recordOf '#' name [code]) { s.dev with rx := s.dev.rx.emptied })) := by
  change s.act recordDispatch = _
  rw [act_eq, recordDispatch, hu, hc]
  simp only [Bool.and_self, if_true, h]
  have hheld : (reply '#' name [code] { s.dev with rx := s.dev.rx.emptied }).tx.held = [] := by simp [reply, joinReplies, hh]
  simp only [hr, hheld, hp, hq, List.isEmpty_nil, Bool.and_self, (fits_iff [] _).2 (.inl rfl), if_true]
  rfl

theorem parseRecord_marked {buf : Text} {err ovf : Bool} (h : err = true ∨ ovf = true) (nv : NvStore) (d : Device) :
    parseRecord buf err ovf nv d =
      reply '#' (refusalTag buf) [if err = true then ['C', 'H', 'R'] else ['L', 'E', 'N']] d := by
  cases err <;> simp_all [parseRecord, Code.text]

/-- Settles O10: the checks of `parseRecord` in their order, the third by `readRecord_eq_some_iff`. -/
theorem malformedRecordRefused : Obligations.MalformedRecordRefused := by
  intro s hu hc hr hh hp hq
  refine ⟨fun hm g rest hbuf => ?_, fun hm hbuf => ?_, fun herr hovf hform => ?_, fun herr hovf name fs hform htag => ?_⟩
  · refine dispatch_refused hu hc hr hh hp hq ?_
    rw [parseRecord_marked hm, hbuf, refusalTag_known]
  · refine dispatch_refused hu hc hr hh hp hq ?_
    rw [parseRecord_marked hm, refusalTag_unknown hbuf]
    rfl
  · refine dispatch_refused hu hc hr hh hp hq ?_
    have hnone : readRecord s.dev.rx.buf = none :=
      Option.eq_none_iff_forall_ne_some.2 fun x hx => hform _ _ ((readRecord_eq_some_iff _ _ _).1 hx)
    simp [parseRecord, herr, hovf, hnone, noTag, Code.text]
  · refine dispatch_refused hu hc hr hh hp hq ?_
    simp [parseRecord, herr, hovf, (readRecord_eq_some_iff _ _ _).2 hform, tagOfText_eq_none htag, noTag, Code.text]

/-- Settles O11: checks 5 and 6 are the first two of `command`. -/
theorem busyRefusals : Obligations.BusyRefusals := by
  intro i g fs s hc hu hbusy
  obtain ⟨body, he, -⟩ := exec_command hc s
  rw [he, act_eq]
  have : command g body s.nv s.dev = refused g .bsy s.dev := by
    rw [← refuse_eq]
    obtain hr | ⟨hl, hs⟩ := hbusy
    · simp [command, hu, hr]
    · simp [command, hu, hl, Option.isSome_iff_ne_none.2 hs]
  rw [this]

end Sys2Proof.Machine
end

section
/-! PROOF. Replies to reads: weight, cells and passages, tables, journal, metrology, audit log, settings, error report and clock. -/

namespace Sys2Proof.Machine

open Sys2Proof.Safety

/-! ### Immediate commands -/

/-- A command that the Executive's checks let through is its owner's body. -/
theorem act_command {s : State} {t : Tag} {body : NvStore → Device → Device} {d : Device} (h : TakesCommands s.dev)
    (hl : isLongTag t = false ∨ s.dev.exe.slot = none) (hd : body s.nv s.dev = d) :
    s.act (command t body) = .next (becomes s d) := by
  rw [act_eq, command_eq t body s.nv h hl, hd]

/-! ### WTR and STA (R41, R201) -/

theorem weightField_some (r : WeightRecord) : weightField (some r) = match r.wstate with
    | .invalid => ['-', '-', '-', '-', '-']
    | .over => ['O', 'V', 'E', 'R']
    | .under => ['U', 'N', 'D', 'E', 'R']
    | .normal => tOpt tInt r.w := rfl

theorem wtrFields_some {d : Device} {r : WeightRecord} (h : d.csu.newest = some r) : wtrFields d =
    [tNat r.index.toNat, r.wstate.text, weightField (some r), marksField (some r), if d.zsu.set then tSetWord else tUnset,
      if r.stable then tStable else tMotion] := by
  simp only [wtrFields, h]
  rfl

theorem moduleField_eq (m : Option ModuleLoad) : moduleField m = match m with
    | none => ['-']
    | some x => (x.load.map tHundredths).getD ['-', '-', '-', '-', '-'] := by
  obtain _ | ⟨_ | w, held, clamped⟩ := m <;> rfl

theorem wtrGFields_some {d : Device} {r : WeightRecord} (h : d.csu.newest = some r) : wtrGFields d =
    (r.g.map tHundredths).getD ['-', '-', '-', '-', '-'] :: r.modules.toList.map moduleField := by
  simp only [wtrGFields, h]
  cases r.g <;> rfl

theorem staFields_some {d : Device} {r : WeightRecord} (h : d.csu.newest = some r) : staFields d =
    [tNat r.index.toNat, r.wstate.text, weightField (some r), marksField (some r), if r.stable then tStable else tMotion,
      if d.zsu.set then tSetWord else tUnset, tOpt tHundredths d.zsu.z, tOpt tHundredths d.zsu.zInit,
      if d.zsu.trackLimit then tTrackLimit else ['-'], tOpt tHundredths d.zsu.b1, d.lsv.lane.text,
      tOpt tNat (d.lsv.current.map (·.number)), if d.mst.run.isSome then tCalibrating else d.mst.state.text, tOpt tagText d.exe.slot,
      (d.nvc.clock.map tTime).getD tUnset] := by
  have hp : tOpt (fun p : Passage => tNat p.number) d.lsv.current = tOpt tNat (d.lsv.current.map (·.number)) := by
    cases d.lsv.current <;> rfl
  simp only [staFields, h, hp]
  cases d.nvc.clock <;> rfl

theorem noFields_cons {t : Tag} {fs : List Text} (h : fs ≠ []) (go : Device → Device) (d : Device) :
    noFields t fs go d = refuse t .rng d := by
  obtain ⟨f, rest, rfl⟩ := List.exists_cons_of_ne_nil h
  rfl

/-- Settles O12: the fields of both replies, clause by clause of the newest record. -/
theorem weightReplies : Obligations.WeightReplies := by
  intro s hc
  refine ⟨fun r hr => ?_, fun hr => ?_, fun fs h1 h2 => ?_, fun fs h => ?_⟩
  · dsimp only
    refine ⟨act_command hc (.inl rfl) ?_, act_command hc (.inl rfl) ?_, act_command hc (.inl rfl) ?_⟩
    · rw [doWtr, if_pos rfl, wtrFields_some hr]
      rfl
    · rw [doWtr, if_neg (by simp), if_pos (show [['G']] = [tG] from rfl), wtrFields_some hr, wtrGFields_some hr]
      rw [show moduleField = _ from funext moduleField_eq]
      rfl
    · rw [doSta, noFields, staFields_some hr]
      rfl
  · refine act_command hc (.inl rfl) ?_
    rw [doWtr, if_pos rfl, wtrFields, hr]
    rfl
  · refine act_command hc (.inl rfl) ?_
    rw [doWtr, if_neg h1, if_neg (show fs ≠ [tG] from h2), refuse_eq]
  · refine act_command hc (.inl rfl) ?_
    rw [doSta, noFields_cons h, refuse_eq]

/-! ### CEL and PAS (R23, R81) -/

theorem readSlot_slotText (i : SlotId) : readSlot (slotText i) = some i := by
  obtain ⟨l, a⟩ := i
  cases l <;> cases a <;> decide

theorem slotText_ne_clr (i : SlotId) : slotText i ≠ tClr := by
  obtain ⟨l, a⟩ := i
  cases l <;> cases a <;> decide

theorem Quad.get_tab {α : Type} (f : Ix → α) (i : Ix) : (Quad.tab f).get i = f i := by cases i <;> rfl

theorem Slots.sel_tab {α : Type} (f : SlotId → α) (i : SlotId) : (Slots.tab f).sel i = f i := by
  simp only [Slots.tab, Slots.sel, Quad.get_tab]

theorem numbers_eq (l : List Nat) : tNumbers l = if l = [] then ['-'] else joinWith ',' (l.map tNat) := by
  cases l <;> rfl

theorem axleFields_eq (a : Axle) : axleFields a = [tNat a.number, tNat a.tA, tNat a.tB,
    (a.speed.map fun v => tInt (roundDiv (1000 * v.cm) v.ms)).getD ['U', 'N', 'K', 'N', 'O', 'W', 'N'],
    a.spacing.text, tOpt tNat a.tC, a.load.text] := by
  simp only [axleFields]
  cases a.speed <;> rfl

theorem intervalFields_eq (v : Interval) : intervalFields v =
    [tNat v.number, if v.axles = [] then ['-'] else joinWith ',' (v.axles.map tNat), tNat v.start, tOpt tNat v.stop,
      tOpt (fun i => tNat i.toNat) v.first, tOpt (fun i => tNat i.toNat) v.last, tNat v.count, tNat v.usable,
      v.usability.text, tOpt tHundredths v.mean] ++ v.outcome.text := by
  rw [intervalFields, numbers_eq]

theorem groupFields_eq (g : Group) : groupFields g =
    [tNat g.number, g.kind.text, if g.axles = [] then ['-'] else joinWith ',' (g.axles.map tNat), g.load.text, tNat g.limit,
      tOpt tInt g.excess, g.verdict.text] := by
  rw [groupFields, numbers_eq]

theorem passageFull_eq (p : Passage) : passageFull p = passageWhole p := by
  have intervals : intervalFields = _ := funext intervalFields_eq
  have groups : groupFields = _ := funext groupFields_eq
  simp only [passageFull, passageWhole, funext axleFields_eq, intervals, groups, List.append_assoc, List.cons_append, List.nil_append]
  rfl

/-- A reply waits whatever becomes of the cell lines. -/
theorem answered_clc (t : Tag) (fields : List Text) (c : Clc) (d : Device) :
    answered t fields { d with clc := c } = { answered t fields d with clc := c } := by
  unfold answered withReply
  dsimp only
  split <;> rfl

theorem answered_same_clc (t : Tag) (fields : List Text) (d : Device) : (answered t fields d).clc = d.clc := by
  unfold answered withReply
  split <;> rfl

theorem clearCounts_answer (fields : List Text) (d : Device) : clearCounts (answer .cel fields d) = answered .cel fields
    { d with clc := { d.clc with slots := Slots.tab fun i => { slotOf d i with nBad := 0, nSilent := 0, nLate := 0, nStale := 0 } } } := by
  rw [answered_clc, answer_eq]
  simp only [clearCounts, slotOf, answered_same_clc]

theorem tOpt_number (p : Option Passage) : tOpt (fun p => tNat p.number) p = tOpt tNat (p.map (·.number)) := by cases p <;> rfl

theorem readNumber_tNat {n : Nat} (h1 : 1 ≤ n) (h2 : n ≤ 65535) : readRange 1 65535 (tNat n) = some n :=
  readRange_tNat h1 h2 (by omega)

theorem doPas_single (d : Device) (nv : NvStore) (f : Text) : doPas [f] nv d =
    match readRange 1 65535 f with
    | some n => match (passagesHeld d).find? fun p => p.number == n with
      | some p => answered .pas (passageWhole p) d
      | none => refused .pas .rng d
    | none => refused .pas .rng d := by
  simp only [doPas, passageFull_eq, answer_eq, refuse_eq] <;> rfl

theorem doPas_many (d : Device) (nv : NvStore) {fs : List Text} (h : 1 < fs.length) : doPas fs nv d = refused .pas .rng d := by
  match fs, h with
  | _ :: _ :: _, _ => rfl

/-- Settles O13: slots and passages are shown field by field, and a passage is found by its number. -/
theorem cellAndPassageReplies : Obligations.CellAndPassageReplies := by
  refine ⟨fun s hc => ⟨?_, fun i => ?_, ?_⟩, fun s hc => ⟨?_, fun n h1 h2 => ⟨fun p hp => ?_, fun hp => ?_⟩, fun f hf => ?_,
    fun fs hf => ?_⟩⟩
  · exact act_command hc (.inl rfl) rfl
  · refine act_command hc (.inl rfl) ?_
    rw [doCel, if_neg (slotText_ne_clr i), readSlot_slotText]
    rfl
  · refine ⟨_, act_command hc (.inl rfl) ?_, fun i => Slots.sel_tab _ i⟩
    rw [doCel, if_pos rfl, clearCounts_answer]
    rfl
  · refine act_command hc (.inl rfl) ?_
    rw [doPas, tOpt_number]
    rfl
  · refine act_command hc (.inl rfl) ?_
    rw [doPas_single, readNumber_tNat h1 h2]
    simp only [passagesHeld, hp]
  · refine act_command hc (.inl rfl) ?_
    have hnone : (passagesHeld s.dev).find? (fun p => p.number == n) = none := by
      simpa [passagesHeld, or_imp, forall_and] using hp
    rw [doPas_single, readNumber_tNat h1 h2]
    simp only [hnone]
  · refine act_command hc (.inl rfl) ?_
    rw [doPas_single, hf]
  · exact act_command hc (.inl rfl) (doPas_many _ _ hf)

end Sys2Proof.Machine
end

section
/-! PROOF. Replies to reads of the tables, the journal, the metrology and the audit log. -/

namespace Sys2Proof.Machine

open Sys2Proof.Safety

/-! ### Sorted tables -/

section sorting

variable {α β : Type} [LinearOrder β]

theorem insertBy_perm (lt : α → α → Bool) (x : α) (l : List α) : (insertBy lt x l).Perm (x :: l) := by
  induction l with
  | nil => exact .refl _
  | cons y l ih =>
    rw [insertBy]
    split
    · exact .refl _
    · exact (ih.cons y).trans (.swap x y l)

theorem insertBy_pairwise {lt : α → α → Bool} {key : α → β} (hlt : ∀ a b, lt a b = true ↔ key a < key b) (x : α) {l : List α}
    (h : l.Pairwise fun a b => key a ≤ key b) : (insertBy lt x l).Pairwise fun a b => key a ≤ key b := by
  induction l with
  | nil => exact List.pairwise_singleton _ x
  | cons y l ih =>
    obtain ⟨hy, hl⟩ := List.pairwise_cons.1 h
    rw [insertBy]
    split
    next hxy =>
      have hle : key x ≤ key y := ((hlt x y).1 hxy).le
      refine List.pairwise_cons.2 ⟨fun a ha => ?_, h⟩
      obtain rfl | ha := List.mem_cons.1 ha
      · exact hle
      · exact hle.trans (hy a ha)
    next hxy =>
      have hle : key y ≤ key x := not_lt.1 fun hlt' => hxy ((hlt x y).2 hlt')
      refine List.pairwise_cons.2 ⟨fun a ha => ?_, ih hl⟩
      obtain rfl | ha := List.mem_cons.1 ((insertBy_perm lt x l).mem_iff.1 ha)
      · exact hle
      · exact hy a ha

theorem sortBy_perm_pairwise {lt : α → α → Bool} {key : α → β} (hlt : ∀ a b, lt a b = true ↔ key a < key b) (l : List α) :
    (sortBy lt l).Perm l ∧ (sortBy lt l).Pairwise fun a b => key a ≤ key b := by
  have fold : ∀ (l acc : List α), (acc.Pairwise fun a b => key a ≤ key b) →
      (l.foldl (fun acc x => insertBy lt x acc) acc).Perm (acc ++ l) ∧
      (l.foldl (fun acc x => insertBy lt x acc) acc).Pairwise fun a b => key a ≤ key b := by
    intro l
    induction l with
    | nil => exact fun acc h => ⟨by simp, h⟩
    | cons x l ih =>
      intro acc h
      obtain ⟨hperm, hsorted⟩ := ih (insertBy lt x acc) (insertBy_pairwise hlt x h)
      exact ⟨hperm.trans (((insertBy_perm lt x acc).append_right l).trans List.perm_middle.symm), hsorted⟩
  exact fold l [] List.Pairwise.nil

/-- A list whose keys strictly rise is what sorting makes of any arrangement of it. -/
theorem sortBy_eq {lt : α → α → Bool} {key : α → β} (hlt : ∀ a b, lt a b = true ↔ key a < key b) {l sorted : List α}
    (hp : sorted.Perm l) (hs : sorted.Pairwise fun a b => key a < key b) : sortBy lt l = sorted := by
  obtain ⟨hperm, hsorted⟩ := sortBy_perm_pairwise hlt l
  have hnodup : (sorted.map key).Nodup := (List.pairwise_map.2 hs).imp fun h => h.ne
  have hback : (sortBy lt l).Perm sorted := hperm.trans hp.symm
  exact List.Perm.eq_of_pairwise (fun a b ha hb hab hba =>
    List.inj_on_of_nodup_map hnodup (hback.mem_iff.1 ha) hb (le_antisymm hab hba)) hsorted (hs.imp fun h => h.le) hback

end sorting

theorem refLt_iff (a b : Text) : refLt a b = true ↔ a.map Char.toNat < b.map Char.toNat := by
  induction a, b using refLt.induct with
  | case1 => simp [refLt]
  | case2 => simp [refLt]
  | case3 => simp [refLt]
  | case4 a l b m h => simp only [refLt, h, if_true, List.map_cons, List.cons_lt_cons_iff, true_or]
  | case5 a l b m h h' => simp [refLt, h, h', List.cons_lt_cons_iff, Nat.ne_of_gt h']
  | case6 a l b m h h' ih =>
    have heq : a.toNat = b.toNat := Nat.le_antisymm (Nat.le_of_not_lt h') (Nat.le_of_not_lt h)
    simp only [refLt, heq, Nat.lt_irrefl, if_false, List.map_cons, List.cons_lt_cons_iff, false_or, true_and, ih]

theorem map_take_drop {α β : Type} (f : α → β) (n : Nat) (l : List α) : ((l.drop n).take 1).map f = l[n]?.toList.map f := by
  by_cases h : n < l.length
  · rw [List.drop_eq_getElem_cons h, List.getElem?_eq_getElem h]
    rfl
  · simp [List.drop_eq_nil_of_le (Nat.le_of_not_lt h), Nat.le_of_not_lt h]

/-! ### VIS (R119, R122, R123) -/

/-- The whole hours of an age, as =VIS gives them. -/
theorem hoursField_eq (a : Option Int) : tOpt (fun a => tInt (Int.tdiv a 3600)) a = match a with
    | some a => tInt (a.tdiv 3600)
    | none => ['-'] := by
  cases a <;> rfl

theorem visitStale_getD (d : Device) (v : VisitRec) : (visitStale d v).getD false = match visitAge d v with
    | some a => decide (3600 * (d.nvc.settings.stale : Int) < a)
    | none => false := by
  unfold visitStale
  cases visitAge d v with
  | none => rfl
  | some a => simp [mul_comm]

theorem summaryOfPassage_eq (d : Device) (n : Nat) : summaryOfPassage d n =
    match d.lsv.history.find? (fun p => p.number = n) with
    | some p => some ⟨p.groups.map fun g => ⟨g.kind, g.load, g.limit, g.excess⟩, p.result.getD .absent, p.flags⟩
    | none => (d.txu.copies.find? fun c => c.1 = n).map (·.2) := rfl

/-- The attachment state and the summary a visit gives. -/
def visitGiven (d : Device) (v : VisitRec) : Text × Option Summary := (attachmentText (attachmentOf d v), visitSummary d v)

theorem visitGiven_eq (d : Device) (v : VisitRec) : visitGiven d v =
    match v.summary with
    | some x => (['A', 'T', 'T', 'A', 'C', 'H', 'E', 'D'], some x)
    | none =>
      if (∃ e ∈ d.txu.awaiting, e.visit = v.number) then (['A', 'W', 'A', 'I', 'T', 'I', 'N', 'G'], none)
      else match d.txu.owed.find? (fun e => e.visit = v.number), attachmentInWrite d v.number with
        | some e, _ => (['O', 'W', 'E', 'D'], summaryOfPassage d e.passage)
        | none, some x => (['O', 'W', 'E', 'D'], some x)
        | none, none => (['N', 'O', 'N', 'E'], none) := by
  have hany : d.txu.owed.any (fun e => e.visit == v.number) = (d.txu.owed.find? fun e => e.visit == v.number).isSome := by
    rw [Bool.eq_iff_iff, List.find?_isSome, List.any_eq_true]
  unfold visitGiven visitSummary attachmentOf
  cases hs : v.summary with
  | some x => simp [attachmentText]
  | none =>
    by_cases ha : ∃ e ∈ d.txu.awaiting, e.visit = v.number
    · have : d.txu.awaiting.any (fun e => e.visit == v.number) = true := by simpa using ha
      simp [this, ha, attachmentText]
    · have : d.txu.awaiting.any (fun e => e.visit == v.number) = false := by simpa using ha
      rw [if_neg ha, hany, this]
      show _ = match d.txu.owed.find? (fun e => e.visit == v.number), attachmentInWrite d v.number with
        | some e, _ => _
        | none, some x => _
        | none, none => _
      cases d.txu.owed.find? fun e => e.visit == v.number with
      | some e => rfl
      | none => cases attachmentInWrite d v.number <;> rfl

theorem visitList_eq {d : Device} {vs : List VisitRec} (hp : vs.Perm (d.txu.visits.map (·.2)))
    (hs : vs.Pairwise fun a b => a.number < b.number) (n : Nat) : visitList d n =
    [tNat vs.length, if d.nvc.clock = none then ['-'] else tNat (vs.countP fun v => (visitStale d v).getD false)] ++
      (((vs.filter fun v => n ≤ v.number).take 8).flatMap fun v =>
        [tNat v.number, v.ref, if (visitStale d v).getD false then tStale else ['-']]) ++
      (vs.filter fun v => n ≤ v.number)[8]?.toList.map fun v => tNat v.number := by
  have hsort : visitsByNumber d = vs := sortBy_eq (key := (·.number)) (fun a b => by simp) hp hs
  have hcount : ((visitsOf d).filter fun v => visitStale d v == some true).length =
      vs.countP fun v => (visitStale d v).getD false := by
    rw [hp.countP_eq, List.countP_eq_length_filter]
    refine congrArg (fun p => ((visitsOf d).filter p).length) (funext fun v => ?_)
    obtain _ | _ | _ := visitStale d v <;> rfl
  have hlength : (visitsOf d).length = vs.length := hp.length_eq.symm
  simp only [visitList, hsort, hcount, hlength, map_take_drop]
  cases d.nvc.clock <;> rfl

theorem visitFull_eq (d : Device) (v : VisitRec) : visitFull d v =
    [tNat v.number, v.ref, v.dir.text, tOpt tTime v.opened, v.first.text, (visitGiven d v).1] ++
      (match (visitGiven d v).2 with
        | some x => tNat x.groups.length :: x.groups.map (fun g =>
            joinWith '/' [g.kind.text, g.load.text, tNat g.limit, tOpt tInt g.excess]) ++ [x.result.text, x.flags.text]
        | none => [['0'], ['-'], ['-']]) ++
      [(match visitAge d v with
        | some a => tInt (a.tdiv 3600)
        | none => ['-']), if (visitStale d v).getD false then tStale else ['-']] := by
  rw [visitFull, hoursField_eq, visitGiven]
  cases visitSummary d v <;> rfl

/-! ### TRL (R124, R128) -/

theorem tareExpiry_eq (t : TareEntry) : tareExpiry t = t.stored.getD 0 + 86400 * t.days := by
  rw [tareExpiry, mul_comm]
  rfl

theorem tareExpired_getD (d : Device) (t : TareEntry) : (tareExpired d t).getD false = match d.nvc.clock with
    | some c => decide (t.stored.getD 0 + 86400 * t.days ≤ c)
    | none => false := by
  rw [tareExpired, tareExpiry_eq]
  cases d.nvc.clock <;> rfl

theorem tareList_eq {d : Device} {ts : List TareEntry} (hp : ts.Perm (d.txu.tares.map (·.2)))
    (hs : ts.Pairwise fun a b => refLt a.ref b.ref = true) (r : Text) : tareList d r =
    [tNat ts.length, if d.nvc.clock = none then ['-'] else tNat (ts.countP fun t => (tareExpired d t).getD false)] ++
      (((ts.filter fun t => !refLt t.ref r).take 8).flatMap fun t =>
        [t.ref, tInt t.tare, t.source.word, if (tareExpired d t).getD false then tExpired else ['-']]) ++
      (ts.filter fun t => !refLt t.ref r)[8]?.toList.map fun t => t.ref := by
  have hsort : taresByRef d = ts :=
    sortBy_eq (key := fun t : TareEntry => t.ref.map Char.toNat) (fun a b => refLt_iff a.ref b.ref) hp
      (hs.imp fun h => (refLt_iff _ _).1 h)
  have hcount : ((taresOf d).filter fun t => tareExpired d t == some true).length =
      ts.countP fun t => (tareExpired d t).getD false := by
    rw [hp.countP_eq, List.countP_eq_length_filter]
    refine congrArg (fun p => ((taresOf d).filter p).length) (funext fun t => ?_)
    obtain _ | _ | _ := tareExpired d t <;> rfl
  have hlength : (taresOf d).length = ts.length := hp.length_eq.symm
  simp only [tareList, hsort, hcount, hlength, map_take_drop]
  cases d.nvc.clock <;> rfl

/-! ### JST and MST (R145, R184) -/

theorem jstFields_eq (nv : NvStore) (d : Device) : jstFields nv d = journalShown nv d := by
  unfold jstFields journalShown nextRecordNumber
  cases d.exe.stage <;> rfl

theorem stepField_eq (d : Device) : tOpt tagText (runStep d) = match d.exe.slot with
    | some .cze => if d.exe.stage = .ended then ['-'] else ['C', 'Z', 'E']
    | some .csp => if d.exe.stage = .ended then ['-'] else ['C', 'S', 'P']
    | some .ccm => if d.exe.stage = .ended then ['-'] else ['C', 'C', 'M']
    | _ => ['-'] := by
  unfold runStep
  obtain _ | t := d.exe.slot
  · cases d.exe.stage <;> rfl
  · cases t <;> cases d.exe.stage <;> rfl

theorem discardOwed_iff (d : Device) : discardOwed d = true ↔ HeldReq.discard ∈ d.mst.held := by
  simp only [discardOwed, List.any_eq_true]
  constructor
  · rintro ⟨h, hm, hd⟩
    cases h with
    | discard => exact hm
    | status => cases hd
  · exact fun h => ⟨_, h, rfl⟩

theorem daysField_eq (d : Device) : tOpt tInt (daysLeft d) = match d.mst.due, d.nvc.clock with
    | some due, some t => tInt ((due : Int) - (t / 86400 : Nat))
    | _, _ => ['-'] := by
  unfold daysLeft
  cases d.mst.due <;> cases d.nvc.clock <;> rfl

theorem mstFields_eq (d : Device) : mstFields d = metrologyShown d := by
  have owed : tFlag (discardOwed d) tOwed = if HeldReq.discard ∈ d.mst.held then tOwed else ['-'] := by
    simp only [tFlag, discardOwed_iff]
    rfl
  have count : (d.mst.verif.map (·.length)).getD 0 = match d.mst.verif with
      | some points => points.length
      | none => 0 := by
    cases d.mst.verif <;> rfl
  have point : tFlag (pointInFlight d) (tagText .vpt) = match d.exe.stage with
      | .capWait (.vpt _) _ => ['V', 'P', 'T']
      | _ => ['-'] := by
    unfold pointInFlight
    cases d.exe.stage with
    | capWait c _ => cases c <;> rfl
    | _ => rfl
  have last : tFlag d.auu.next.isNone tExhausted = if d.auu.next = none then tExhausted else ['-'] := by
    cases d.auu.next <;> rfl
  simp only [mstFields, metrologyShown, stepField_eq, daysField_eq, owed, count, point, last]
  rfl

/-! ### AUD (R183, R186, R188) -/

theorem auditFails_eq (nv : NvStore) (n : Nat) : nv.auditFails n = readFails nv n := by
  have hnone : (nv.auditRec n).isNone = nv.audits.all fun r => r.number != n := by
    rw [Bool.eq_iff_iff, Option.isNone_iff_eq_none, NvStore.auditRec, List.find?_eq_none]
    simp
  unfold NvStore.auditFails readFails NvStore.auditPlace
  rw [hnone]
  cases nv.auditNewest with
  | none => rfl
  | some hi =>
    dsimp only [Option.bind_some]
    cases slotOfAudit nv.audit hi <;> rfl

theorem auditEntry_fields (nv : NvStore) (n : Nat) : auditFields (auditEntry nv n) =
    match nv.audits.find? fun r => r.number == n with
    | some r => [tNat r.number, r.body.kindText, tOpt tTime r.time, tOpt tNat r.counter] ++ r.body.fields
    | none => [tNat n, AuditBody.kindText .torn, ['-'], ['-']] := by
  unfold auditEntry NvStore.auditRec
  cases nv.audits.find? fun r => r.number == n <;> rfl

/-- A reply waits whatever becomes of the error report. -/
theorem answered_nvc (t : Tag) (fields : List Text) (n : Nvc) (d : Device) :
    answered t fields { d with nvc := n } = { answered t fields d with nvc := n } := by
  unfold answered withReply
  dsimp only
  split <;> rfl

theorem answered_same_nvc (t : Tag) (fields : List Text) (d : Device) : (answered t fields d).nvc = d.nvc := by
  unfold answered withReply
  split <;> rfl

theorem answerRead_eq (nv : NvStore) (page : List Nat) (next : Option Nat) (d : Device) : answerRead nv ⟨page, next⟩ d =
    answered .aud (auditShown nv page next) { d with nvc := { d.nvc with report :=
      { d.nvc.report with readFail := min (d.nvc.report.readFail + page.countP (readFails nv)) 65535 } } } := by
  have entries : (fun n => auditFields (auditEntry nv n)) = _ := funext (auditEntry_fields nv)
  have fails : nv.auditFails = readFails nv := funext (auditFails_eq nv)
  rw [answered_nvc, answerRead, answer_eq, entries, fails, List.countP_eq_length_filter, countReadFailures, answered_same_nvc]
  rfl

/-- The first 16 numbers of a range, and the one after them. -/
theorem numbersFrom_page {a hi : Nat} (h : a ≤ hi) : (numbersFrom a hi).take 16 = List.range' a (min 16 (hi + 1 - a)) ∧
    (numbersFrom a hi)[16]? = if a + 16 ≤ hi then some (a + 16) else none := by
  rw [numbersFrom, ← List.range'_eq_map_range]
  refine ⟨?_, ?_⟩
  · refine List.ext_getElem? fun i => ?_
    rw [List.getElem?_take]
    by_cases hi1 : i < 16 <;> by_cases hi2 : i < hi + 1 - a <;> simp [hi1, hi2]
  · split
    next h16 => rw [List.getElem?_range' (by omega)]
    next h16 => simp; omega

theorem pageBusy_iff (nv : NvStore) (page : List Nat) (d : Device) : pageBusy nv page d = true ↔
    ∃ src slot r, d.nvc.writing = some ⟨src, .audit slot r⟩ ∧ ∃ n ∈ page, slotOfAudit nv.audit n = some slot := by
  obtain ⟨_, hw⟩ | hw : (∃ w, d.nvc.writing = some w) ∨ d.nvc.writing = none := by
    cases d.nvc.writing <;> simp
  · rename_i w
    obtain ⟨src, w⟩ := w
    cases w with
    | audit slot r => simp [pageBusy, hw]
    | _ => simp [pageBusy, hw]
  · simp [pageBusy, hw]

/-- A range read of a log that holds records from lo to hi. -/
theorem audRange_eq {nv : NvStore} {d : Device} {lo hi : Nat} (hlo : nv.auditOldest = some lo) (hhi : nv.auditNewest = some hi)
    {a b : Nat} (hab : a ≤ b) :
    (a < lo ∨ hi < a → audRange nv a b d = refused .aud .rng d) ∧
    (lo ≤ a → a ≤ hi →
      let page := List.range' a (min 16 (min b hi + 1 - a))
      let next : Option Nat := if a + 16 ≤ min b hi then some (a + 16) else none
      (pageBusy nv page d = false → audRange nv a b d = answerRead nv ⟨page, next⟩ d) ∧
      (pageBusy nv page d = true →
        audRange nv a b d = { d with tx := { d.tx with held := d.tx.held ++ [.read ⟨page, next⟩] } })) := by
  refine ⟨fun h => ?_, fun h1 h2 => ?_⟩
  · rw [audRange, hlo, hhi]
    exact if_pos h
  · obtain ⟨hpage, hnext⟩ := numbersFrom_page (le_min hab h2)
    have hin : ¬(a < lo ∨ a > hi) := by omega
    simp only [audRange, hlo, hhi, if_neg hin, Config.audPage, hpage, hnext]
    exact ⟨fun h => by rw [h]; rfl, fun h => by rw [h]; rfl⟩

theorem audRange_empty {nv : NvStore} (h : nv.audits = []) (a b : Nat) (d : Device) : audRange nv a b d = refused .aud .rng d := by
  have : nv.auditOldest = none := by rw [NvStore.auditOldest, h]; rfl
  rw [audRange, this]
  rfl

theorem doAud_pair {nv : NvStore} {a b : Nat} (h1 : 1 ≤ a) (hab : a ≤ b) (hb : b ≤ 9999999) (d : Device) :
    doAud [tNat a, tNat b] nv d = audRange nv a b d := by
  simp only [doAud, Config.ticketCap, readRange_tNat h1 (hab.trans hb) (by omega), readRange_tNat (h1.trans hab) hb (by omega)]
  exact if_neg (by omega)

theorem doAud_single {nv : NvStore} {a : Nat} (h1 : 1 ≤ a) (ha : a ≤ 9999999) (d : Device) :
    doAud [tNat a] nv d = audRange nv a 9999999 d := by
  simp only [doAud, Config.ticketCap, readRange_tNat h1 ha (by omega)]

/-! ### The replies -/

theorem visReplies {s : State} (hc : TakesCommands s.dev) {fs : List Text} {d : Device} (h : doVis fs s.nv s.dev = d) :
    exec (.vis fs) s = .next (becomes s d) := act_command hc (.inl rfl) h

theorem trlReplies {s : State} (hc : TakesCommands s.dev) {fs : List Text} {d : Device} (h : doTrl fs s.nv s.dev = d) :
    exec (.trl fs) s = .next (becomes s d) := act_command hc (.inl rfl) h

theorem audReplies {s : State} (hc : TakesCommands s.dev) {fs : List Text} {d : Device} (h : doAud fs s.nv s.dev = d) :
    exec (.aud fs) s = .next (becomes s d) := act_command hc (.inl rfl) h

theorem doVis_list (nv : NvStore) (d : Device) {n : Nat} (h1 : 1 ≤ n) (h2 : n ≤ 65535) :
    doVis [tList, tNat n] nv d = answered .vis (visitList d n) d := by
  simp only [doVis, if_true, readNumber_tNat h1 h2, answer_eq]

theorem doVis_number (nv : NvStore) (d : Device) {n : Nat} (h1 : 1 ≤ n) (h2 : n ≤ 65535) :
    (∀ slot v, findVisit d n = some (slot, v) → doVis [tNum, tNat n] nv d = answered .vis (visitFull d v) d) ∧
    (findVisit d n = none → doVis [tNum, tNat n] nv d = refused .vis .vnf d) := by
  have hne : tNum ≠ tList := by decide
  refine ⟨fun slot v h => ?_, fun h => ?_⟩ <;>
    simp only [doVis, if_neg hne, if_true, readNumber_tNat h1 h2, h, answer_eq, refuse_eq]

theorem doVis_reference (nv : NvStore) (d : Device) {r : Text} (hr : readRef r = some r) :
    (∀ slot v, findVisitRef d r = some (slot, v) → doVis [tRef, r] nv d = answered .vis (visitFull d v) d) ∧
    (findVisitRef d r = none → doVis [tRef, r] nv d = refused .vis .vnf d) := by
  have hlist : tRef ≠ tList := by decide
  have hnum : tRef ≠ tNum := by decide
  refine ⟨fun slot v h => ?_, fun h => ?_⟩ <;>
    simp only [doVis, if_neg hlist, if_neg hnum, if_true, hr, h, answer_eq, refuse_eq]

theorem doVis_bad (nv : NvStore) (d : Device) {key f : Text}
    (h : (key ≠ tList ∧ key ≠ tNum ∧ key ≠ tRef) ∨ (key ≠ tRef ∧ readRange 1 65535 f = none) ∨ (key = tRef ∧ readRef f = none)) :
    doVis [key, f] nv d = refused .vis .rng d := by
  have hlist : tRef ≠ tList := by decide
  have hnum : tRef ≠ tNum := by decide
  obtain ⟨h1, h2, h3⟩ | ⟨h1, h2⟩ | ⟨rfl, h2⟩ := h
  · simp only [doVis, if_neg h1, if_neg h2, if_neg h3, refuse_eq]
  · simp only [doVis, if_neg h1, h2, refuse_eq, ite_self]
  · simp only [doVis, if_neg hlist, if_neg hnum, if_true, h2, refuse_eq]

theorem doTrl_entry (nv : NvStore) (d : Device) {r : Text} (hr : readRef r = some r) :
    doTrl [tList, r] nv d = answered .trl (tareList d r) d ∧
    (∀ slot t, findTare d r = some (slot, t) → doTrl [tRef, r] nv d = answered .trl (tareFull d t) d) ∧
    (findTare d r = none → doTrl [tRef, r] nv d = refused .trl .tnf d) := by
  have hlist : tRef ≠ tList := by decide
  refine ⟨?_, fun slot v h => ?_, fun h => ?_⟩
  · simp only [doTrl, hr, if_true, answer_eq]
  · simp only [doTrl, hr, if_neg hlist, if_true, h, answer_eq]
  · simp only [doTrl, hr, if_neg hlist, if_true, h, refuse_eq]

theorem doTrl_bad (nv : NvStore) (d : Device) {key f : Text} (h : (key ≠ tList ∧ key ≠ tRef) ∨ readRef f = none) :
    doTrl [key, f] nv d = refused .trl .rng d := by
  obtain ⟨h1, h2⟩ | h := h
  · simp only [doTrl, if_neg h1, if_neg h2, refuse_eq]
    split <;> rfl
  · simp only [doTrl, h, refuse_eq]

/-- Settles O14: each table is sorted into its list, and each reply is its fields one by one. -/
theorem recordReplies : Obligations.RecordReplies := by
  refine ⟨fun s hc => ?_, fun s hc => ?_, fun s hc => ⟨?_, ?_, fun fs h => ⟨?_, ?_⟩⟩, fun s hc => ⟨?_, ?_, ?_, fun f h => ?_, fun fs h => ?_⟩⟩
  · intro age stale full
    have hfull (v : VisitRec) : visitFull s.dev v = full v := by
      rw [visitFull_eq, visitStale_getD, visitGiven_eq]
      rfl
    refine ⟨fun vs hp hs => ?_, fun n h1 h2 => ?_, fun r hr => ?_, fun key f h => ?_, fun fs h0 h2 => ?_⟩
    · intro list
      have hlist (n : Nat) : visitList s.dev n = list n := by
        rw [visitList_eq hp hs]
        simp only [visitStale_getD]
        rfl
      exact ⟨visReplies hc (by rw [doVis, hlist, answer_eq]), fun n h1 h2 => visReplies hc (by rw [doVis_list _ _ h1 h2, hlist])⟩
    · obtain ⟨hsome, hnone⟩ := doVis_number s.nv s.dev h1 h2
      exact ⟨fun slot v hv => visReplies hc (by rw [hsome slot v hv, hfull]), fun hv => visReplies hc (hnone hv)⟩
    · obtain ⟨hsome, hnone⟩ := doVis_reference s.nv s.dev hr
      exact ⟨fun slot v hv => visReplies hc (by rw [hsome slot v hv, hfull]), fun hv => visReplies hc (hnone hv)⟩
    · exact visReplies hc (doVis_bad s.nv s.dev h)
    · match fs, h0, h2 with
      | [_], _, _ => exact visReplies hc rfl
      | _ :: _ :: _ :: _, _, _ => exact visReplies hc rfl
  · intro expiry expired source
    have hfull (t : TareEntry) : tareFull s.dev t = [t.ref, tInt t.tare, source t, tNat t.d, tOpt tNat t.counter,
        tOpt tTime t.wtime, tOpt tTime t.stored, tNat t.days, tTime (expiry t), if expired t then tExpired else ['-']] := by
      rw [tareFull, expiredField, tareExpired_getD, tareExpiry_eq]
      rfl
    refine ⟨fun ts hp hs => ?_, fun r hr => ?_, fun key f h => ?_, fun fs h0 h2 => ?_⟩
    · intro list
      have hlist (r : Text) : tareList s.dev r = list r := by
        rw [tareList_eq hp hs]
        simp only [tareExpired_getD]
        rfl
      refine ⟨trlReplies hc (by rw [doTrl, hlist, answer_eq]), fun r hr => trlReplies hc ?_⟩
      rw [(doTrl_entry s.nv s.dev hr).1, hlist]
    · obtain ⟨-, hsome, hnone⟩ := doTrl_entry s.nv s.dev hr
      exact ⟨fun slot t ht => trlReplies hc (by rw [hsome slot t ht, hfull]), fun ht => trlReplies hc (hnone ht)⟩
    · exact trlReplies hc (doTrl_bad s.nv s.dev h)
    · match fs, h0, h2 with
      | [_], _, _ => exact trlReplies hc rfl
      | _ :: _ :: _ :: _, _, _ => exact trlReplies hc rfl
  · exact act_command hc (.inl rfl) (by rw [doJst, noFields, jstFields_eq, answer_eq])
  · exact act_command hc (.inl rfl) (by rw [doMst, noFields, mstFields_eq, answer_eq])
  · exact act_command hc (.inl rfl) (by rw [doJst, noFields_cons h, refuse_eq])
  · exact act_command hc (.inl rfl) (by rw [doMst, noFields_cons h, refuse_eq])
  · exact audReplies hc (by rw [doAud, answer_eq]; cases s.dev.auu.next <;> rfl)
  · intro a b h1 hab hb asked
    have hasked {d : Device} (hd : audRange s.nv a b s.dev = d) : asked d := by
      refine ⟨audReplies hc (by rw [doAud_pair h1 hab hb, hd]), fun hcap => audReplies hc ?_⟩
      rw [doAud_single h1 (hab.trans hb), ← hcap, hd]
    refine ⟨fun h => hasked (audRange_empty h a b s.dev), fun lo hi hlo hhi => ?_⟩
    obtain ⟨hout, hin⟩ := audRange_eq (d := s.dev) hlo hhi hab
    refine ⟨fun h => hasked (hout h), fun h h' => ?_⟩
    obtain ⟨hfree, hbusy⟩ := hin h h'
    refine ⟨fun hm => hasked ?_, fun hm => hasked (hbusy ((pageBusy_iff _ _ _).2 hm))⟩
    rw [hfree (Bool.eq_false_iff.2 fun hb => hm ((pageBusy_iff _ _ _).1 hb)), answerRead_eq]
  · intro f g h
    refine audReplies hc ?_
    obtain h | h | ⟨a, b, ha, hb, hlt⟩ := h
    · simp only [doAud, Config.ticketCap, h, refuse_eq]
    · simp only [doAud, Config.ticketCap, h, refuse_eq]
      split <;> trivial
    · simp only [doAud, Config.ticketCap, ha, hb, if_pos hlt, refuse_eq]
  · exact audReplies hc (by simp only [doAud, Config.ticketCap, h, refuse_eq])
  · match fs, h with
    | _ :: _ :: _ :: _, _ => exact audReplies hc rfl

end Sys2Proof.Machine
end

section
/-! PROOF. What replies, notices and write requests change, as functions of the part they change; settings, clock, lights, notices, abort,
and the opening and discard of runs. -/

namespace Sys2Proof.Machine

open Sys2Proof.Safety

/-! ### Replies, notices and requests change one part each -/

/-- The transmitter with one more reply waiting. -/
def replyTx (r : Text) (x : Tx) : Tx :=
  if x.held = [] then { x with replies := x.replies ++ [r] } else { x with held := x.held ++ [.formed r] }

theorem answered_tx (t : Tag) (fields : List Text) (d : Device) :
    answered t fields d = { d with tx := replyTx (recordOf '=' (tagText t) fields) d.tx } := by
  unfold answered withReply replyTx
  split <;> rfl

theorem refused_tx (t : Tag) (c : Code) (d : Device) :
    refused t c d = { d with tx := replyTx (recordOf '#' (tagText t) [c.text]) d.tx } := by
  unfold refused withReply replyTx
  split <;> rfl

/-- The notice marks with a class pending, when enabled. -/
def noticedNtc (c : Notice) (n : Ntc) : Ntc := if n.enabled.get c then { n with pending := n.pending.put c true } else n

theorem noticed_ntc (c : Notice) (d : Device) : noticed c d = { d with ntc := noticedNtc c d.ntc } := by
  unfold noticed noticedNtc
  split <;> rfl

/-- The NVC with a request made. -/
def requestedNvc (r : WriteReq) (n : Nvc) : Nvc :=
  if n.serving = true ∧ n.writing.toList ++ n.queue = [] then
    { n with writing := some r, report := { n.report with high := max n.report.high 1 } }
  else
    { n with queue := n.queue ++ [r], report := { n.report with high := max n.report.high ((n.writing.toList ++ n.queue).length + 1) } }

theorem requested_nvc (r : WriteReq) (d : Device) : requested r d = { d with nvc := requestedNvc r d.nvc } := by
  unfold requested requestedNvc outstanding takenNow queued
  split <;> rfl

/-! ### GET and GET NVC (R188, R191) -/

theorem readSettingItem_text (i : SettingItem) : readSettingItem i.text = some i := by cases i <;> decide

theorem readSettingItem_none {f : Text} (h : ∀ i : SettingItem, f ≠ i.text) : readSettingItem f = none := by
  simp only [readSettingItem, List.find?_eq_none, beq_iff_eq]
  exact fun i _ hi => h i hi.symm

theorem doGet_bad (nv : NvStore) (d : Device) {fs : List Text} (h0 : fs ≠ []) (h : ∀ i : SettingItem, fs ≠ [i.text]) :
    doGet fs nv d = refused .get .rng d := by
  match fs, h0 with
  | [f], _ =>
    have : readSettingItem f = none := readSettingItem_none fun i hi => h i (by rw [hi])
    simp only [doGet, this, refuse_eq]
  | _ :: _ :: _, _ => rfl

theorem nvcFields_eq (d : Device) : nvcFields d = [tNat d.nvc.report.passed, tNat d.nvc.report.nvf, tNat d.nvc.report.readFail,
    tNat d.nvc.report.scanFail, tNat d.nvc.report.blank, tNat d.nvc.report.high, tNat d.nvc.queue.length,
    tOpt (fun w => Share.text w.source.share) d.nvc.writing, if d.nvc.settingsFailed then tFail else ['-']] := rfl

/-! ### CLK (R177, R192) -/

/-- A status write is requested while its share is free. -/
theorem requestStatus_eq {nv : NvStore} {rec : StatusRec} {forLong : Bool} {d : Device} (hb : statusBusy d = false) (hq : QueueServed d) :
    requestStatus nv rec forLong d = requested ⟨.status forLong, statusWrite nv rec⟩ d := by
  rw [requestStatus, if_neg (by rw [hb]; decide), request_eq _ hq]

theorem checkOverdue_same {nv : NvStore} {d : Device} {t : Nat} (hc : d.nvc.clock = some t)
    (h : d.mst.state ≠ .calibrated ∨ ∀ due, d.mst.due = some due → t / 86400 ≤ due) : checkOverdue nv d = d := by
  unfold checkOverdue
  split
  next due x hs hd ht =>
    obtain h | h := h
    · exact absurd hs h
    · obtain rfl : t = x := Option.some.inj (hc.symm.trans ht)
      exact if_neg (Nat.not_lt.2 (h due hd))
  next => rfl

/-- A CALIBRATED part whose due date has passed becomes SUSPECT. -/
theorem checkOverdue_overdue {nv : NvStore} {d : Device} {t due : Nat} (hc : d.nvc.clock = some t) (hs : d.mst.state = .calibrated)
    (hd : d.mst.due = some due) (h : due < t / 86400) (hq : QueueServed d) (hb : statusBusy d = false) : checkOverdue nv d =
    requested ⟨.status false, statusWrite nv ⟨.suspect, some due, d.mst.counter⟩⟩
      (noticed .met { d with mst := { d.mst with state := .suspect } }) := by
  have hlt : dayOf t > due := h
  have hsuspect : checkOverdue nv d = requestStatus nv (liveStatus (noticed .met { d with mst := { d.mst with state := .suspect } })) false
      (noticed .met { d with mst := { d.mst with state := .suspect } }) := by
    simp only [checkOverdue, hs, hd, hc, if_pos hlt, raise_eq]
  rw [hsuspect, noticed_ntc, requestStatus_eq (by exact hb) (by exact hq)]
  simp only [liveStatus, hd]

/-- Settles O15: the settings and the report field by field, and the clock with the comparison of the due date. -/
theorem settingsAndClockCommands : Obligations.SettingsAndClockCommands := by
  refine ⟨fun s hc => ⟨act_command hc (.inl rfl) rfl, fun i => act_command hc (.inl rfl) ?_, fun fs h0 h => ?_, ?_, fun fs h0 h => ?_⟩,
    fun s hc => ⟨act_command hc (.inl rfl) ?_, fun f hf => act_command hc (.inl rfl) ?_, fun f t hf => ⟨fun h => ?_, ?_⟩⟩⟩
  · simp only [doGet, readSettingItem_text, answer_eq]
  · exact act_command hc (.inl rfl) (doGet_bad _ _ h0 h)
  · refine ⟨act_command hc (.inl rfl) rfl, act_command hc (.inl rfl) ?_⟩
    rw [doGetNvc, if_neg (by simp), if_pos rfl, answer_eq, clearReport, answered_tx, answered_tx]
    rfl
  · refine act_command hc (.inl rfl) ?_
    rw [doGetNvc, if_neg h0, if_neg h, refuse_eq]
  · simp only [doClk, clockField, answer_eq]
    cases s.dev.nvc.clock <;> rfl
  · simp only [doClk, hf, refuse_eq]
  · refine act_command hc (.inl rfl) ?_
    simp only [doClk, hf, setClock, answer_eq, answered_tx]
    exact checkOverdue_same rfl h
  · intro due hs hd hlt hq hb
    refine act_command hc (.inl rfl) ?_
    simp only [doClk, hf, setClock, answer_eq, answered_tx]
    exact checkOverdue_overdue rfl hs hd hlt hq hb

/-! ### LIT (R83) -/

theorem answerLights_eq {d : Device} (h : running d = true) : answerLights d = answered .lit
    [d.lsv.modeIn.text, if lightOut d.lsv.modeIn (entryAuto d) then tGreen else tRed,
      d.lsv.modeOut.text, if lightOut d.lsv.modeOut (exitAuto d) then tGreen else tRed] d := by
  rw [answerLights, answer_eq, refreshLights, if_pos h]
  rfl

theorem readMode_word {m : LightMode} {word : Text} (h : (m, word) ∈ [(LightMode.auto, tAuto), (.forceRed, tRed), (.forceGreen, tGreen)]) :
    readMode word = some m := by
  simp only [List.mem_cons, List.not_mem_nil, or_false, Prod.mk.injEq] at h
  obtain ⟨rfl, rfl⟩ | ⟨rfl, rfl⟩ | ⟨rfl, rfl⟩ := h <;> decide

/-! ### NTE (R206) -/

theorem readClass_text {c : Notice} (h : c ≠ .sys) : readClass c.text = some c := by
  cases c with
  | sys => exact absurd rfl h
  | met => decide
  | cel => decide
  | lne => decide
  | axl => decide
  | jrn => decide

theorem doNte_pair (nv : NvStore) (d : Device) {c : Notice} (h : c ≠ .sys) {word : Text} {b : Bool} (hw : readSwitch word = some b) :
    doNte [c.text, word] nv d =
      (let n := { d.ntc with enabled := d.ntc.enabled.put c b, pending := d.ntc.pending.put c false }
       answered .nte (nteFields n) { d with ntc := n }) := by
  simp only [doNte, readPairs, readClass_text h, hw, List.foldl_cons, List.foldl_nil, setEnable, answer_eq]

/-- Settles O16: a light's mode, and the class that is set. -/
theorem lightAndNoticeCommands : Obligations.LightAndNoticeCommands := by
  refine ⟨fun s hc hrun => ⟨act_command hc (.inl rfl) (answerLights_eq hrun), fun m word hm => ⟨?_, ?_⟩, fun light => ?_⟩,
    fun s hc => ⟨act_command hc (.inl rfl) rfl, fun c h => ⟨act_command hc (.inl rfl) (doNte_pair _ _ h (by decide)),
      act_command hc (.inl rfl) (doNte_pair _ _ h (by decide))⟩, fun word => ?_⟩⟩
  · refine act_command hc (.inl rfl) ?_
    simp only [doLit, readMode_word hm, if_true]
    exact answerLights_eq hrun
  · refine act_command hc (.inl rfl) ?_
    simp only [doLit, readMode_word hm, if_neg (show tOut ≠ tIn by decide), if_true]
    exact answerLights_eq hrun
  · exact act_command hc (.inl rfl) rfl
  · exact act_command hc (.inl rfl) rfl

/-! ### ABT (R203) -/

theorem abort_waits {nv : NvStore} {d : Device} {g : Tag} (hg : d.exe.slot = some g)
    (h : (∃ t, d.exe.stage = .zerWait t) ∨ (∃ c t, d.exe.stage = .capWait c t) ∨ (∃ c t w, d.exe.stage = .runWait c t w)) :
    abort nv d = endedWith '#' g [Code.text .abt] d := by
  rw [← failWith_eq .abt [] hg]
  obtain ⟨t, h⟩ | ⟨c, t, h⟩ | ⟨c, t, w, h⟩ := h <;> simp only [abort, h]

/-- The stages that an abort leaves alone: the writes of a command, and one that has ended. -/
theorem abort_writes {nv : NvStore} {d : Device}
    (h : (∃ x r, d.exe.stage = .record x r) ∨ (∃ x, d.exe.stage = .owedTorn x) ∨ (∃ x n, d.exe.stage = .tornAfter x n) ∨
      (∃ x r k b h, d.exe.stage = .freeing x r k b h) ∨ (∃ a b, d.exe.stage = .wg1Write a b) ∨
      (∃ a b c e f, d.exe.stage = .tareWrite a b c e f) ∨ (∃ a, d.exe.stage = .exportWrite a) ∨
      (∃ a, d.exe.stage = .settingsWrite a) ∨ (∃ a b c e f, d.exe.stage = .ccmAudit a b c e f) ∨
      (∃ a b c, d.exe.stage = .ccmRecord a b c) ∨ (∃ a b c, d.exe.stage = .ccmStatus a b c) ∨
      (∃ a b c, d.exe.stage = .vcmAudit a b c) ∨ (∃ a b c, d.exe.stage = .vcmStatus a b c) ∨ d.exe.stage = .ended) : abort nv d = d := by
  obtain ⟨_, _, h⟩ | ⟨_, h⟩ | ⟨_, _, h⟩ | ⟨_, _, _, _, _, h⟩ | ⟨_, _, h⟩ | ⟨_, _, _, _, _, h⟩ | ⟨_, h⟩ | ⟨_, h⟩ | ⟨_, _, _, _, _, h⟩ |
    ⟨_, _, _, h⟩ | ⟨_, _, _, h⟩ | ⟨_, _, _, h⟩ | ⟨_, _, _, h⟩ | h := h <;> simp only [abort, h]

/-- Settles O17, by the stage of the command in flight. -/
theorem abortCommand : Obligations.AbortCommand := by
  intro s hc
  have flight {g : Tag} (hg : s.dev.exe.slot = some g) {d : Device} (h : abort s.nv (answered .abt [tagText g] s.dev) = d) :
      exec (.abt []) s = .next (becomes s d) := by
    refine act_command hc (.inl rfl) ?_
    simp only [doAbt, noFields, hg, answer_eq, h]
  have hexe (fields : List Text) : (answered .abt fields s.dev).exe = s.dev.exe := by rw [answered_tx]
  refine ⟨fun hn _ => act_command hc (.inl rfl) ?_, fun g hg => ⟨fun h => flight hg (abort_waits ?_ ?_),
    fun x hx => flight hg ?_, fun h => flight hg (abort_writes ?_)⟩, fun fs h => act_command hc (.inl rfl) ?_⟩
  · simp only [doAbt, noFields, hn, answer_eq]
  · rw [hexe, hg]
  · rw [hexe]
    exact h
  · simp only [abort, stopStream, hexe, hx, setStage_eq]
  · rw [hexe]
    exact h
  · rw [doAbt, noFields_cons h, refuse_eq]

/-! ### COP (R155, R51) -/

theorem firstCode_true (c : Code) (l : List (Bool × Code)) : firstCode ((true, c) :: l) = firstCode l := rfl
theorem firstCode_false (c : Code) (l : List (Bool × Code)) : firstCode ((false, c) :: l) = some c := rfl

theorem guarded_refused {t : Tag} {checks : List (Bool × Code)} {c : Code} (h : firstCode checks = some c) (go : Device → Device)
    (d : Device) : guarded t checks go d = refused t c d := by
  rw [guarded, h]
  rfl

theorem guarded_passed {t : Tag} {checks : List (Bool × Code)} (h : firstCode checks = none) (go : Device → Device)
    (d : Device) : guarded t checks go d = go d := by
  rw [guarded, h]

theorem runOpen_iff (d : Device) : runOpen d = true ↔ d.mst.run ≠ none := by
  unfold runOpen
  cases d.mst.run <;> simp

theorem verifOpen_iff (d : Device) : verifOpen d = true ↔ d.mst.verif ≠ none := by
  unfold verifOpen
  cases d.mst.verif <;> simp

/-- What =COP leaves: the run open, with MET raised. -/
def copOpened (d : Device) : Device :=
  noticed .met (answered .cop [tNat d.mst.counter, if d.mst.active.isSome then tActive else tDefault]
    { d with mst := { d.mst with run := some (openingCopy d) } })

theorem openRun_answered (d : Device) :
    openRun (answer .cop [tNat d.mst.counter, if d.mst.active.isSome then tActive else tDefault] d) = runEndsZer (copOpened d) := by
  rw [openRun, copOpened, answer_eq, raise_eq, answered_tx, answered_tx]
  rfl

theorem copOpened_exe (d : Device) : (copOpened d).exe = d.exe := by rw [copOpened, noticed_ntc, answered_tx]

theorem openingCopy_eq (d : Device) : openingCopy d = match d.mst.active with
    | some r => ⟨some r.max, some r.d, r.p, r.n, r.window, r.band, r.vint, some r.zcal, some r.zcal, r.slots,
        Quad.const (Quad.const ⟨false, false, none⟩)⟩
    | none => ⟨none, none, 10, 8, 1000, 2, 365, none, none,
        Quad.const (Quad.const ⟨false, none, 0, none, none, none, none, none⟩),
        Quad.const (Quad.const ⟨false, false, none⟩)⟩ := by
  unfold openingCopy
  cases d.mst.active <;> rfl

/-- Settles O18: the checks in order, then the run opens. -/
theorem calibrationRunOpens : Obligations.CalibrationRunOpens := by
  intro s hc
  have no {c : Code} (h : firstCode (copChecks [] s.dev) = some c) : exec (.cop []) s = .next (becomes s (refused .cop c s.dev)) :=
    act_command hc (.inl rfl) (guarded_refused h _ _)
  refine ⟨fun hl => no ?_, fun hl h1 h2 => no ?_, fun hl hlane => ?_⟩
  · simp [copChecks, firstCode, hl]
  · simp [copChecks, firstCode, hl, h1, h2]
  have hlane' : (s.dev.lsv.lane == .clear || s.dev.lsv.lane == .init) = true := by simpa using hlane
  have checks : firstCode (copChecks [] s.dev) = firstCode [(!runOpen s.dev && !verifOpen s.dev, .ses), (!discardOwed s.dev, .bsy),
      (decide (s.dev.mst.counter < Config.numberCap), .rng)] := by
    rw [copChecks, hl, hlane']
    rfl
  refine ⟨fun h => no ?_, fun hr hv => ?_⟩
  · have : (!runOpen s.dev && !verifOpen s.dev) = false := by
      obtain h | h := h
      · simp [(runOpen_iff _).2 h]
      · simp [(verifOpen_iff _).2 h]
    rw [checks, this, firstCode_false]
  have hses : (!runOpen s.dev && !verifOpen s.dev) = true := by simp [runOpen, verifOpen, hr, hv]
  refine ⟨fun h => no ?_, fun h => ⟨fun hcap => no ?_, fun hcap => ?_⟩⟩
  · rw [checks, hses, (discardOwed_iff _).2 h]
    rfl
  · have hd : discardOwed s.dev = false := Bool.eq_false_iff.2 fun hd => h ((discardOwed_iff _).1 hd)
    have hcap' : decide (s.dev.mst.counter < Config.numberCap) = false := decide_eq_false (Nat.not_lt.2 hcap)
    rw [checks, hses, hd, hcap']
    rfl
  · have hd : discardOwed s.dev = false := Bool.eq_false_iff.2 fun hd => h ((discardOwed_iff _).1 hd)
    have hcap' : decide (s.dev.mst.counter < Config.numberCap) = true := decide_eq_true hcap
    have hopen : doCop [] s.nv s.dev = runEndsZer (copOpened s.dev) := by
      rw [doCop, guarded_passed, openRun_answered]
      rw [checks, hses, hd, hcap']
      rfl
    intro opened
    have hopened : copOpened s.dev = opened := by
      rw [copOpened, openingCopy_eq] <;> rfl
    refine ⟨fun hz => act_command hc (.inl rfl) ?_, fun t hz hs => act_command hc (.inl rfl) ?_⟩
    · rw [hopen, runEndsZer, copOpened_exe, hopened]
      split
      next t ht => exact absurd ht (hz t)
      next => rfl
    · rw [hopen, runEndsZer, copOpened_exe, hz, failWith_eq .cal [] (by rw [copOpened_exe, hs]), hopened]

/-! ### CDX (R167) and VOP (R170) -/

/-- What the discard of a run leaves before its audit. -/
def runDiscarded (d : Device) : Device :=
  noticed .met (answered .cdx [tNat d.mst.counter] { d with mst := { d.mst with run := none } })

theorem runDiscarded_eq (d : Device) : runDiscarded d = { d with
    tx := replyTx (recordOf '=' (tagText .cdx) [tNat d.mst.counter]) d.tx, ntc := noticedNtc .met d.ntc,
    mst := { d.mst with run := none } } := by
  rw [runDiscarded, noticed_ntc, answered_tx]

theorem discardRun_answered (nv : NvStore) (d : Device) :
    discardRun nv (answer .cdx [tNat d.mst.counter] d) = requestDiscard nv (runDiscarded d) := by
  rw [discardRun, runDiscarded, answer_eq, raise_eq, answered_tx, answered_tx]

/-- An audit append takes the next number and the slot at the write position. -/
theorem append_requested {nv : NvStore} {src : Requester} {body : AuditBody} {counter : Option Nat} {d : Device} {n : Nat}
    (hn : d.auu.next = some n) (hcap : n < 9999999) (hq : QueueServed d) : append nv src body counter d =
    requested ⟨src, .audit d.auu.writePos ⟨n, body, d.nvc.clock, counter⟩⟩
      { d with auu := { d.auu with writePos := if d.auu.writePos ≥ 256 then 1 else d.auu.writePos + 1, next := some (n + 1) } } := by
  have hnext : (if n ≥ Config.ticketCap then none else some (n + 1)) = some (n + 1) := if_neg (Nat.not_le.2 hcap)
  simp only [append, hn, hnext]
  exact request_eq _ hq

/-- Settles O20: CDX with its audit requested or owed, and VOP's checks in order. -/
theorem runDiscardAndVerification : Obligations.RunDiscardAndVerification := by
  refine ⟨fun s w hc hrun => ?_, fun s hc => act_command hc (.inl rfl) ?_⟩
  · intro closed
    have hclosed : runDiscarded s.dev = closed := rfl
    have hr : runOpen s.dev = true := (runOpen_iff _).2 (by rw [hrun]; simp)
    have go (h : runStep s.dev = none) : doCdx [] s.nv s.dev = requestDiscard s.nv (runDiscarded s.dev) := by
      rw [doCdx, guarded_passed, discardRun_answered]
      rw [cdxChecks, hr, h]
      rfl
    refine ⟨fun h => act_command hc (.inl rfl) (guarded_refused ?_ _ _), fun h hb => act_command hc (.inl rfl) ?_,
      fun n h hb hq hn hcap => act_command hc (.inl rfl) ?_⟩
    · obtain ⟨t, ht⟩ := Option.ne_none_iff_exists'.1 h
      rw [cdxChecks, hr, ht]
      rfl
    · rw [go h, ← hclosed, runDiscarded_eq, requestDiscard, if_pos (by exact hb)]
    · rw [go h, ← hclosed, runDiscarded_eq, requestDiscard, if_neg (by exact fun hb' => Bool.false_ne_true (hb.symm.trans hb')),
        append_requested (by exact hn) hcap (by exact hq)]
  · have no {c : Code} (h : firstCode (vopChecks [] s.dev) = some c) : doVop [] s.nv s.dev = refused .vop c s.dev :=
      guarded_refused h _ _
    split
    next h =>
      obtain ⟨g, hg⟩ := Option.ne_none_iff_exists'.1 h
      refine no ?_
      rw [vopChecks, hg]
      rfl
    next h =>
    have hs : s.dev.exe.slot.isNone = true := by simpa using h
    split
    next h =>
      refine no ?_
      rw [vopChecks, hs, (runOpen_iff _).2 h]
      rfl
    next h =>
    have hr : runOpen s.dev = false := Bool.eq_false_iff.2 fun hr => h ((runOpen_iff _).1 hr)
    split
    next h =>
      refine no ?_
      rw [vopChecks, hs, hr, (verifOpen_iff _).2 h]
      rfl
    next h =>
    have hv : verifOpen s.dev = false := Bool.eq_false_iff.2 fun hv => h ((verifOpen_iff _).1 hv)
    split
    next h =>
      refine no ?_
      rw [vopChecks, hs, hr, hv, calibratedOrSuspect, h]
      rfl
    next h =>
    have hu : calibratedOrSuspect s.dev = true := by simpa [calibratedOrSuspect] using h
    split
    next h =>
      have hlane : (s.dev.lsv.lane == .clear || s.dev.lsv.lane == .onDeck) = false := by simpa using h
      refine no ?_
      rw [vopChecks, hs, hr, hv, hu, hlane]
      rfl
    next h =>
      have hlane : (s.dev.lsv.lane == .clear || s.dev.lsv.lane == .onDeck) = true := by
        rw [Bool.or_eq_true, beq_iff_eq, beq_iff_eq]
        tauto
      rw [doVop, guarded_passed, openVerification, raise_eq, answer_eq, answered_tx, answered_tx]
      rw [vopChecks, hs, hr, hv, hu, hlane]
      rfl

end Sys2Proof.Machine
end

section
/-! PROOF. Items of the working copy (R156, R160). -/

namespace Sys2Proof.Machine

open Sys2Proof.Safety

/-! ### Reading items and values -/

theorem readRecordItem_text {item : RecordItem} (h : item ≠ .zcal) : readRecordItem item.text = some item := by
  cases item with
  | zcal => exact absurd rfl h
  | _ => decide

theorem readSlotItem_text {item : SlotItem} (h : item ∈ [SlotItem.cfg, .lcel, .tco]) : readSlotItem item.text = some item := by
  simp only [List.mem_cons, List.not_mem_nil, or_false] at h
  obtain rfl | rfl | rfl := h <;> decide

theorem readRecordItem_none {f : Text} (h : ∀ item ∈ [RecordItem.max, .div, .per, .flt, .win, .band, .vint], f ≠ item.text) :
    readRecordItem f = none := by
  simp only [readRecordItem, List.find?_eq_none, beq_iff_eq]
  exact fun i hm hi => h i hm hi.symm

theorem readSlotItem_none {f : Text} (h : ∀ item ∈ [SlotItem.cfg, .lcel, .tco], f ≠ item.text) : readSlotItem f = none := by
  simp only [readSlotItem, List.find?_eq_none, beq_iff_eq]
  exact fun i hm hi => h i hm hi.symm

theorem readSlot_none {f : Text} (h : ∀ i, f ≠ slotText i) : readSlot f = none := by
  simp only [readSlot, List.find?_eq_none, beq_iff_eq]
  exact fun i _ hi => h i hi.symm

theorem readRecordItem_slotText (i : SlotId) : readRecordItem (slotText i) = none := by
  obtain ⟨l, a⟩ := i
  cases l <;> cases a <;> decide

theorem readInt_tInt {k : Int} (h : k.natAbs < 10 ^ 40) : readInt (tInt k) = some k := by
  rw [tInt]
  split
  next hk => simp [readInt, readNat_tNat h, abs_of_neg hk]
  next hk => rw [readInt_tNat h]; congr 1; omega

/-! ### Zcal (R160) -/

theorem sumInt_eq (l : List Int) : sumInt l = l.sum := by
  rw [sumInt, List.sum_eq_foldl]

theorem zeroPart_nearest (x : WorkCopy) (i : SlotId) : ZeroPart x i (zeroPart (x.slots.sel i) (x.marks.sel i)) := by
  unfold ZeroPart zeroPart
  generalize (x.marks.sel i).zeroMean = mean
  generalize (x.slots.sel i).s = span
  generalize (x.slots.sel i).z = zero
  match mean, span, zero with
  | some (sum, n), some s, some z =>
    refine ⟨roundDiv ((sum - z * n) * ((x.slots.sel i).lref.getD 0 : Nat)) (n * s), clampLow ((x.slots.sel i).lcell.getD 0),
      clampHigh ((x.slots.sel i).lcell.getD 0), fun h => nearest_roundDiv _ h, nearest_roundDiv _ (by decide),
      nearest_roundDiv _ (by decide), ?_⟩
    simp only [clampWeight, apply_ite Prod.fst, gt_iff_lt]
  | none, _, _ => rfl
  | some _, none, _ => rfl
  | some _, some _, none => rfl

theorem settleZero_kept {x : WorkCopy} (h : ∀ i, (x.marks.sel i).zeroCaptured = false) : settleZero x = { x with zcal := x.copied } := by
  have : x.holdsZero = false := by simp [WorkCopy.holdsZero, h]
  rw [settleZero, this]
  rfl

theorem SlotId.mem_all (i : SlotId) : i ∈ SlotId.all := by
  obtain ⟨l, a⟩ := i
  cases l <;> cases a <;> decide

theorem settleZero_formed {x : WorkCopy} (h : ∃ i, (x.marks.sel i).zeroCaptured = true) : settleZero x =
    { x with zcal := some ((slotsUsed x).map fun i => zeroPart (x.slots.sel i) (x.marks.sel i)).sum } := by
  obtain ⟨i, hi⟩ := h
  have : x.holdsZero = true := List.any_eq_true.2 ⟨i, SlotId.mem_all i, hi⟩
  rw [settleZero, reformZero, this, ← sumInt_eq]
  rfl

theorem configureSlot_no (active : Option CalRecord) (i : SlotId) (w : WorkCopy) : configureSlot active false i w =
    settleZero { w with slots := w.slots.put i { w.slots.sel i with configured := false },
                        marks := w.marks.put i ⟨false, false, none⟩ } := rfl

theorem configureSlot_yes (active : Option CalRecord) (i : SlotId) (w : WorkCopy) : configureSlot active true i w =
    settleZero { w with
      slots := w.slots.put i (match active with
        | some r => if (r.slots.sel i).configured then r.slots.sel i else ⟨true, none, 0, none, none, none, none, none⟩
        | none => ⟨true, none, 0, none, none, none, none, none⟩),
      marks := w.marks.put i ⟨false, false, none⟩ } := by
  cases active <;> rfl

/-! ### CPA (R156) -/

/-- The device with the working copy of its run changed. -/
theorem answered_setWork (fs : List Text) (x : WorkCopy) (d : Device) : answered .cpa fs (setWork x d) =
    { answered .cpa fs d with mst := { (answered .cpa fs d).mst with run := some x } } := by
  rw [answered_tx, answered_tx]
  rfl

theorem doCpa_open {w : WorkCopy} {d : Device} (hr : d.mst.run = some w) (hs : runStep d = none) (fs : List Text) (nv : NvStore) :
    doCpa fs nv d = doCpaWork fs w d := by
  rw [doCpa, hr, hs]
  rfl

theorem doCpaWork_read (w : WorkCopy) (d : Device) {item : RecordItem} (h : item ≠ .zcal) :
    doCpaWork [item.text] w d = answered .cpa [item.text, w.itemText item] d := by
  simp only [doCpaWork, readRecordItem_text h, answer_eq]

theorem doCpaWork_readSlot (w : WorkCopy) (d : Device) (i : SlotId) :
    doCpaWork [slotText i] w d = answered .cpa (workSlotFields w i) d := by
  simp only [doCpaWork, readRecordItem_slotText, readSlot_slotText, answer_eq]

theorem doCpaWork_set {w x : WorkCopy} (d : Device) {item : RecordItem} (h : item ≠ .zcal) {t : Text} (hx : w.setItem t item = some x)
    (ht : x.itemText item = t) : doCpaWork [item.text, t] w d = answered .cpa [item.text, t] (setWork x d) := by
  simp only [doCpaWork, readRecordItem_text h, hx, answer_eq, ht]

theorem doCpaWork_setRefused {w : WorkCopy} (d : Device) {item : RecordItem} (h : item ≠ .zcal) {t : Text} (hx : w.setItem t item = none) :
    doCpaWork [item.text, t] w d = refused .cpa .rng d := by
  simp only [doCpaWork, readRecordItem_text h, hx, refuse_eq]

theorem doCpaWork_setSlot {w x : WorkCopy} (d : Device) (i : SlotId) {item : SlotItem} (h : item ∈ [SlotItem.cfg, .lcel, .tco]) {t : Text}
    (hx : setSlotItem d.mst.active i item t w = some (x, t)) :
    doCpaWork [slotText i, item.text, t] w d = answered .cpa [slotText i, item.text, t] (setWork x d) := by
  simp only [doCpaWork, readSlot_slotText, readSlotItem_text h, hx, answer_eq]

theorem doCpaWork_setSlotRefused {w : WorkCopy} (d : Device) (i : SlotId) {item : SlotItem} (h : item ∈ [SlotItem.cfg, .lcel, .tco])
    {t : Text} (hx : setSlotItem d.mst.active i item t w = none) : doCpaWork [slotText i, item.text, t] w d = refused .cpa .rng d := by
  simp only [doCpaWork, readSlot_slotText, readSlotItem_text h, hx, refuse_eq]

theorem setItem_div_none {w : WorkCopy} {t : Text} (h : ∀ n ∈ [1, 2, 5, 10, 20, 50], readNat t ≠ some n) : w.setItem t .div = none := by
  rw [WorkCopy.setItem]
  split
  next v hv =>
    refine if_neg fun hd => ?_
    simp only [isDivision, Bool.or_eq_true, beq_iff_eq] at hd
    exact h v (by simpa [or_assoc] using hd) hv
  next => rfl

theorem setItem_per_none {w : WorkCopy} {t : Text} (h : ∀ n ∈ [5, 10, 20], readNat t ≠ some n) : w.setItem t .per = none := by
  rw [WorkCopy.setItem]
  split
  next v hv =>
    refine if_neg fun hd => ?_
    simp only [isPeriod, Bool.or_eq_true, beq_iff_eq] at hd
    exact h v (by simpa [or_assoc] using hd) hv
  next => rfl

theorem setItem_div {w : WorkCopy} {n : Nat} (h : n ∈ [1, 2, 5, 10, 20, 50]) : w.setItem (tNat n) .div = some { w with d := some n } := by
  simp only [List.mem_cons, List.not_mem_nil, or_false] at h
  have hd : isDivision n = true := by simpa [isDivision, or_assoc] using h
  rw [WorkCopy.setItem, readNat_tNat (by omega)]
  exact if_pos hd

theorem setItem_per {w : WorkCopy} {n : Nat} (h : n ∈ [5, 10, 20]) : w.setItem (tNat n) .per = some { w with p := n } := by
  simp only [List.mem_cons, List.not_mem_nil, or_false] at h
  have hd : isPeriod n = true := by simpa [isPeriod, or_assoc] using h
  rw [WorkCopy.setItem, readNat_tNat (by omega)]
  exact if_pos hd

/-- A value in its item's range is set. -/
theorem map_readRange {lo hi n : Nat} (h1 : lo ≤ n) (h2 : n ≤ hi) (hhi : hi ≤ 150000) (f : Nat → WorkCopy) :
    (readRange lo hi (tNat n)).map f = some (f n) := by
  rw [readRange_tNat h1 h2 (by omega)]
  rfl

theorem setSlotItem_tco {active : Option CalRecord} {i : SlotId} {w : WorkCopy} {k : Int} (h1 : -512 ≤ k) (h2 : k ≤ 511) :
    setSlotItem active i .tco (tInt k) w = some (setTco k i w, tInt k) := by
  simp only [setSlotItem, readInt_tInt (show k.natAbs < 10 ^ 40 by omega), if_pos (And.intro h1 h2)]

theorem setSlotItem_tco_none {active : Option CalRecord} {i : SlotId} {w : WorkCopy} {t : Text}
    (h : ∀ k, readInt t = some k → k < -512 ∨ 511 < k) : setSlotItem active i .tco t w = none := by
  simp only [setSlotItem]
  split
  next k hk => exact if_neg fun hk' => by have := h k hk; omega
  next => rfl

/-- Settles O19: what each item takes, and what is refused. -/
theorem workingCopyItems : Obligations.WorkingCopyItems := by
  intro s hc
  refine ⟨fun hr fs => act_command hc (.inl rfl) ?_, fun w hr => ?_⟩
  · rw [doCpa, hr]
    rfl
  intro holding wrong sets
  refine ⟨fun hs fs => act_command hc (.inl rfl) ?_, fun hs => ?_⟩
  · obtain ⟨t, ht⟩ := Option.ne_none_iff_exists'.1 hs
    rw [doCpa, hr, ht]
    rfl
  have go {fs : List Text} {d : Device} (h : doCpaWork fs w s.dev = d) : exec (.cpa fs) s = .next (becomes s d) :=
    act_command hc (.inl rfl) ((doCpa_open hr hs fs s.nv).trans h)
  have set {fs : List Text} {x : WorkCopy} (h : doCpaWork fs w s.dev = answered .cpa fs (setWork x s.dev)) : sets fs x :=
    go (h.trans (answered_setWork fs x s.dev))
  have setWhole {item : RecordItem} {t : Text} {x : WorkCopy} (h : item ≠ .zcal) (hx : w.setItem t item = some x)
      (ht : x.itemText item = t) : sets [item.text, t] x := set (doCpaWork_set s.dev h hx ht)
  have setSlot {i : SlotId} {item : SlotItem} {t : Text} {x : WorkCopy} (h : item ∈ [SlotItem.cfg, .lcel, .tco])
      (hx : setSlotItem s.dev.mst.active i item t w = some (x, t)) : sets [slotText i, item.text, t] x :=
    set (doCpaWork_setSlot s.dev i h hx)
  have badWhole {item : RecordItem} {t : Text} (h : item ≠ .zcal) (hx : w.setItem t item = none) : wrong [item.text, t] :=
    go (doCpaWork_setRefused s.dev h hx)
  have badSlot {i : SlotId} {item : SlotItem} {t : Text} (h : item ∈ [SlotItem.cfg, .lcel, .tco])
      (hx : setSlotItem s.dev.mst.active i item t w = none) : wrong [slotText i, item.text, t] :=
    go (doCpaWork_setSlotRefused s.dev i h hx)
  intro whole value
  refine ⟨fun item hm => ?_, fun i => go (doCpaWork_readSlot w s.dev i), fun n h1 h2 => ?_, fun n h => ?_, fun n h => ?_,
    fun n h1 h2 => ?_, fun n h1 h2 => ?_, fun n h1 h2 => ?_, fun n h1 h2 => ?_, fun i k h1 h2 => ?_, ?_, ?_, ?_, ?_, ?_, ?_⟩
  · have hz : item ≠ .zcal := by
      rintro rfl
      exact absurd hm (by decide)
    refine go ((doCpaWork_read w s.dev hz).trans ?_)
    cases item <;> first | rfl | exact absurd rfl hz
  · exact setWhole (by decide) (map_readRange h1 h2 (by decide) _) rfl
  · exact setWhole (by decide) (setItem_div h) rfl
  · exact setWhole (by decide) (setItem_per h) rfl
  · exact setWhole (by decide) (map_readRange h1 h2 (by decide) _) rfl
  · exact setWhole (by decide) (map_readRange h1 h2 (by decide) _) rfl
  · exact setWhole (by decide) (map_readRange h1 h2 (by decide) _) rfl
  · exact setWhole (by decide) (map_readRange h1 h2 (by decide) _) rfl
  · exact setSlot (by decide) (setSlotItem_tco h1 h2)
  · intro settles
    have settle {i : SlotId} {item : SlotItem} {t : Text} {x : WorkCopy} (h : item ∈ [SlotItem.cfg, .lcel, .tco])
        (hx : setSlotItem s.dev.mst.active i item t w = some (settleZero x, t)) : settles [slotText i, item.text, t] x := by
      refine ⟨fun hz => setSlot h (by rw [hx, settleZero_kept hz]), fun hz => ⟨_, zeroPart_nearest x, setSlot h ?_⟩⟩
      rw [hx, settleZero_formed hz]
    refine ⟨fun i n h1 h2 => settle (by decide) ?_, fun i => settle (by decide) ?_, fun i => settle (by decide) ?_⟩
    · simp only [setSlotItem, readRange_tNat h1 h2 (by omega : n < 10 ^ 40), Option.map_some]
      rfl
    · rw [setSlotItem, if_neg (by decide), if_pos rfl, configureSlot_no]
    · rw [setSlotItem, if_pos rfl, configureSlot_yes] <;> rfl
  · refine fun f hf => ⟨fun hi => go ?_, fun t => go ?_⟩
    · simp only [doCpaWork, readRecordItem_none hf, readSlot_none hi, refuse_eq]
    · simp only [doCpaWork, readRecordItem_none hf, refuse_eq]
  · refine fun t => ⟨fun h => badWhole (by decide) ?_, fun h => badWhole (by decide) (setItem_div_none h),
      fun h => badWhole (by decide) (setItem_per_none h), fun h => badWhole (by decide) ?_, fun h => badWhole (by decide) ?_,
      fun h => badWhole (by decide) ?_, fun h => badWhole (by decide) ?_⟩ <;>
      rw [WorkCopy.setItem, h, Option.map_none]
  · intro f g t h
    refine go ?_
    obtain h | h := h
    · simp only [doCpaWork, readSlot_none h, refuse_eq]
    · simp only [doCpaWork, readSlotItem_none h, refuse_eq]
      split <;> first | rfl | exact absurd ‹_› (by simp)
  · refine fun i t => ⟨fun hy hn => badSlot (by decide) ?_, fun h => badSlot (by decide) ?_,
      fun h => badSlot (by decide) (setSlotItem_tco_none h)⟩
    · rw [setSlotItem, if_neg hy, if_neg hn]
    · rw [setSlotItem, h, Option.map_none]
  · intro fs h
    refine go ?_
    match fs, h with
    | [], _ => rfl
    | _ :: _ :: _ :: _ :: _, _ => rfl
    | [_], h => simp at h
    | [_, _], h => simp at h
    | [_, _, _], h => simp at h

end Sys2Proof.Machine
end

section
/-! PROOF. Long commands as they are taken: their checks in order, then the wait or the write they begin. -/

namespace Sys2Proof.Machine

open Sys2Proof.Safety

/-! ### Checks in order -/

section checks

variable {t : Tag} {go : Device → Device} {d rest : Device} {l : List (Bool × Code)}

/-- One check, as the condition that refuses: the checks that follow matter only when it passes. -/
theorem guarded_check {b : Bool} {c : Code} {p : Prop} [Decidable p] (hb : b = true ↔ ¬p) (h : ¬p → guarded t l go d = rest) :
    guarded t ((b, c) :: l) go d = if p then refused t c d else rest := by
  by_cases hp : p
  · have hf : b = false := Bool.eq_false_iff.2 fun ht => hb.1 ht hp
    rw [if_pos hp, hf]
    rfl
  · have ht : b = true := hb.2 hp
    rw [if_neg hp, ht]
    exact h hp

theorem guarded_nil : guarded t [] go d = go d := rfl

theorem noRun_iff : (!runOpen d) = true ↔ ¬d.mst.run ≠ none := by
  rw [Bool.not_eq_true', ← Bool.not_eq_true, runOpen_iff]

theorem calibratedOrSuspect_iff : calibratedOrSuspect d = true ↔ ¬d.mst.state = .uncalibrated := by simp [calibratedOrSuspect]

theorem noVerif_iff : (!verifOpen d) = true ↔ ¬d.mst.verif ≠ none := by
  rw [Bool.not_eq_true', ← Bool.not_eq_true, verifOpen_iff]

theorem clockSet_iff : clockSet d = true ↔ ¬d.nvc.clock = none := by
  unfold clockSet
  cases d.nvc.clock <;> simp

theorem zeroSet_iff : d.zsu.set = true ↔ ¬d.zsu.set = false := by simp

theorem onDeck_iff : (d.lsv.lane == .onDeck) = true ↔ ¬d.lsv.lane ≠ .onDeck := by simp

theorem beamsClear_iff : beamsClear d = true ↔ ¬(d.lsv.beamIn.state = true ∨ d.lsv.beamOut.state = true) := by simp [beamsClear]

theorem laneEither_iff (a b : Lane) : (d.lsv.lane == a || d.lsv.lane == b) = true ↔ ¬(d.lsv.lane ≠ a ∧ d.lsv.lane ≠ b) := by
  rw [Bool.or_eq_true, beq_iff_eq, beq_iff_eq]
  tauto

/-- No run open, CALIBRATED or SUSPECT, no verification run: the checks shared by every trade command. -/
theorem guarded_trade (h : guarded t l go d = rest) :
    guarded t ((!runOpen d, .cal) :: (calibratedOrSuspect d, .unc) :: (!verifOpen d, .cal) :: l) go d =
    if d.mst.run ≠ none then refused t .cal d
    else if d.mst.state = .uncalibrated then refused t .unc d
    else if d.mst.verif ≠ none then refused t .cal d
    else rest :=
  guarded_check noRun_iff fun _ => guarded_check calibratedOrSuspect_iff fun _ => guarded_check noVerif_iff fun _ => h

theorem beginCapture_eq (cmd : CapCmd) : beginCapture t cmd d =
    acceptedAs t (.capWait cmd (d.now + 1000 * d.nvc.settings.cto)) d := by
  rw [beginCapture, accept_eq, captureDeadlineFrom, Nat.mul_comm]

/-- Zero SET, ON_DECK and both beams CLEAR, then the capture wait. -/
theorem guarded_capture (cmd : CapCmd) :
    guarded t [(d.zsu.set, .zro), (d.lsv.lane == .onDeck, .lan), (beamsClear d, .bem)] (beginCapture t cmd) d =
    if d.zsu.set = false then refused t .zro d
    else if d.lsv.lane ≠ .onDeck then refused t .lan d
    else if d.lsv.beamIn.state = true ∨ d.lsv.beamOut.state = true then refused t .bem d
    else acceptedAs t (.capWait cmd (d.now + 1000 * d.nvc.settings.cto)) d :=
  guarded_check zeroSet_iff fun _ => guarded_check onDeck_iff fun _ => guarded_check beamsClear_iff fun _ => beginCapture_eq cmd

theorem guarded_true {c : Code} : guarded t ((true, c) :: l) go d = guarded t l go d := rfl

theorem guarded_false {c : Code} : guarded t ((false, c) :: l) go d = refused t c d := rfl

/-- The checks of a trade capture once those of every trade command have passed. -/
theorem guarded_tradeChecks (hr : ¬d.mst.run ≠ none) (hu : ¬d.mst.state = .uncalibrated) (hv : ¬d.mst.verif ≠ none) :
    guarded t (tradeChecks d) go d =
    guarded t [(d.zsu.set, .zro), (d.lsv.lane == .onDeck, .lan), (beamsClear d, .bem)] go d := by
  rw [tradeChecks, noRun_iff.2 hr, calibratedOrSuspect_iff.2 hu, noVerif_iff.2 hv, guarded_true, guarded_true, guarded_true]

/-- The issue checks of R139; what follows them starts from those that have passed. -/
theorem guarded_issue (nv : NvStore) (h : ¬d.mst.run ≠ none → ¬d.mst.state = .uncalibrated → ¬d.mst.verif ≠ none →
    ¬d.nvc.clock = none → guarded t l go d = rest) : guarded t (issueChecks nv d ++ l) go d =
    if d.mst.run ≠ none then refused t .cal d
    else if d.mst.state = .uncalibrated then refused t .unc d
    else if d.mst.verif ≠ none then refused t .cal d
    else if d.nvc.clock = none then refused t .tim d
    else if journalFull nv d = true then refused t .ful d
    else if 9999999 < nv.nextTicket d.txu.owedTorn then refused t .num d
    else rest :=
  guarded_check noRun_iff fun hr => guarded_check calibratedOrSuspect_iff fun hu => guarded_check noVerif_iff fun hv =>
    guarded_check clockSet_iff fun hclock => guarded_check (by simp) fun _ =>
    guarded_check (decide_eq_true_iff.trans Nat.not_lt.symm) fun _ => h hr hu hv hclock

end checks

/-- A long command that the Executive's checks let through is its owner's body. -/
theorem act_long {s : State} {t : Tag} {body : NvStore → Device → Device} {d : Device} (h : TakesLong s.dev)
    (hd : body s.nv s.dev = d) : s.act (command t body) = .next (becomes s d) := act_command h.1 (.inr h.2) hd

/-! ### ZER and WG1 (R50, R114) -/

theorem readDirection_text (dir : Direction) : readDirection dir.text = some dir := by cases dir <;> decide

theorem findVisitRef_iff {d : Device} {ref : Text} : (findVisitRef d ref).isNone = true ↔ ¬∃ v ∈ d.txu.visits, v.2.ref = ref := by
  rw [findVisitRef, Option.isNone_iff_eq_none, List.find?_eq_none]
  simp

/-- Settles O21: the checks in order, then the wait. -/
theorem zeroAndFirstWeighing : Obligations.ZeroAndFirstWeighing := by
  refine ⟨fun s hl => ⟨act_long hl ?_, fun fs h => act_long hl ?_⟩, fun s ref dir hl hr => act_long hl ?_⟩
  · refine guarded_check noRun_iff fun _ => guarded_check calibratedOrSuspect_iff fun _ => guarded_check (laneEither_iff _ _) fun _ => ?_
    rw [guarded_nil, accept_eq, captureDeadlineFrom, Nat.mul_comm]
  · obtain ⟨f, rest, rfl⟩ := List.exists_cons_of_ne_nil h
    rfl
  · simp only [doWg1, hr, readDirection_text]
    exact guarded_check findVisitRef_iff fun _ => guarded_check (decide_eq_true_iff.trans Nat.not_le.symm) fun _ =>
      guarded_check clockSet_iff fun _ => guarded_trade (guarded_capture _)

/-! ### WG2, WGS and WGG (R139) -/

theorem tareExpired_iff {d : Device} {e : TareEntry} (h : d.nvc.clock ≠ none) :
    tareExpired d e = some true ↔ e.stored.getD 0 + 86400 * e.days ≤ d.nvc.clock.getD 0 := by
  obtain ⟨c, hc⟩ := Option.ne_none_iff_exists'.1 h
  rw [tareExpired, tareExpiry_eq, hc]
  simp

/-- Settles O22: the issue checks, then the command's own, then those of the capture. -/
theorem ticketWeighings : Obligations.TicketWeighings := by
  intro s hl checked captured expired
  refine ⟨fun f hf => ⟨act_long hl ?_, act_long hl ?_⟩, fun f hf => act_long hl ?_,
    fun fs h => ⟨act_long hl ?_, act_long hl ?_, act_long hl ?_⟩, fun ref hr => act_long hl ?_,
    fun n h1 h2 => ⟨fun hn => act_long hl ?_, fun slot v hv => act_long hl ?_⟩,
    fun ref hr => ⟨fun hn => act_long hl ?_, fun slot e he => ⟨fun hx => act_long hl ?_, fun hx => act_long hl ?_⟩⟩⟩
  · simp only [doWgg, hf, refuse_eq]
  · simp only [doWgs, hf, refuse_eq]
  · simp only [doWg2, hf, refuse_eq]
  · match fs, h with
    | [], _ => rfl
    | _ :: _ :: _, _ => rfl
  · match fs, h with
    | [], _ => rfl
    | _ :: _ :: _, _ => rfl
  · match fs, h with
    | [], _ => rfl
    | _ :: _ :: _, _ => rfl
  · simp only [doWgg, hr]
    exact guarded_issue s.nv fun hrun hu hv _ => (guarded_tradeChecks hrun hu hv).trans (guarded_capture _)
  · simp only [doWg2, readNumber_tNat h1 h2, hn, List.append_assoc]
    exact guarded_issue s.nv fun _ _ _ _ => guarded_false
  · simp only [doWg2, readNumber_tNat h1 h2, hv, List.append_assoc]
    exact guarded_issue s.nv fun hrun hu hver _ => (guarded_tradeChecks hrun hu hver).trans (guarded_capture _)
  · simp only [doWgs, hr, hn]
    rw [← List.append_nil (issueChecks s.nv s.dev)]
    exact guarded_issue s.nv fun _ _ _ _ => rfl
  · simp only [doWgs, hr, he, List.append_assoc]
    refine guarded_issue s.nv fun _ _ _ hclock => ?_
    rw [(tareExpired_iff hclock).2 hx]
    exact guarded_false
  · simp only [doWgs, hr, he, List.append_assoc]
    refine guarded_issue s.nv fun hrun hu hv hclock => ?_
    have hlive : (tareExpired s.dev e != some true) = true := by
      rw [bne_iff_ne]
      exact fun h => hx ((tareExpired_iff hclock).1 h)
    rw [hlive]
    exact (guarded_tradeChecks hrun hu hv).trans (guarded_capture _)

/-! ### TRS and VPT (R125, R172) -/

theorem tareRoom_iff {d : Device} {ref : Text} :
    tareRoom d ref = true ↔ ¬((∀ e ∈ d.txu.tares, e.2.ref ≠ ref) ∧ 64 ≤ d.txu.tares.length) := by
  have hfound : (findTare d ref).isSome = true ↔ ¬∀ e ∈ d.txu.tares, e.2.ref ≠ ref := by
    rw [findTare, List.find?_isSome]
    simp
  have hroom : decide (d.txu.tares.length < Config.tareSlots) = true ↔ ¬64 ≤ d.txu.tares.length :=
    decide_eq_true_iff.trans Nat.not_le.symm
  rw [tareRoom, Bool.or_eq_true, hfound, hroom]
  tauto

/-- Settles O23: the checks in order, then the capture wait. -/
theorem tareAndPointCaptures : Obligations.TareAndPointCaptures := by
  intro s hl
  refine ⟨fun ref days hr h1 h2 => act_long hl ?_, fun r x hr hx => act_long hl ?_⟩
  · simp only [doTrs, hr, readRange_tNat h1 h2 (by omega)]
    exact guarded_check tareRoom_iff fun _ => guarded_check clockSet_iff fun _ => guarded_trade (guarded_capture _)
  · have hrange : loadInRange s.dev x = true ↔ ¬r.max < x := by simp [loadInRange, hr]
    have hcap : decide (((s.dev.mst.verif.map (·.length)).getD 0) < Config.pointCap) = true ↔
        ¬∃ l, s.dev.mst.verif = some l ∧ 8 ≤ l.length := by
      rw [decide_eq_true_iff]
      cases s.dev.mst.verif <;> simp [Config.pointCap]
    have hses : verifOpen s.dev = true ↔ ¬s.dev.mst.verif = none := verifOpen_iff _
    simp only [doVpt, readNat_tNat hx]
    exact guarded_check hrange fun _ => guarded_check hcap fun _ => guarded_check noRun_iff fun _ =>
      guarded_check calibratedOrSuspect_iff fun _ => guarded_check hses fun _ => guarded_check zeroSet_iff fun _ =>
      guarded_check (laneEither_iff _ _) fun _ => guarded_check beamsClear_iff fun _ => beginCapture_eq _

/-! ### TRK and TRD (R126, R127) -/

/-- TRK's checks as conditions. -/
theorem doTrk_eq {nv : NvStore} {d : Device} {ref ft : Text} {t : Int} {days : Nat} (hr : readRef ref = some ref) (ht : readInt ft = some t)
    (h1 : 1 ≤ days) (h2 : days ≤ 365) : doTrk [ref, ft, tNat days] nv d =
    guarded .trk (trkChecks ref t d) (fun d => storeTare nv .trk (keyedTare ref t days d) (accept .trk .none d)) d := by
  simp only [doTrk, hr, ht, readRange_tNat h1 h2 (by omega)]

theorem tareSlotFor_held {d : Device} {ref : Text} {slot : Nat} {old : TareEntry} (h : findTare d ref = some (slot, old)) :
    tareSlotFor d ref = some slot := by
  rw [tareSlotFor, h]

theorem tareSlotFor_free {d : Device} {ref : Text} (h : findTare d ref = none) :
    tareSlotFor d ref = firstPlace (tareSlotFree d) 64 := by
  rw [tareSlotFor, h]
  rfl

theorem storeTare_write {nv : NvStore} {t : Tag} {e : TareEntry} {d : Device} {slot : Nat} (h : tareSlotFor d e.ref = some slot)
    (hq : QueueServed d) : storeTare nv t e d = atStage (.tareWrite t slot (some e) e.ref (findTare d e.ref).isSome)
      (requested ⟨.longOp, tareWrite nv slot (some e)⟩ d) := by
  simp only [storeTare, h, setStage_eq, request_eq _ hq]

theorem storeTare_full {nv : NvStore} {t g : Tag} {e : TareEntry} {d : Device} (h : tareSlotFor d e.ref = none)
    (hg : d.exe.slot = some g) : storeTare nv t e d = endedWith '#' g [['T', 'B', 'L']] d := by
  simp only [storeTare, h, failWith_eq _ _ hg]
  rfl

/-- TRK once the run, the metrology state and the weight pass. -/
theorem trkChecks_passed {d : Device} {ref : Text} {t : Int} {r : CalRecord} (hrun : d.mst.run = none)
    (hu : d.mst.state ≠ .uncalibrated) (hr : d.mst.active = some r) (h1 : 0 ≤ t) (h2 : t ≤ r.max) (h3 : t % r.d = 0)
    (go : Device → Device) :
    guarded .trk (trkChecks ref t d) go d = guarded .trk [(tareRoom d ref, .tbl), (clockSet d, .tim)] go d := by
  have hcal : (calibratedOrSuspect d && d.mst.active.isSome) = true := by simp [calibratedOrSuspect, hu, hr]
  have hfits : tareFits d t = true := by simp [tareFits, hr, h1, h2, h3]
  rw [trkChecks, noRun_iff.2 (not_not.2 hrun), hcal, hfits, guarded_true, guarded_true, guarded_true]

theorem tareFits_false {d : Device} {t : Int} {r : CalRecord} (hr : d.mst.active = some r)
    (h : t < 0 ∨ (r.max : Int) < t ∨ t % r.d ≠ 0) : tareFits d t = false := by
  rw [Bool.eq_false_iff, tareFits, hr]
  simp only [ne_eq, Bool.and_eq_true, decide_eq_true_eq, beq_iff_eq]
  rintro ⟨⟨h1, h2⟩, h3⟩
  obtain h | h | h := h
  · omega
  · omega
  · exact h h3

/-- Settles O24: the entry is written in the slot that holds its reference, else in the lowest free one. -/
theorem tareTableCommands : Obligations.TareTableCommands := by
  intro s hl hq
  refine ⟨fun ref ft t days hr ht h1 h2 => ?_, fun f ft fd h => act_long hl ?_, fun fs h => act_long hl ?_,
    fun ref hr => ⟨fun slot e he => act_long hl ?_, fun hn => act_long hl ?_⟩⟩
  · intro trk
    have go {d : Device} (h : guarded .trk (trkChecks ref t s.dev)
        (fun d => storeTare s.nv .trk (keyedTare ref t days d) (accept .trk .none d)) s.dev = d) : trk d :=
      act_long hl ((doTrk_eq hr ht h1 h2).trans h)
    refine ⟨fun h => go ?_, fun hrun h => go ?_, fun r hrun hu hact => ⟨fun h => go ?_, fun h0 hmax hmod => ?_⟩⟩
    · rw [trkChecks, (runOpen_iff _).2 h]
      rfl
    · have hcal : (calibratedOrSuspect s.dev && s.dev.mst.active.isSome) = false := by
        obtain h | h := h <;> simp [calibratedOrSuspect, h]
      rw [trkChecks, noRun_iff.2 (not_not.2 hrun), hcal, guarded_true]
      rfl
    · have hcal : (calibratedOrSuspect s.dev && s.dev.mst.active.isSome) = true := by simp [calibratedOrSuspect, hu, hact]
      rw [trkChecks, noRun_iff.2 (not_not.2 hrun), hcal, tareFits_false hact h, guarded_true, guarded_true]
      rfl
    have checks := trkChecks_passed (ref := ref) hrun hu hact h0 hmax hmod
      (fun d => storeTare s.nv .trk (keyedTare ref t days d) (accept .trk .none d))
    refine ⟨fun hn hfull => go ?_, fun hroom => ?_⟩
    · have : tareRoom s.dev ref = false := by
        rw [tareRoom, hn]
        exact decide_eq_false (Nat.not_lt.2 hfull)
      rw [checks, this]
      rfl
    · have hroom' : tareRoom s.dev ref = true := by
        obtain h | h := hroom
        · simp [tareRoom, Option.isSome_iff_ne_none.2 h]
        · simp [tareRoom, Config.tareSlots, h]
      have passed {now : Nat} (hnow : s.dev.nvc.clock = some now) : guarded .trk (trkChecks ref t s.dev)
          (fun d => storeTare s.nv .trk (keyedTare ref t days d) (accept .trk .none d)) s.dev =
          storeTare s.nv .trk ⟨ref, t, .keyed, r.d, none, none, some now, days⟩ (acceptedAs .trk .none s.dev) := by
        rw [checks, hroom', clockSet_iff.2 (by rw [hnow]; simp), guarded_true, guarded_true, guarded_nil, accept_eq, keyedTare,
          division, hact, hnow]
        rfl
      refine ⟨fun hclock => go ?_, fun now slot hnow hslot => go ((passed hnow).trans (storeTare_write ?_ hq)),
        fun now hnow hn hnone => go ((passed hnow).trans (storeTare_full ?_ rfl))⟩
      · rw [checks, hroom', guarded_true, clockSet, hclock]
        rfl
      · obtain ⟨old, hold⟩ | ⟨hn, hfree⟩ := hslot
        · exact tareSlotFor_held hold
        · exact (tareSlotFor_free hn).trans hfree
      · exact (tareSlotFor_free hn).trans hnone
  · obtain h | h | h := h
    · simp only [doTrk, h, refuse_eq]
    · simp only [doTrk, h, refuse_eq]
      split <;> trivial
    · simp only [doTrk, h, refuse_eq]
      split <;> trivial
  · match fs, h with
    | [], _ => rfl
    | [_], _ => rfl
    | [_, _], _ => rfl
    | _ :: _ :: _ :: _ :: _, _ => rfl
  · simp only [doTrd, hr, he, dropTare, setStage_eq, accept_eq]
    rw [request_eq _ (by exact hq)]
  · simp only [doTrd, hr, hn, refuse_eq]

end Sys2Proof.Machine
end

section
/-! PROOF. First writes of long commands, settings, journal streams, and the audit records of commits and verification runs. -/

namespace Sys2Proof.Machine

open Sys2Proof.Safety

/-! ### Records as they are made (R134, R135, R142) -/

theorem suspect_beq (d : Device) : (d.mst.state == .suspect) = decide (d.mst.state = .suspect) := by
  cases d.mst.state <;> rfl

/-- A record is made, or first that of an owed TORN. -/
theorem makeRecord_eq {nv : NvStore} {x : Draft} {d : Device} (hq : QueueServed d) : makeRecord nv x d = ticketMade nv x d := by
  unfold makeRecord ticketMade
  cases h : d.txu.owedTorn with
  | none => simp only [makeOwn, requestJournal, setStage_eq, request_eq _ hq, suspect_beq, h]
  | some n => simp only [requestJournal, setStage_eq, request_eq _ hq, tornRecord]

theorem voidable_iff (nv : NvStore) (n : Nat) : voidable nv n = true ↔
    (∃ r, nv.ticket n = some r ∧ match r.body with
      | .ticket .. => True
      | .onepass .. => True
      | .gross .. => True
      | _ => False) ∧ ¬∃ r ∈ nv.tickets, r.body = .void n := by
  have held : (match nv.ticket n with
      | some r => r.body.isTicket
      | none => false) = true ↔ ∃ r, nv.ticket n = some r ∧ match r.body with
        | .ticket .. => True
        | .onepass .. => True
        | .gross .. => True
        | _ => False := by
    cases nv.ticket n with
    | none => simp
    | some r =>
      obtain ⟨number, body, time, counter, check⟩ := r
      cases body <;> simp [JournalBody.isTicket]
  have voided : nv.tickets.any (fun r => match r.body with
      | .void k => k == n
      | _ => false) = true ↔ ∃ r ∈ nv.tickets, r.body = .void n := by
    rw [List.any_eq_true]
    refine exists_congr fun r => and_congr_right fun _ => ?_
    cases r.body <;> simp
  refine Bool.and_eq_true_iff.trans (and_congr held ?_)
  rw [Bool.not_eq_true', ← Bool.not_eq_true]
  exact not_congr voided

/-! ### Settings (R190, section 10.3) -/

/-- A number setting takes each value in its range and no other. -/
theorem map_setting {lo hi : Nat} (h : hi ≤ 150000) (put : Nat → Settings) (v : Text) :
    (∀ n, lo ≤ n → n ≤ hi → (readRange lo hi (tNat n)).map put = some (put n)) ∧
    (readRange lo hi v = none → (readRange lo hi v).map put = none) :=
  ⟨fun n h1 h2 => by rw [readRange_tNat h1 h2 (by omega), Option.map_some], fun hn => by rw [hn, Option.map_none]⟩

theorem readTenths_point : ∀ n, n ≤ 100 → readTenths (tNat (n / 10) ++ ['.'] ++ tNat (n % 10)) = some n := by decide

theorem readTenths_whole : ∀ n, n ≤ 10 → readTenths (tNat n) = some (10 * n) := by decide

theorem assign_setl {x : Settings} {v : Text} {n : Nat} (h : readTenths v = some n) :
    SettingItem.assign x v .setl = if 5 ≤ n ∧ n ≤ 100 then some { x with setl := n } else none := by
  rw [SettingItem.assign, h]

theorem assign_setl_range {x y : Settings} {v : Text} (h : SettingItem.assign x v .setl = some y) :
    5 ≤ y.setl ∧ y.setl ≤ 100 ∧ y = { x with setl := y.setl } := by
  cases hv : readTenths v with
  | none =>
    rw [SettingItem.assign, hv] at h
    cases h
  | some n =>
    rw [assign_setl hv] at h
    split at h
    next hn =>
      obtain rfl := Option.some.inj h
      exact ⟨hn.1, hn.2, rfl⟩
    next => cases h

theorem readRate_bits (r : Rate) : readRate (tNat r.bits) = some r := by cases r <;> decide

theorem readRate_none {v : Text} (h : ∀ r : Rate, v ≠ tNat r.bits) : readRate v = none := by
  simp only [readRate, List.find?_eq_none, beq_iff_eq]
  exact fun r _ hr => h r hr.symm

theorem readParity_text (p : Parity) : readParity p.text = some p := by cases p <;> decide

theorem readParity_none {v : Text} (h : ∀ p : Parity, v ≠ p.text) : readParity v = none := by
  simp only [readParity, List.find?_eq_none, beq_iff_eq]
  exact fun p _ hp => h p hp.symm

theorem readSettings_item (x : Settings) (seen : List SettingItem) (i : SettingItem) (v : Text) (rest : List Text) :
    readSettings x seen (i.text :: v :: rest) =
      if i ∈ seen then none else (i.assign x v).bind fun y => readSettings y (i :: seen) rest := by
  rw [readSettings, readSettingItem_text]
  dsimp only
  split
  · rfl
  · cases i.assign x v <;> rfl

/-! ### VCL, VOD, JEX and SET -/

theorem doJex_eq {nv : NvStore} {d : Device} {n hi : Nat} (hn : n < 10 ^ 40) (hhi : nv.newest = some hi) (hq : QueueServed d) :
    doJex [tNat n] nv d =
    if n < d.txu.exportMark ∨ hi < n then refused .jex .rng d
    else if n = d.txu.exportMark then endedWith '=' .jex [tNat n, tNat (hi - n)] (acceptedAs .jex .none d)
    else atStage (.exportWrite n) (requested ⟨.longOp, exportWrite nv n⟩ (acceptedAs .jex .none d)) := by
  simp only [doJex, readNat_tNat hn]
  by_cases h : n < d.txu.exportMark ∨ hi < n
  · have : exportable nv d.txu.exportMark n = false := by
      rw [exportable, hhi, Bool.eq_false_iff, ne_eq, Bool.and_eq_true, decide_eq_true_iff, decide_eq_true_iff]
      omega
    rw [this, if_pos h]
    rfl
  · have : exportable nv d.txu.exportMark n = true := by
      rw [exportable, hhi, Bool.and_eq_true, decide_eq_true_iff, decide_eq_true_iff]
      omega
    rw [this, if_neg h, if_pos rfl, moveExport]
    refine if_congr Iff.rfl ?_ ?_
    · rw [complete_eq _ (g := .jex) rfl, NvStore.unexported, hhi]
      rfl
    · rw [setStage_eq, request_eq _ (by exact hq)]
      rfl

/-- Settles O25: records, export and settings as their commands are taken, and the form of the settings' fields. -/
theorem firstWrites : Obligations.FirstWrites := by
  refine ⟨fun s hl hq => ?_, fun s hl hq => ⟨fun n hi hn hhi => act_long hl (doJex_eq hn hhi hq), fun n hn hnone => act_long hl ?_,
    fun fs new h0 hnew => act_long hl ?_, fun fs h => act_long hl ?_⟩,
    fun x seen => ⟨rfl, fun f => rfl, fun f v rest hf => ?_, readSettings_item x seen⟩, fun x v => ?_⟩
  · intro checked numbered writes
    have made (g : Tag) (b : DraftBody) (body : JournalBody) (hbody : ∀ u, recordBody u ⟨b, none, false⟩ = body) :
        makeRecord s.nv ⟨b, none, false⟩ (accept g .none s.dev) = writes g b body := by
      rw [makeRecord_eq (by exact hq), accept_eq]
      unfold ticketMade
      rw [hbody]
      rfl
    refine ⟨fun n h1 h2 => ⟨fun hn => act_long hl ?_, fun slot v hv => act_long hl ?_⟩,
      fun n h1 h2 => ?_, fun f hf => act_long hl ?_, fun f hf => act_long hl ?_, fun fs h => ⟨act_long hl ?_, act_long hl ?_⟩⟩
    · simp only [doVcl, readNumber_tNat h1 h2, hn]
      rw [← List.append_nil (issueChecks s.nv s.dev)]
      exact guarded_issue s.nv fun _ _ _ _ => rfl
    · simp only [doVcl, readNumber_tNat h1 h2, hv]
      rw [← List.append_nil (issueChecks s.nv s.dev)]
      exact guarded_issue s.nv fun _ _ _ _ => made _ _ _ fun _ => rfl
    · intro held voided
      have hread : doVod [tNat n] s.nv s.dev = guarded .vod (issueChecks s.nv s.dev ++ [(voidable s.nv n, .rng)])
          (fun d => makeRecord s.nv ⟨.void n, none, false⟩ (accept .vod .none d)) s.dev := by
        simp only [doVod, Config.ticketCap, readRange_tNat h1 h2 (by omega)]
      refine ⟨fun h => act_long hl ?_, fun h => act_long hl ?_⟩
      · rw [hread, (voidable_iff s.nv n).2 h]
        exact guarded_issue s.nv fun _ _ _ _ => made _ _ _ fun _ => rfl
      · have hno : voidable s.nv n = false := by
          rw [Bool.eq_false_iff]
          intro hv
          obtain ⟨hh, hnv⟩ := (voidable_iff s.nv n).1 hv
          exact h.elim (fun h => h hh) hnv
        rw [hread, hno]
        exact guarded_issue s.nv fun _ _ _ _ => rfl
    · simp only [doVcl, hf, refuse_eq]
    · simp only [doVod, Config.ticketCap, hf, refuse_eq]
    · match fs, h with
      | [], _ => rfl
      | _ :: _ :: _, _ => rfl
    · match fs, h with
      | [], _ => rfl
      | _ :: _ :: _, _ => rfl
  · have : exportable s.nv s.dev.txu.exportMark n = false := by rw [exportable, hnone]
    simp only [doJex, readNat_tNat hn, this, Bool.false_eq_true, if_false, refuse_eq]
  · simp only [doSet, if_neg h0, hnew, setStage_eq, accept_eq]
    rw [request_eq _ (by exact hq)]
  · obtain rfl | h := h
    · rfl
    · simp only [doSet, h, refuse_eq, ite_self]
  · rw [readSettings, readSettingItem_none hf]
  · intro number
    refine ⟨map_setting (by decide) _ v, map_setting (by decide) _ v, map_setting (by decide) _ v, map_setting (by decide) _ v,
      map_setting (by decide) _ v, map_setting (by decide) _ v, map_setting (by decide) _ v, map_setting (by decide) _ v,
      map_setting (by decide) _ v, map_setting (by decide) _ v, map_setting (by decide) _ v, map_setting (by decide) _ v,
      map_setting (by decide) _ v, map_setting (by decide) _ v, map_setting (by decide) _ v, map_setting (by decide) _ v,
      fun n h1 h2 => ?_, fun n h1 h2 => ?_, fun y h => assign_setl_range h, fun r => ?_, fun h => ?_, fun p => ?_, fun h => ?_⟩
    · rw [assign_setl (readTenths_point n h2), if_pos ⟨h1, h2⟩]
    · rw [assign_setl (readTenths_whole n h2), if_pos (by omega)]
    · rw [SettingItem.assign, readRate_bits, Option.map_some]
    · rw [SettingItem.assign, readRate_none h, Option.map_none]
    · rw [SettingItem.assign, readParity_text, Option.map_some]
    · rw [SettingItem.assign, readParity_none h, Option.map_none]

/-! ### Journal streams (R146 to R148) -/

theorem numberHeld_iff {nv : NvStore} {lo hi : Nat} (hlo : nv.oldest = some lo) (hhi : nv.newest = some hi) (n : Nat) :
    numberHeld nv n = true ↔ lo ≤ n ∧ n ≤ hi := by
  simp [numberHeld, hlo, hhi]

theorem doJrd_eq {nv : NvStore} {d : Device} {lo hi a c : Nat} (hlo : nv.oldest = some lo) (hhi : nv.newest = some hi)
    (ha : a < 10 ^ 40) (h1 : 1 ≤ c) (h2 : c ≤ 4096) : doJrd [tNat a, tNat c] nv d =
    if a < lo ∨ hi < a then refused .jrd .rng d else acceptedAs .jrd (.stream ⟨.jrd, a, a, c, 0, false⟩) d := by
  simp only [doJrd, readNat_tNat ha, readRange_tNat h1 h2 (by omega), numberHeld_iff hlo hhi]
  by_cases h : a < lo ∨ hi < a
  · rw [if_pos h, if_neg (by omega), refuse_eq]
  · rw [if_neg h, if_pos (by omega)]
    rfl

theorem continueStream_eq {nv : NvStore} {d : Device} {lo hi k c : Nat} (hlo : nv.oldest = some lo) (hhi : nv.newest = some hi) :
    continueStream nv k c d =
    if k < lo then refused .jnx .rng d
    else if hi < k then endedWith '=' .jnx [['-'], ['-'], ['0']] (acceptedAs .jnx .none d)
    else acceptedAs .jnx (.stream ⟨.jnx, k, k, c, 0, false⟩) d := by
  simp only [continueStream, hlo, numberHeld_iff hlo hhi, decide_eq_true_iff]
  by_cases h : k < lo
  · rw [if_pos h, if_pos h, refuse_eq]
  · rw [if_neg h, if_neg h]
    by_cases h' : hi < k
    · rw [if_pos h', if_neg (by omega), complete_eq _ (g := .jnx) rfl]
      rfl
    · rw [if_neg h', if_pos (by omega)]
      rfl

theorem repliesWait_iff (d : Device) : repliesWait d = true ↔ RepliesWait d := by
  rw [repliesWait, Bool.or_eq_true, Bool.not_eq_true', ← Bool.not_eq_true, List.isEmpty_iff, List.any_eq_true]
  refine or_congr Iff.rfl ⟨?_, ?_⟩
  · rintro ⟨h, hm, hf⟩
    cases h with
    | read r => cases hf
    | formed r => exact ⟨r, hm⟩
  · rintro ⟨r, hm⟩
    exact ⟨_, hm, rfl⟩

/-- A stream that may go on: the UART runs, nothing is being sent or waits, and it is not a notice's turn. -/
theorem streamStep_ready {nv : NvStore} {d : Device} {x : Stream} (hx : d.exe.stage = .stream x) (hu : uartOn d = true)
    (hq : d.tx.queue = []) (hp : d.tx.placing = []) (hr : ¬RepliesWait d) (hlong : d.tx.longs = []) (hn : noticeTurn d = false) :
    streamStep nv d = if streamDone nv x then endStream x d else sendItem nv x d := by
  have hwait : repliesWait d = false := Bool.eq_false_iff.2 fun h => hr ((repliesWait_iff d).1 h)
  simp only [streamStep, hx, hu, hq, hp, hwait, hlong, hn, List.isEmpty_nil, Bool.not_false, Bool.and_self, if_true]

theorem streamStep_waits {nv : NvStore} {d : Device} {x : Stream} (hx : d.exe.stage = .stream x)
    (h : d.tx.queue ≠ [] ∨ d.tx.placing ≠ [] ∨ RepliesWait d) : streamStep nv d = d := by
  simp only [streamStep, hx]
  refine if_neg fun hall => ?_
  simp only [Bool.and_eq_true, List.isEmpty_iff, Bool.not_eq_true'] at hall
  obtain ⟨⟨⟨⟨⟨-, hq⟩, hp⟩, hw⟩, -⟩, -⟩ := hall
  obtain h | h | h := h
  · exact h hq
  · exact h hp
  · exact Bool.false_ne_true (hw.symm.trans ((repliesWait_iff d).2 h))

theorem digitsAux_length_le (f n : Nat) (acc : Text) : (digitsAux f n acc).length ≤ f + acc.length := by
  induction f generalizing n acc with
  | zero => rw [digitsAux]; omega
  | succ f ih =>
    rw [digitsAux]
    split
    · rw [List.length_cons]; omega
    · have := ih (n / 10) (Char.ofNat (48 + n % 10) :: acc)
      rw [List.length_cons] at this
      omega

theorem tNat_length_le (n : Nat) : (tNat n).length ≤ 40 := digitsAux_length_le 40 n []

theorem torn_item_length (n : Nat) : (JournalRec.make n .torn none none).item.length ≤ 100 := by
  have h1 := tNat_length_le n
  have h2 := tNat_length_le (textCheck (journalText n .torn none none))
  have htext : (journalText n .torn none none).length = (tNat n).length + 11 := by
    simp [journalText, tRecord, JournalBody.kindText, JournalBody.fields, tOpt, tAbsent, tTorn]
  have hitem : (JournalRec.make n .torn none none).item = journalText n .torn none none ++
      tPad 5 (textCheck (journalText n .torn none none)) := rfl
  rw [hitem, List.length_append, htext, tPad, List.length_append, List.length_replicate]
  omega

/-- A text that fits the empty queue is placed whole. -/
theorem placeText_empty {r : Text} {d : Device} (hu : uartOn d = true) (hq : d.tx.queue = []) (hp : d.tx.placing = [])
    (hr : r ≠ []) (hfit : r.length ≤ 2048) : placeText r false d =
    { d with tx := { d.tx with queue := r, lastNotice := false, sending := d.tx.sending || d.tx.cts } } := by
  have hroom : Config.outputCap - d.tx.queue.length = 2048 := by rw [hq]; rfl
  have hplaced : ({ d.tx with
        queue := d.tx.queue ++ r.take (Config.outputCap - d.tx.queue.length)
        placing := r.drop (Config.outputCap - d.tx.queue.length)
        lastNotice := false } : Tx) = { d.tx with queue := r, lastNotice := false } := by
    rw [hroom, List.take_of_length_le hfit, List.drop_eq_nil_of_le hfit, hq, List.nil_append, ← hp]
  have hsends : (uartOn d && d.tx.cts && !r.isEmpty) = d.tx.cts := by simp [hu, hr]
  calc placeText r false d = startTx { d with tx := { d.tx with queue := r, lastNotice := false } } :=
        congrArg (fun x => startTx { d with tx := x }) hplaced
    _ = _ := congrArg (fun b => { d with tx := { d.tx with queue := r, lastNotice := false, sending := d.tx.sending || b } }) hsends

theorem sendItem_eq {nv : NvStore} {x : Stream} {d : Device} (hu : uartOn d = true) (hq : d.tx.queue = []) (hp : d.tx.placing = [])
    (hfit : (streamItem nv x.next ++ ['\r', '\n']).length ≤ 2048) : sendItem nv x d =
    (let sent := { d with
      tx := { d.tx with queue := streamItem nv x.next ++ ['\r', '\n'], lastNotice := false, sending := d.tx.sending || d.tx.cts },
      exe := { d.exe with stage := .stream { x with next := x.next + 1, left := x.left - 1, sent := x.sent + 1 } } }
     if (nv.ticket x.next).isSome then sent else countReadFailures 1 sent) := by
  rw [sendItem, setStage_eq, placeText_empty (r := streamItem nv x.next ++ tCrLf) (by exact hu) (by exact hq) (by exact hp) (by simp [tCrLf]) hfit]
  rfl

theorem streamDone_iff {nv : NvStore} {lo hi : Nat} (hlo : nv.oldest = some lo) (hhi : nv.newest = some hi) (x : Stream) :
    streamDone nv x = true ↔ x.stop = true ∨ x.left = 0 ∨ ¬(lo ≤ x.next ∧ x.next ≤ hi) := by
  rw [streamDone, Bool.or_eq_true, Bool.or_eq_true, Bool.not_eq_true', ← Bool.not_eq_true, numberHeld_iff hlo hhi, beq_iff_eq, or_assoc]

/-- Settles O26: how a stream begins, waits, sends and ends. -/
theorem journalStreams : Obligations.JournalStreams := by
  refine ⟨fun s hl lo hi hlo hhi _ c h1 h2 => ⟨fun a ha => act_long hl (doJrd_eq hlo hhi ha h1 h2), fun hn => act_long hl ?_,
    fun k hk => act_long hl ?_⟩, fun x s hx h => ?_, fun x g lo hi s hu hexe hq hp hr hlong hn hlo hhi => ?_⟩
  · simp only [doJnx, readRange_tNat h1 h2 (by omega), hn, refuse_eq]
  · simp only [doJnx, readRange_tNat h1 h2 (by omega), hk]
    exact continueStream_eq hlo hhi
  · exact congrArg (fun d => Host.Outcome.next (becomes s d)) (streamStep_waits hx h)
  · have ready : streamStep s.nv s.dev = if streamDone s.nv x then endStream x s.dev else sendItem s.nv x s.dev :=
      streamStep_ready (by rw [hexe]) hu hq hp hr hlong hn
    have go {d : Device} (h : streamStep s.nv s.dev = d) : exec .streamItem s = .next (becomes s d) :=
      congrArg (fun d => Host.Outcome.next (becomes s d)) h
    have goes {d : Device} (h0 : x.stop = false) (h1 : 0 < x.left) (h2 : lo ≤ x.next) (h3 : x.next ≤ hi) (h : sendItem s.nv x s.dev = d) :
        exec .streamItem s = .next (becomes s d) := by
      refine go (ready.trans ((if_neg ?_).trans h))
      rw [streamDone_iff hlo hhi, h0]
      simp only [Bool.false_eq_true, false_or, not_or, not_not]
      exact ⟨by omega, h2, h3⟩
    refine ⟨fun r h0 h1 h2 h3 hrec hfit => goes h0 h1 h2 h3 ?_, fun h0 h1 h2 h3 hrec _ => goes h0 h1 h2 h3 ?_, fun h => go ?_⟩
    · have hitem : streamItem s.nv x.next = r.item := by rw [streamItem, hrec]
      rw [sendItem_eq hu hq hp (by rw [hitem]; exact hfit), hitem, hrec, hexe]
      rfl
    · have hitem : streamItem s.nv x.next = (JournalRec.make x.next .torn none none).item := by rw [streamItem, hrec]
      have hfit : (streamItem s.nv x.next ++ ['\r', '\n']).length ≤ 2048 := by
        have := torn_item_length x.next
        rw [hitem, List.length_append]
        exact Nat.le_trans (Nat.add_le_add_right this 2) (by decide)
      rw [sendItem_eq hu hq hp hfit, hitem, hrec, hexe]
      rfl
    · rw [ready, if_pos ((streamDone_iff hlo hhi x).2 (h.imp_right (Or.imp_right fun h => by omega))), endStream, complete_eq (g := g) _ (by rw [hexe])]
      rfl

end Sys2Proof.Machine
end

section
/-! PROOF. The audit records of commits and verification runs as they begin (R163, R164, R174). -/

namespace Sys2Proof.Machine

open Sys2Proof.Safety

/-! ### The changed items (R164) -/

theorem bne_eq_decide_ne {α : Type} [BEq α] [LawfulBEq α] [DecidableEq α] (a b : α) : (a != b) = decide (a ≠ b) := by
  rw [Bool.eq_iff_iff, bne_iff_ne, decide_eq_true_iff]

theorem filterMap_flagged {α β : Type} (f : α → β) (l : List (α × Bool)) :
    (l.filterMap fun e => if e.2 then some (f e.1) else none) = (l.filter (·.2)).map fun e => f e.1 := by
  rw [← List.filterMap_eq_filter, List.map_filterMap]
  refine congrArg (fun g => l.filterMap g) (funext fun e => ?_)
  obtain ⟨a, _ | _⟩ := e <;> rfl

/-- A field in which the working copy differs from the active record, or any without one. -/
def itemDiffers {α : Type} [DecidableEq α] (active : Option CalRecord) (old : CalRecord → α) (new : α) : Bool := match active with
  | some r => decide (old r ≠ new)
  | none => true

/-- A field that may be absent: different from the active record's, or present without one. -/
def itemComes {α : Type} [DecidableEq α] (active : Option CalRecord) (old : CalRecord → Option α) (new : Option α) : Bool :=
  match active with
  | some r => decide (old r ≠ new)
  | none => new.isSome

theorem recordItems_eq (active : Option CalRecord) (w : WorkCopy) : recordItems (active.map WorkCopy.ofActive) w =
    [(.max, itemComes active (fun r => some r.max) w.max), (.div, itemComes active (fun r => some r.d) w.d),
      (.per, itemDiffers active (·.p) w.p), (.flt, itemDiffers active (·.n) w.n), (.win, itemDiffers active (·.window) w.window),
      (.band, itemDiffers active (·.band) w.band), (.vint, itemDiffers active (·.vint) w.vint),
      (.zcal, itemComes active (fun r => some r.zcal) w.zcal)] := by
  cases active with
  | none => rfl
  | some r => simp only [recordItems, Option.map_some, itemComes, itemDiffers, WorkCopy.ofActive, bne_eq_decide_ne]

theorem slotItems_eq (active : Option CalRecord) (w : WorkCopy) (i : SlotId) :
    slotItems (active.map fun r => r.slots.sel i) (w.slots.sel i) =
    (let c := w.slots.sel i
     [(.cfg, itemDiffers active (fun r => (r.slots.sel i).configured) c.configured),
      (.lcel, itemComes active (fun r => (r.slots.sel i).lcell) c.lcell),
      (.tco, itemDiffers active (fun r => (r.slots.sel i).k) c.k), (.zcnt, itemComes active (fun r => (r.slots.sel i).z) c.z),
      (.tcal, itemComes active (fun r => (r.slots.sel i).tcal) c.tcal), (.span, itemComes active (fun r => (r.slots.sel i).s) c.s),
      (.lref, itemComes active (fun r => (r.slots.sel i).lref) c.lref), (.serl, itemComes active (fun r => (r.slots.sel i).serial) c.serial)]) := by
  cases active with
  | none => rfl
  | some r => simp only [slotItems, Option.map_some, itemComes, itemDiffers, bne_eq_decide_ne]

theorem changedItems_eq (active : Option CalRecord) (w : WorkCopy) : changedItems active w =
    ((recordItems (active.map WorkCopy.ofActive) w).filter (·.2)).map (fun e => .whole e.1) ++
      SlotId.all.flatMap fun i => ((slotItems (active.map fun r => r.slots.sel i) (w.slots.sel i)).filter (·.2)).map fun e => .slot i e.1 := by
  simp only [changedItems, filterMap_flagged]

/-! ### Audit records under the long operation (R165, R174) -/

/-- The record takes the next number and the slot at the write position. -/
theorem appendLong_eq {nv : NvStore} {body : AuditBody} {counter : Nat} {st : Stage} {d : Device} {n : Nat} (hn : d.auu.next = some n)
    (hq : QueueServed d) : appendLong nv body counter st d =
    atStage st (requested ⟨.longOp, .audit d.auu.writePos ⟨n, body, d.nvc.clock, some counter⟩⟩
      { d with auu := { d.auu with
          writePos := if d.auu.writePos ≥ 256 then 1 else d.auu.writePos + 1
          next := if n ≥ 9999999 then none else some (n + 1) } }) := by
  simp only [appendLong, hn, append, setStage_eq]
  exact congrArg (atStage st) (request_eq _ hq)

theorem capacityFits_eq (w : WorkCopy) : capacityFits w = match w.max, w.d with
    | some mx, some dv => decide (mx % dv = 0 ∧ 500 ≤ mx / dv ∧ mx / dv ≤ 10000)
    | _, _ => false := by
  unfold capacityFits
  cases w.max <;> cases w.d <;> simp [Bool.and_assoc, beq_eq_decide]

theorem configuredSlots_iff (w : WorkCopy) :
    (!w.configuredSlots.isEmpty) = true ↔ ¬∀ i ∈ SlotId.all, (w.slots.sel i).configured = false := by
  rw [Bool.not_eq_true', ← Bool.not_eq_true, List.isEmpty_iff, WorkCopy.configuredSlots, List.filter_eq_nil_iff]
  simp only [Bool.not_eq_true]

/-- The slot is configured in the active record. -/
def wasConfigured (active : Option CalRecord) (i : SlotId) : Bool := match active with
  | some r => (r.slots.sel i).configured
  | none => false

theorem slotComplete_iff (active : Option CalRecord) (w : WorkCopy) (i : SlotId) : slotComplete active w i = true ↔
    ¬(wasConfigured active i = false ∧
      ((w.slots.sel i).lcell = none ∨ (w.marks.sel i).zeroCaptured = false ∨ (w.marks.sel i).spanCaptured = false)) := by
  have known : (active.map fun r => (r.slots.sel i).configured).getD false = wasConfigured active i := by cases active <;> rfl
  rw [slotComplete, known, Bool.or_eq_true, Bool.and_eq_true, Bool.and_eq_true, Option.isSome_iff_ne_none, ← Bool.not_eq_true,
    ← Bool.not_eq_true, ← Bool.not_eq_true]
  tauto

theorem slotsComplete_iff (active : Option CalRecord) (w : WorkCopy) : w.configuredSlots.all (slotComplete active w) = true ↔
    ¬∃ i ∈ SlotId.all, (w.slots.sel i).configured = true ∧ wasConfigured active i = false ∧
      ((w.slots.sel i).lcell = none ∨ (w.marks.sel i).zeroCaptured = false ∨ (w.marks.sel i).spanCaptured = false) := by
  simp only [WorkCopy.configuredSlots, List.all_eq_true, List.mem_filter, slotComplete_iff, not_exists, not_and, and_imp]

/-- Settles O28: the checks in order, then the audit record with the next number. -/
theorem commitAndVerifyBegin : Obligations.CommitAndVerifyBegin := by
  intro s hl hq audited
  have appended {g : Tag} {now n counter : Nat} {st : Stage} {body : AuditBody} (hnow : s.dev.nvc.clock = some now)
      (hn : s.dev.auu.next = some n) :
      appendLong s.nv body counter st (accept g .none s.dev) = audited g now n st body counter := by
    rw [appendLong_eq (by exact hn) (by exact hq), accept_eq]
    show _ = atStage st (requested ⟨.longOp, .audit s.dev.auu.writePos ⟨n, body, some now, some counter⟩⟩ _)
    rw [← hnow]
    rfl
  have noFields {t : Tag} {checks : List Text → Device → List (Bool × Code)} {go : Device → Device}
      (hchecks : ∀ f rest d, firstCode (checks (f :: rest) d) = some .rng) {fs : List Text} (h : fs ≠ []) :
      guarded t (checks fs s.dev) go s.dev = refused t .rng s.dev := by
    obtain ⟨f, rest, rfl⟩ := List.exists_cons_of_ne_nil h
    exact guarded_refused (hchecks f rest s.dev) _ _
  refine ⟨fun hr => act_long hl ?_, fun w hr => ?_, fun hv => act_long hl ?_, fun points hv => act_long hl ?_,
    fun fs h => ⟨act_long hl (noFields (fun _ _ _ => rfl) h), act_long hl (noFields (fun _ _ _ => rfl) h)⟩⟩
  · have : runOpen s.dev = false := by rw [runOpen, hr]; rfl
    rw [doCcm, ccmChecks, this]
    rfl
  · intro capacity known differs comes whole ofSlot items
    have hwork : workCopy s.dev = w := by rw [workCopy, hr]; rfl
    have hopen : runOpen s.dev = true := (runOpen_iff _).2 (by rw [hr]; simp)
    have hitems : changedItems s.dev.mst.active w = items := by
      simp only [changedItems_eq, recordItems_eq, slotItems_eq]
      rfl
    refine act_long hl ?_
    rw [doCcm, ccmChecks, hwork, hopen]
    refine guarded_true.trans (guarded_true.trans (guarded_check (by simp) fun _ => ?_))
    cases hnow : s.dev.nvc.clock with
    | none =>
      rw [clockSet, hnow]
      rfl
    | some now =>
      rw [clockSet, hnow]
      refine guarded_true.trans (guarded_check (by rw [capacityFits_eq]; exact (Bool.not_eq_false _).symm.to_iff) fun _ => ?_)
      refine guarded_check (configuredSlots_iff w) fun _ => guarded_check (slotsComplete_iff _ w) fun _ => ?_
      refine guarded_check (decide_eq_true_iff.trans Nat.not_le.symm) fun _ => ?_
      cases hn : s.dev.auu.next with
      | none => rfl
      | some n =>
        refine guarded_true.trans ?_
        rw [guarded_nil, beginCommit, hwork, hitems, hnow, appended hnow hn]
        rfl
  · have : verifOpen s.dev = false := by rw [verifOpen, hv]; rfl
    rw [doVcm, vcmChecks, this]
    rfl
  · have hopen : verifOpen s.dev = true := (verifOpen_iff _).2 (by rw [hv]; simp)
    rw [doVcm, vcmChecks, hopen]
    refine guarded_true.trans (guarded_true.trans ?_)
    cases hnow : s.dev.nvc.clock with
    | none =>
      rw [clockSet, hnow]
      rfl
    | some now =>
      rw [clockSet, hnow]
      refine guarded_true.trans ?_
      cases hn : s.dev.auu.next with
      | none => rfl
      | some n =>
        refine guarded_true.trans ?_
        rw [guarded_nil, beginClose, hv, hnow, hn, appended hnow hn]
        rfl

end Sys2Proof.Machine
end

section
/-! PROOF. Run captures: the checks of CZE and CSP, the raw window, and what a stable window writes into the working copy. -/

namespace Sys2Proof.Machine

open Sys2Proof.Safety

/-! ### Lists of counts -/

theorem Quad.ext_get {α : Type} {p q : Quad α} (h : ∀ i, p.get i = q.get i) : p = q := by
  obtain ⟨a, b, c, e⟩ := p
  obtain ⟨a', b', c', e'⟩ := q
  exact Quad.mk.injEq .. ▸ ⟨h .i0, h .i1, h .i2, h .i3⟩

theorem Slots.ext_sel {α : Type} {p q : Slots α} (h : ∀ i, p.sel i = q.sel i) : p = q :=
  Quad.ext_get fun l => Quad.ext_get fun a => h ⟨l, a⟩

theorem maxFrom_bounds (x : Int) (l : List Int) : maxFrom x l ∈ x :: l ∧ ∀ a ∈ x :: l, a ≤ maxFrom x l := by
  induction l generalizing x with
  | nil => simp [maxFrom]
  | cons y l ih =>
    obtain ⟨hm, hle⟩ := ih (max x y)
    have hstep : maxFrom x (y :: l) = maxFrom (max x y) l := rfl
    have hmax : max x y ≤ maxFrom (max x y) l := hle _ List.mem_cons_self
    rw [hstep]
    refine ⟨?_, fun a ha => ?_⟩
    · obtain hm | hm := List.mem_cons.1 hm
      · rw [hm]
        rcases max_choice x y with h | h <;> simp [h]
      · simp [hm]
    · simp only [List.mem_cons] at ha
      obtain rfl | rfl | ha := ha
      · exact (le_max_left _ _).trans hmax
      · exact (le_max_right _ _).trans hmax
      · exact hle a (List.mem_cons_of_mem _ ha)

theorem minFrom_bounds (x : Int) (l : List Int) : minFrom x l ∈ x :: l ∧ ∀ a ∈ x :: l, minFrom x l ≤ a := by
  induction l generalizing x with
  | nil => simp [minFrom]
  | cons y l ih =>
    obtain ⟨hm, hle⟩ := ih (min x y)
    have hstep : minFrom x (y :: l) = minFrom (min x y) l := rfl
    have hmin : minFrom (min x y) l ≤ min x y := hle _ List.mem_cons_self
    rw [hstep]
    refine ⟨?_, fun a ha => ?_⟩
    · obtain hm | hm := List.mem_cons.1 hm
      · rw [hm]
        rcases min_choice x y with h | h <;> simp [h]
      · simp [hm]
    · simp only [List.mem_cons] at ha
      obtain rfl | rfl | ha := ha
      · exact hmin.trans (min_le_left _ _)
      · exact hmin.trans (min_le_right _ _)
      · exact hle a (List.mem_cons_of_mem _ ha)

/-- The spread of a list is at most c exactly when no two of its entries differ by more. -/
theorem spread_le_iff {l : List Int} (h : l ≠ []) (c : Int) :
    ∃ s, spread l = some s ∧ (s ≤ c ↔ ∀ a ∈ l, ∀ b ∈ l, a - b ≤ c) := by
  obtain ⟨x, l, rfl⟩ := List.exists_cons_of_ne_nil h
  obtain ⟨hmax, hle⟩ := maxFrom_bounds x l
  obtain ⟨hmin, hge⟩ := minFrom_bounds x l
  refine ⟨_, rfl, fun hs a ha b hb => ?_, fun hab => hab _ hmax _ hmin⟩
  have := hle a ha
  have := hge b hb
  omega

/-! ### The checks (R158, R161) -/

theorem readModule_text (m : Ix) : readModule (tNat (m.toNat + 1)) = some m := by cases m <;> decide

theorem doCze_eq {nv : NvStore} {d : Device} {w : WorkCopy} (hr : d.mst.run = some w) : doCze [] nv d =
    if d.lsv.lane ≠ .clear ∧ d.lsv.lane ≠ .init then refused .cze .lan d
    else if (∀ i ∈ SlotId.all, (w.slots.sel i).configured = false) then refused .cze .inc d
    else acceptedAs .cze (.runWait .cze (d.now + 1000 * d.nvc.settings.cto) []) d := by
  have hopen : runOpen d = true := (runOpen_iff _).2 (by rw [hr]; simp)
  have hwork : workCopy d = w := by rw [workCopy, hr]; rfl
  rw [doCze, czeChecks, hopen, hwork]
  refine guarded_true.trans (guarded_true.trans (guarded_check (laneEither_iff _ _) fun _ => guarded_check (configuredSlots_iff w) fun _ => ?_))
  rw [guarded_nil, accept_eq, captureDeadlineFrom, Nat.mul_comm]

theorem doCsp_eq {nv : NvStore} {d : Device} {w : WorkCopy} (hr : d.mst.run = some w) (m : Ix) {x : Nat} (hx : x < 10 ^ 40) :
    doCsp [tNat (m.toNat + 1), tNat x] nv d =
    (let is := (SlotId.ofLine m).filter fun i => (w.slots.sel i).configured
     if is = [] then refused .csp .rng d
     else if (∃ i ∈ is, (w.slots.sel i).lcell = none) then refused .csp .inc d
     else if x < 1000 ∨ (is.map fun i => (w.slots.sel i).lcell.getD 0).sum < 100 * x then refused .csp .rng d
     else if (∃ i ∈ is, (w.slots.sel i).z = none ∨ (w.slots.sel i).tcal = none) then refused .csp .inc d
     else acceptedAs .csp (.runWait (.csp m x) (d.now + 1000 * d.nvc.settings.cto) []) d) := by
  simp only [doCsp, hr, readModule_text, readNat_tNat hx]
  refine guarded_check (by simp [moduleSlots]) fun _ => guarded_check ?_ fun _ => guarded_check ?_ fun _ => guarded_check ?_ fun _ => ?_
  · simp only [List.all_eq_true, Option.isSome_iff_ne_none, moduleSlots, not_exists, not_and, ne_eq]
  · rw [Bool.and_eq_true, decide_eq_true_iff, decide_eq_true_iff, moduleSlots]
    omega
  · simp only [List.all_eq_true, Bool.and_eq_true, Option.isSome_iff_ne_none, moduleSlots, not_exists, not_and, not_or, ne_eq]
  · rw [guarded_nil, accept_eq, captureDeadlineFrom, Nat.mul_comm]

/-! ### The raw window (R157) -/

theorem rawCounts_eq {sr : SampleRecord} {row : Slots (Option Int)} (h : ∀ i, row.sel i = (sr.slots.sel i).raw) : rawCounts sr = row :=
  Slots.ext_sel fun i => by rw [rawCounts, Slots.sel_tab, h]

theorem slotQualifies_iff (d : Device) (sr : SampleRecord) (i : SlotId) : slotQualifies d sr i = true ↔
    (sr.slots.sel i).outcome = .good ∧ (∃ f, (sr.slots.sel i).flags = some f ∧ f.ovl = false ∧ f.tmp = false) ∧
      (slotOf d i).serialHigh ≠ none ∧ (slotOf d i).serialLow ≠ none ∧ (sr.slots.sel i).temp ≠ none := by
  have hflags : ((sr.slots.sel i).flags.map fun f => !f.ovl && !f.tmp).getD false = true ↔
      ∃ f, (sr.slots.sel i).flags = some f ∧ f.ovl = false ∧ f.tmp = false := by
    cases (sr.slots.sel i).flags <;> simp
  have hserial : (serialOf (slotOf d i)).isSome = true ↔ (slotOf d i).serialHigh ≠ none ∧ (slotOf d i).serialLow ≠ none := by
    unfold serialOf
    cases (slotOf d i).serialHigh <;> cases (slotOf d i).serialLow <;> simp
  simp only [slotQualifies, Bool.and_eq_true, beq_iff_eq, hflags, hserial, Option.isSome_iff_ne_none, and_assoc]

theorem rawStable_iff {k : Nat} (hk : 0 < k) (w : WorkCopy) (win : List (Slots (Option Int))) : rawStable k w win = true ↔
    win.length = k ∧ ∀ i ∈ slotsUsed w, ∀ a ∈ win, ∀ b ∈ win, (a.sel i).getD 0 - (b.sel i).getD 0 ≤ 24 := by
  rw [rawStable, Bool.and_eq_true, beq_iff_eq, List.all_eq_true]
  refine and_congr_right fun hlen => forall₂_congr fun i _ => ?_
  have hne : slotRaws win i ≠ [] := by
    intro h
    have : (slotRaws win i).length = win.length := List.length_map _
    rw [h, List.length_nil] at this
    omega
  obtain ⟨s, hs, hiff⟩ := spread_le_iff hne 24
  rw [hs]
  refine decide_eq_true_iff.trans (hiff.trans ?_)
  simp only [slotRaws, List.forall_mem_map]

theorem rawLength_eq (d : Device) : rawLength d = 2000 / (match d.mst.active with
    | some r => r.p
    | none => 10) := by
  unfold rawLength periodMs
  cases d.mst.active <;> rfl

theorem rawSum_eq (win : List (Slots (Option Int))) (i : SlotId) : sumInt (slotRaws win i) = rawSum win i := sumInt_eq _

theorem serialOf_eq (x : Slot) : serialOf x = match x.serialHigh, x.serialLow with
    | some hi, some lo => some (hi * 4096 + lo)
    | _, _ => none := rfl

theorem reformZero_formed {x : WorkCopy} (h : ∃ i, (x.marks.sel i).zeroCaptured = true) : reformZero x =
    { x with zcal := some ((slotsUsed x).map fun i => zeroPart (x.slots.sel i) (x.marks.sel i)).sum } := by
  obtain ⟨i, hi⟩ := h
  have : x.holdsZero = true := List.any_eq_true.2 ⟨i, SlotId.mem_all i, hi⟩
  rw [reformZero, this, ← sumInt_eq]
  rfl

theorem reformZero_kept {x : WorkCopy} (h : ∀ i, (x.marks.sel i).zeroCaptured = false) : reformZero x = x := by
  have : x.holdsZero = false := by simp [WorkCopy.holdsZero, h]
  rw [reformZero, this]
  rfl

theorem slotsUsed_congr {x w : WorkCopy} (h : ∀ i, (x.slots.sel i).configured = (w.slots.sel i).configured) : slotsUsed x = slotsUsed w := by
  unfold slotsUsed
  exact congrArg (fun p => SlotId.all.filter p) (funext h)

theorem mem_slotsUsed {w : WorkCopy} {i : SlotId} : i ∈ slotsUsed w ↔ (w.slots.sel i).configured = true := by
  rw [slotsUsed, List.mem_filter]
  exact and_iff_right (SlotId.mem_all i)

/-! ### Zero capture (R159, R160) -/

/-- The working copy with the zero of every configured slot taken, before Zcal is formed. -/
def zeroTaken (d : Device) (sr : SampleRecord) (win : List (Slots (Option Int))) (w : WorkCopy) : WorkCopy :=
  { w with
    slots := Slots.tab fun i => zeroSlot d sr win i (w.slots.sel i)
    marks := Slots.tab fun i => zeroMarks win i (w.slots.sel i) (w.marks.sel i) }

theorem zeroTaken_unused {d : Device} {sr : SampleRecord} {win : List (Slots (Option Int))} {w : WorkCopy} {i : SlotId}
    (h : (w.slots.sel i).configured = false) :
    (zeroTaken d sr win w).slots.sel i = w.slots.sel i ∧ (zeroTaken d sr win w).marks.sel i = w.marks.sel i := by
  simp only [zeroTaken, Slots.sel_tab, zeroSlot, zeroMarks, h, Bool.false_eq_true, if_false, and_self]

theorem zeroTaken_used {d : Device} {sr : SampleRecord} {win : List (Slots (Option Int))} {w : WorkCopy} {i : SlotId}
    (h : (w.slots.sel i).configured = true) :
    (zeroTaken d sr win w).slots.sel i = { w.slots.sel i with
      z := some (roundDiv (rawSum win i) win.length), tcal := (sr.slots.sel i).temp, serial := serialOf (slotOf d i) } ∧
    (zeroTaken d sr win w).marks.sel i = { w.marks.sel i with zeroCaptured := true, zeroMean := some (rawSum win i, win.length) } := by
  simp only [zeroTaken, Slots.sel_tab, zeroSlot, zeroMarks, h, if_true, rawSum_eq, and_self]

theorem slotsUsed_zeroTaken (d : Device) (sr : SampleRecord) (win : List (Slots (Option Int))) (w : WorkCopy) :
    slotsUsed (zeroTaken d sr win w) = slotsUsed w :=
  slotsUsed_congr fun i => by
    cases h : (w.slots.sel i).configured with
    | false => rw [(zeroTaken_unused h).1, h]
    | true => rw [(zeroTaken_used h).1]; exact h

/-- A zero capture of a stable window. -/
theorem captureZero_takes {d : Device} {sr : SampleRecord} {win : List (Slots (Option Int))} {w : WorkCopy} {g : Tag}
    (hg : d.exe.slot = some g) (hk : 0 < win.length) (hused : slotsUsed w ≠ []) :
    ∃ (x : WorkCopy) (u : SlotId → Int),
      x = { w with slots := x.slots, marks := x.marks, zcal := some ((slotsUsed w).map u).sum } ∧ (∀ i, ZeroPart x i (u i)) ∧
      (∀ i, (w.slots.sel i).configured = false → x.slots.sel i = w.slots.sel i ∧ x.marks.sel i = w.marks.sel i) ∧
      (∀ i ∈ slotsUsed w, ∃ z, Nearest (rawSum win i) win.length z ∧
        x.slots.sel i = { w.slots.sel i with z := some z, tcal := (sr.slots.sel i).temp, serial := serialOf (slotOf d i) } ∧
        x.marks.sel i = { w.marks.sel i with zeroCaptured := true, zeroMean := some (rawSum win i, win.length) }) ∧
      captureZero sr win w d = endedWith '=' g (tOpt tHundredths x.zcal :: (slotsUsed w).flatMap (fun i => let c := x.slots.sel i
        [tOpt tInt c.z, tOpt tInt c.tcal, tOpt tNat c.serial, if c.serial = expectedSerial d i then ['-'] else ['D', 'I', 'F', 'F']]))
        { d with mst := { d.mst with run := some x } } := by
  have hmarked : ∃ i, ((zeroTaken d sr win w).marks.sel i).zeroCaptured = true := by
    obtain ⟨i, hi⟩ := List.exists_mem_of_ne_nil _ hused
    exact ⟨i, by rw [(zeroTaken_used (mem_slotsUsed.1 hi)).2]⟩
  have hformed := reformZero_formed hmarked
  refine ⟨reformZero (zeroTaken d sr win w), fun i => zeroPart ((zeroTaken d sr win w).slots.sel i) ((zeroTaken d sr win w).marks.sel i),
    ?_, fun i => ?_, fun i hi => ?_, fun i hi => ?_, ?_⟩
  · rw [hformed, slotsUsed_zeroTaken]
    rfl
  · rw [hformed]
    exact zeroPart_nearest (zeroTaken d sr win w) i
  · rw [hformed]
    exact zeroTaken_unused hi
  · rw [hformed]
    exact ⟨_, nearest_roundDiv _ hk, zeroTaken_used (mem_slotsUsed.1 hi)⟩
  · have hfields (x : WorkCopy) : zeroFields d x = fun i => let c := x.slots.sel i
        [tOpt tInt c.z, tOpt tInt c.tcal, tOpt tNat c.serial, if c.serial = expectedSerial d i then ['-'] else ['D', 'I', 'F', 'F']] := by
      funext i
      simp only [zeroFields, tFlag, bne_iff_ne, ne_eq, ite_not]
      rfl
    have hstart : captureZero sr win w d = complete (tHundredths ((reformZero (zeroTaken d sr win w)).zcal.getD 0) ::
        (slotsUsed (reformZero (zeroTaken d sr win w))).flatMap (zeroFields d (reformZero (zeroTaken d sr win w))))
        (setWork (reformZero (zeroTaken d sr win w)) d) := rfl
    have hsame : slotsUsed (reformZero (zeroTaken d sr win w)) = slotsUsed w := by
      rw [hformed]
      exact slotsUsed_zeroTaken d sr win w
    rw [hstart, complete_eq (d := setWork _ d) (g := g) _ (by exact hg), hsame, hfields, hformed]
    rfl

/-! ### Span capture (R162) -/

/-- The working copy with the span of a module taken, before Zcal is formed. -/
def spanTaken (m : Ix) (s lref : Nat) (w : WorkCopy) : WorkCopy :=
  { w with
    slots := Slots.tab fun i => if i.line = m then spanSlot s lref (w.slots.sel i) else w.slots.sel i
    marks := Slots.tab fun i => if i.line = m then spanMarks (w.slots.sel i) (w.marks.sel i) else w.marks.sel i }

theorem mem_moduleSlots {w : WorkCopy} {m : Ix} {i : SlotId} :
    i ∈ (SlotId.ofLine m).filter (fun i => (w.slots.sel i).configured) ↔ i.line = m ∧ (w.slots.sel i).configured = true := by
  have hline : i ∈ SlotId.ofLine m ↔ i.line = m := by
    obtain ⟨l, a⟩ := i
    cases m <;> cases l <;> cases a <;> decide
  rw [List.mem_filter, hline]

theorem spanTaken_other {m : Ix} {s lref : Nat} {w : WorkCopy} {i : SlotId} (h : ¬(i.line = m ∧ (w.slots.sel i).configured = true)) :
    (spanTaken m s lref w).slots.sel i = w.slots.sel i ∧ (spanTaken m s lref w).marks.sel i = w.marks.sel i := by
  simp only [spanTaken, Slots.sel_tab, spanSlot, spanMarks]
  by_cases hm : i.line = m
  · have hc : ¬(w.slots.sel i).configured = true := fun hc => h ⟨hm, hc⟩
    simp only [hm, if_true, if_neg hc, and_self]
  · simp only [hm, if_false, and_self]

theorem spanTaken_module {m : Ix} {s lref : Nat} {w : WorkCopy} {i : SlotId} (h : i.line = m ∧ (w.slots.sel i).configured = true) :
    (spanTaken m s lref w).slots.sel i = { w.slots.sel i with s := some s, lref := some lref } ∧
      (spanTaken m s lref w).marks.sel i = { w.marks.sel i with spanCaptured := true } := by
  obtain ⟨hm, hc⟩ := h
  simp only [spanTaken, Slots.sel_tab, spanSlot, spanMarks, hm, hc, if_true, and_self]

theorem spanTaken_same (m : Ix) (s lref : Nat) (w : WorkCopy) (i : SlotId) :
    ((spanTaken m s lref w).slots.sel i).configured = (w.slots.sel i).configured ∧
      ((spanTaken m s lref w).marks.sel i).zeroCaptured = (w.marks.sel i).zeroCaptured := by
  by_cases h : i.line = m ∧ (w.slots.sel i).configured = true
  · obtain ⟨hs, hm⟩ := spanTaken_module (s := s) (lref := lref) h
    rw [hs, hm]
    exact ⟨rfl, rfl⟩
  · obtain ⟨hs, hm⟩ := spanTaken_other (s := s) (lref := lref) h
    rw [hs, hm]
    exact ⟨rfl, rfl⟩

/-- Δc of a slot over a raw window, as a numerator over the window's length. -/
theorem spanDelta_eq (sr : SampleRecord) (win : List (Slots (Option Int))) (i : SlotId) (c : SlotCal) : spanDelta sr win i c =
    rawSum win i - (c.z.getD 0 + roundDiv (c.k * ((sr.slots.sel i).temp.getD 0 - c.tcal.getD 0)) 100) * win.length := by
  rw [spanDelta, rawSum_eq, tempOffset]

/-- A span capture of a stable window. -/
theorem captureSpan_takes {d : Device} {sr : SampleRecord} {win : List (Slots (Option Int))} {w : WorkCopy} {g : Tag}
    (hg : d.exe.slot = some g) (hk : 0 < win.length) (m : Ix) (load : Nat) :
    let is := (SlotId.ofLine m).filter fun i => (w.slots.sel i).configured
    ∃ (o : SlotId → Int) (span : Int),
      (∀ i ∈ is, Nearest ((w.slots.sel i).k * ((sr.slots.sel i).temp.getD 0 - (w.slots.sel i).tcal.getD 0)) 100 (o i)) ∧
      let delta (i : SlotId) : Int := rawSum win i - ((w.slots.sel i).z.getD 0 + o i) * win.length
      Nearest ((is.map delta).sum) win.length span ∧
      (span < 1000 ∨ 2000000 < span → captureSpan m load sr win w d = endedWith '#' g [['R', 'N', 'G'], tInt span] d) ∧
      (1000 ≤ span → span ≤ 2000000 → ∃ (x : WorkCopy) (u h : SlotId → Int),
        x = { w with slots := x.slots, marks := x.marks, zcal := x.zcal } ∧ (∀ i, ZeroPart x i (u i)) ∧
        ((∃ i, (w.marks.sel i).zeroCaptured = true) → x.zcal = some ((slotsUsed w).map u).sum) ∧
        ((∀ i, (w.marks.sel i).zeroCaptured = false) → x.zcal = w.zcal) ∧
        (∀ i, i ∉ is → x.slots.sel i = w.slots.sel i ∧ x.marks.sel i = w.marks.sel i) ∧
        (∀ i ∈ is, x.slots.sel i = { w.slots.sel i with s := some span.toNat, lref := some (100 * load) } ∧
          x.marks.sel i = { w.marks.sel i with spanCaptured := true }) ∧
        (∀ i ∈ is, Nearest (100 * delta i) win.length (h i)) ∧
        captureSpan m load sr win w d = endedWith '=' g ([tNat (m.toNat + 1), tNat load, tInt span] ++ is.map fun i => tHundredths (h i))
          { d with mst := { d.mst with run := some x } }) := by
  intro is
  let span : Int := roundDiv ((is.map fun i => spanDelta sr win i (w.slots.sel i)).sum) win.length
  let x : WorkCopy := reformZero (spanTaken m span.toNat (100 * load) w)
  have hstart : captureSpan m load sr win w d = if span < 1000 ∨ span > 2000000 then failWith .rng [tInt span] d
      else complete ([tNat (m.toNat + 1), tNat load, tInt span] ++
        (is.map fun i => spanDelta sr win i (w.slots.sel i)).map fun c => tHundredths (roundDiv (100 * c) win.length)) (setWork x d) := by
    unfold captureSpan
    simp only [sumInt_eq]
    rfl
  have hparts : x.slots = (spanTaken m span.toNat (100 * load) w).slots ∧ x.marks = (spanTaken m span.toNat (100 * load) w).marks := by
    show (reformZero _).slots = _ ∧ (reformZero _).marks = _
    unfold reformZero
    split <;> exact ⟨rfl, rfl⟩
  obtain ⟨hslots, hmarks⟩ := hparts
  refine ⟨fun i => roundDiv ((w.slots.sel i).k * ((sr.slots.sel i).temp.getD 0 - (w.slots.sel i).tcal.getD 0)) 100, span,
    fun i _ => nearest_roundDiv _ (by decide), ?_⟩
  intro delta
  have hdelta : delta = fun i => spanDelta sr win i (w.slots.sel i) := funext fun i => (spanDelta_eq sr win i _).symm
  rw [hdelta]
  refine ⟨nearest_roundDiv _ hk, fun hout => ?_, fun h1 h2 => ⟨x, fun i => zeroPart (x.slots.sel i) (x.marks.sel i),
    fun i => roundDiv (100 * spanDelta sr win i (w.slots.sel i)) win.length, ?_, zeroPart_nearest x, fun hz => ?_, fun hz => ?_, fun i hi => ?_,
    fun i hi => ?_, fun i _ => nearest_roundDiv _ hk, ?_⟩⟩
  · rw [hstart, if_pos hout, failWith_eq (g := g) _ _ hg]
    rfl
  · show reformZero _ = _
    unfold x reformZero
    split <;> rfl
  · have hz' : ∃ i, ((spanTaken m span.toNat (100 * load) w).marks.sel i).zeroCaptured = true := by
      obtain ⟨i, hi⟩ := hz
      exact ⟨i, by rw [(spanTaken_same m _ _ w i).2, hi]⟩
    rw [hslots, hmarks, ← slotsUsed_congr fun i => (spanTaken_same m span.toNat (100 * load) w i).1]
    exact congrArg WorkCopy.zcal (reformZero_formed hz')
  · have hz' : ∀ i, ((spanTaken m span.toNat (100 * load) w).marks.sel i).zeroCaptured = false := fun i => by
      rw [(spanTaken_same m _ _ w i).2, hz i]
    exact (congrArg WorkCopy.zcal (reformZero_kept hz')).trans rfl
  · rw [hslots, hmarks]
    exact spanTaken_other fun h => hi (mem_moduleSlots.2 h)
  · rw [hslots, hmarks]
    exact spanTaken_module (mem_moduleSlots.1 hi)
  · have hin : ¬(span < 1000 ∨ span > 2000000) := by omega
    rw [hstart, if_neg hin, complete_eq (d := setWork x d) (g := g) _ (by exact hg), List.map_map]
    rfl

/-- What a run capture writes when its window is stable. -/
def runCaptured (cmd : RunCmd) (sr : SampleRecord) (win : List (Slots (Option Int))) (w : WorkCopy) (d : Device) : Device :=
  match cmd with
  | .cze => captureZero sr win w d
  | .csp m x => captureSpan m x sr win w d

theorem mstRecord_eq {sr : SampleRecord} {d : Device} {cmd : RunCmd} {k : Nat} {win : List (Slots (Option Int))} {w : WorkCopy}
    (hs : d.exe.stage = .runWait cmd k win) (hr : d.mst.run = some w) : mstRecord sr d =
    if rawStable (rawLength d) w (rawWindowAfter d w sr win) then runCaptured cmd sr (rawWindowAfter d w sr win) w d
    else atStage (.runWait cmd k (rawWindowAfter d w sr win)) d := by
  unfold mstRecord
  rw [hs, hr]
  rfl

/-- Settles O27: the checks, the raw window, and what a stable one writes. -/
theorem runCaptures : Obligations.RunCaptures := by
  refine ⟨fun s hl => ⟨fun hr => ⟨act_long hl ?_, fun fs => act_long hl ?_⟩, fun w hr => ⟨act_long hl (doCze_eq hr),
    fun m x hx => act_long hl (doCsp_eq hr m hx)⟩⟩, fun sr cmd k win g w row d hr hexe hrow hused => ?_⟩
  · have : runOpen s.dev = false := by rw [runOpen, hr]; rfl
    rw [doCze, czeChecks, this]
    rfl
  · simp only [doCsp, hr, refuse_eq]
  intro kr fit slid still serial hk
  have hg : d.exe.slot = some g := by rw [hexe]
  have hrec := mstRecord_eq (sr := sr) (by rw [hexe] : d.exe.stage = .runWait cmd k win) hr
  have hlen : rawLength d = kr := rawLength_eq d
  have hfit : w.configuredSlots.all (slotQualifies d sr) = true ↔ fit :=
    List.all_eq_true.trans (forall₂_congr fun i _ => slotQualifies_iff d sr i)
  have hslid (h : fit) : rawWindowAfter d w sr win = slid := by
    rw [rawWindowAfter, if_pos (hfit.2 h), rawCounts_eq hrow, hlen]
    rfl
  have hstill : rawStable kr w slid = true ↔ still := rawStable_iff hk w slid
  have hstable (h : fit) (h' : still) : mstRecord sr d = runCaptured cmd sr slid w d := by
    rw [hrec, hslid h, hlen, if_pos (hstill.2 h')]
  refine ⟨fun h => ?_, fun h h' => ?_, fun h h' hc => ?_, fun m load h h' hc => ?_⟩
  · have hempty : rawWindowAfter d w sr win = [] := if_neg fun hall => h (hfit.1 hall)
    have hno : ¬rawStable kr w [] = true := fun hs => Nat.ne_of_lt hk ((rawStable_iff hk w []).1 hs).1
    rw [hrec, hempty, hlen, if_neg hno]
  · rw [hrec, hslid h, hlen, if_neg fun hs => h' (hstill.1 hs)]
  · have hlength : slid.length = kr := h'.1
    rw [hstable h h', hc, ← hlength]
    exact captureZero_takes hg (by rw [hlength]; exact hk) hused
  · have hlength : slid.length = kr := h'.1
    rw [hstable h h', hc, ← hlength]
    exact captureSpan_takes hg (by rw [hlength]; exact hk) m load

end Sys2Proof.Machine
end

section
/-! PROOF. Reset and power failure, the end of the scan, and the clock's second. -/

namespace Sys2Proof.Machine

open Sys2Proof.Safety

/-! ### RESET_LINE_LOW and POWER_FAILURE (R185, R193) -/

/-- What the write in progress leaves in the store when it is cut off. -/
theorem cut_eq (nv : NvStore) (w : Option WriteReq) (p : WritePhase) : nv.cut w p = match w, p with
    | some r, .altering => nv.land false r.write
    | some r, .verifying => nv.land true r.write
    | _, _ => nv := by
  cases w <;> cases p <;> rfl

/-- Outside operation the lights of a cleared part are RED already. -/
theorem refreshLights_cleared {phase : Phase} (h : phase ≠ .run) (low beamIn beamOut lock cts : Bool) (cause : StartCause)
    (clock : Option Nat) : refreshLights (Device.cleared phase low beamIn beamOut lock cts cause clock) =
    Device.cleared phase low beamIn beamOut lock cts cause clock := by
  cases phase with
  | run => exact absurd rfl h
  | _ => rfl

/-- Settles O30. -/
theorem resetAndPowerLoss : Obligations.ResetAndPowerLoss := by
  intro p s left
  have hleft : s.nv.cut s.dev.nvc.writing p = left := cut_eq _ _ _
  refine ⟨fun h => ?_, fun h => ?_⟩
  · show s.actNv (resetLineLow p) = _
    rw [State.actNv, resetLineLow, if_pos h, ← hleft]
    exact congrArg (fun d => Host.Outcome.next { s with nv := s.nv.cut s.dev.nvc.writing p, dev := d })
      (refreshLights_cleared (phase := .held) (by decide) _ _ _ _ _ _ _)
  · show s.actNv (powerFailure p) = _
    rw [State.actNv, powerFailure, if_neg h, ← hleft]
    exact congrArg (fun d => Host.Outcome.next { s with nv := s.nv.cut s.dev.nvc.writing p, dev := d })
      (refreshLights_cleared (phase := .off) (by decide) _ _ _ _ _ _ _)

/-! ### SCAN_END (R145, R154, R195) -/

/-- The NVC once it may take the oldest request. -/
def startedNvc (n : Nvc) : Nvc :=
  if n.serving && n.writing.isNone then
    match n.queue with
    | [] => n
    | r :: q => { n with queue := q, writing := some r }
  else n

theorem startWrite_nvc (d : Device) : startWrite d = { d with nvc := startedNvc d.nvc } := by
  unfold startWrite startedNvc
  split
  · split
    next hq => simp only [hq]
    next hq => simp only [hq]
  · rfl

/-- Taking the oldest request changes neither what is outstanding nor anything but queue and write. -/
theorem startedNvc_spec {n : Nvc} (h : n.serving = true) :
    (startedNvc n).serving = true ∧ ((startedNvc n).writing = none → (startedNvc n).queue = []) ∧
    (startedNvc n).writing.toList ++ (startedNvc n).queue = n.writing.toList ++ n.queue ∧
    (startedNvc n).ready = n.ready ∧ (startedNvc n).clock = n.clock := by
  unfold startedNvc
  cases hw : n.writing with
  | some w => simp [h, hw]
  | none =>
    cases hq : n.queue with
    | nil => simp [h, hw, hq]
    | cons r q => simp [h]

/-- The notice marks at the end of the scan. -/
def scannedNtc (jrn : Prop) [Decidable jrn] (n : Ntc) : Ntc :=
  if jrn then noticedNtc .jrn (noticedNtc .sys n) else noticedNtc .sys n

theorem scannedNtc_pending (jrn : Prop) [Decidable jrn] (n : Ntc) :
    (scannedNtc jrn n).pending.sys = (n.enabled.sys || n.pending.sys) ∧
    (scannedNtc jrn n).pending.jrn = (n.pending.jrn || (n.enabled.jrn && decide jrn)) := by
  unfold scannedNtc noticedNtc
  by_cases hj : jrn <;> cases hs : n.enabled.sys <;> cases hn : n.enabled.jrn <;> simp [PerNotice.get, PerNotice.put, hj, hs, hn]

theorem finishScan_eq (nv : NvStore) (d : Device) : finishScan nv d = { d with
    power := { d.power with phase := .run }
    now := 0
    clc := { d.clc with nextIndex := 0, nextLatch := 0 }
    lsv := { d.lsv with beamIn := taken d.lsv.beamIn, beamOut := taken d.lsv.beamOut }
    mst := { d.mst with lock := taken d.mst.lock }
    nvc := startedNvc { d.nvc with serving := true,
                                   ready := { d.nvc.ready with clock := d.nvc.clock, counter := d.mst.counter, state := d.mst.state } }
    ntc := scannedNtc (nv.unexported d.txu.exportMark ≥ Config.jrnLevel ∨ journalFull nv d) d.ntc } := by
  simp only [finishScan, scannedNtc, startWrite_nvc, raise_eq, noticed_ntc]
  split <;> rfl

theorem scanEnd_spec {s : State} (h : s.dev.power.phase = .scan) :
    exec .scanEnd s = .next (becomes s (finishScan s.nv s.dev)) := by
  show s.act scanEnd = _
  rw [act_eq, scanEnd, if_pos h]

/-! ### CLOCK_SECOND (R177, R192) -/

theorem checkOverdue_kept {nv : NvStore} {d : Device}
    (h : d.mst.state ≠ .calibrated ∨ ∀ due c, d.mst.due = some due → d.nvc.clock = some c → c / 86400 ≤ due) : checkOverdue nv d = d := by
  unfold checkOverdue
  split
  next due c hs hd hc =>
    obtain h | h := h
    · exact absurd hs h
    · exact if_neg (Nat.not_lt.2 (h due c hd hc))
  next => rfl

theorem clock_next (c : Option Nat) : c.bind nextSecond = match c with
    | some c => if c + 1 < 36525 * 86400 then some (c + 1) else none
    | none => none := by
  cases c <;> rfl

theorem clockSecond_on {nv : NvStore} {d : Device} (h : d.power.phase ≠ .off) : clockSecond nv d =
    (let d1 := { d with nvc := { d.nvc with clock := d.nvc.clock.bind nextSecond } }
     if uartOn d1 then checkOverdue nv d1 else d1) := if_neg h

/-- Settles O31. -/
theorem scanEndAndClock : Obligations.ScanEndAndClock := by
  refine ⟨fun s h => ?_, fun s => ⟨fun h => ?_, fun h => ?_⟩⟩
  · obtain ⟨hserving, hqueue, hout, hready, hclock⟩ := startedNvc_spec (n := { s.dev.nvc with
      serving := true
      ready := { s.dev.nvc.ready with clock := s.dev.nvc.clock, counter := s.dev.mst.counter, state := s.dev.mst.state } }) rfl
    obtain ⟨hsys, hjrn⟩ := scannedNtc_pending (s.nv.unexported s.dev.txu.exportMark ≥ Config.jrnLevel ∨ journalFull s.nv s.dev) s.dev.ntc
    have hjrn' : decide (s.nv.unexported s.dev.txu.exportMark ≥ Config.jrnLevel ∨ journalFull s.nv s.dev = true) =
        (decide (3584 ≤ s.nv.unexported s.dev.txu.exportMark) || journalFull s.nv s.dev) := by
      rw [Bool.decide_or, Bool.decide_eq_true]
      rfl
    refine ⟨_, scanEnd_spec h, ?_⟩
    rw [finishScan_eq, becomes, refreshLights_eq]
    exact ⟨rfl, rfl, rfl, rfl, rfl, rfl, hserving, fun _ => hqueue, hout, hready, hsys, hjrn.trans (by rw [hjrn']), rfl, rfl, rfl, rfl, rfl,
      rfl, rfl, rfl, hclock⟩
  · show s.act clockSecond = _
    rw [act_eq, clockSecond, if_pos h]
  · intro next
    have hnext : s.dev.nvc.clock.bind nextSecond = next := clock_next _
    refine ⟨fun hkept => ?_, fun due c hrun hs hd hc hlt hq hb => ?_⟩
    · show s.act clockSecond = _
      rw [act_eq, clockSecond_on h, hnext]
      dsimp only
      split
      · exact congrArg (fun d => Host.Outcome.next (becomes s d)) (checkOverdue_kept hkept)
      · rfl
    · show s.act clockSecond = _
      rw [act_eq, clockSecond_on h, hnext]
      dsimp only
      rw [if_pos (by simp [uartOn, hrun])]
      exact congrArg (fun d => Host.Outcome.next (becomes s d)) (checkOverdue_overdue hc hs hd hlt hq hb)

end Sys2Proof.Machine
end

section
/-! PROOF. What the readers of a sample record leave: the cell lines, the audit log, the settings and the requests made before. -/

namespace Sys2Proof.Machine

open Sys2Proof.Safety

/-- The slots a working copy has configured. -/
def usedSlots (w : WorkCopy) : SlotId → Bool := fun i => (w.slots.sel i).configured

/-- The cell lines, the time, the audit unit, the classes enabled, the mark of CEL, the settings and the clock are the same, and so are
the slots configured in the active record and in the working copy. -/
abbrev CellSame (a b : Device) : Prop :=
  a.clc = b.clc ∧ a.now = b.now ∧ a.auu = b.auu ∧ a.ntc.enabled = b.ntc.enabled ∧ a.ntc.pending.cel = b.ntc.pending.cel ∧
    a.nvc.settings = b.nvc.settings ∧ a.nvc.clock = b.nvc.clock ∧ a.mst.active = b.mst.active ∧
    a.mst.run.map usedSlots = b.mst.run.map usedSlots

@[simp] theorem setStage_cells (st : Stage) (d : Device) : CellSame (setStage st d) d := ⟨rfl, rfl, rfl, rfl, rfl, rfl, rfl, rfl, rfl⟩

@[simp] theorem sendLong_cells (lead : Char) (tag : Text) (fields : List Text) (d : Device) :
    CellSame (sendLong lead tag fields d) d := ⟨rfl, rfl, rfl, rfl, rfl, rfl, rfl, rfl, rfl⟩

@[simp] theorem complete_cells (fields : List Text) (d : Device) : CellSame (complete fields d) d := ⟨rfl, rfl, rfl, rfl, rfl, rfl, rfl, rfl, rfl⟩

/-- A working copy that configures the same slots. -/
theorem setWork_cells {w x : WorkCopy} {d : Device} (hr : d.mst.run = some w) (h : ∀ i, (x.slots.sel i).configured = (w.slots.sel i).configured) :
    CellSame (setWork x d) d :=
  ⟨rfl, rfl, rfl, rfl, rfl, rfl, rfl, rfl, by rw [hr]; exact congrArg some (funext h)⟩

theorem reformZero_slots (w : WorkCopy) : (reformZero w).slots = w.slots := by
  unfold reformZero
  split <;> rfl

theorem zeroTaken_configured (d : Device) (sr : SampleRecord) (win : List (Slots (Option Int))) (w : WorkCopy) (i : SlotId) :
    ((reformZero (zeroTaken d sr win w)).slots.sel i).configured = (w.slots.sel i).configured := by
  rw [reformZero_slots]
  cases h : (w.slots.sel i).configured with
  | false => rw [(zeroTaken_unused h).1, h]
  | true => rw [(zeroTaken_used h).1]; exact h

theorem spanTaken_configured (m : Ix) (s lref : Nat) (w : WorkCopy) (i : SlotId) :
    ((reformZero (spanTaken m s lref w)).slots.sel i).configured = (w.slots.sel i).configured := by
  rw [reformZero_slots]
  exact (spanTaken_same m s lref w i).1

theorem CellSame.trans {a b c : Device} (h : CellSame a b) (k : CellSame b c) : CellSame a c := by
  obtain ⟨h1, h2, h3, h4, h5, h6, h7, h8, h9⟩ := h
  obtain ⟨k1, k2, k3, k4, k5, k6, k7, k8, k9⟩ := k
  exact ⟨h1.trans k1, h2.trans k2, h3.trans k3, h4.trans k4, h5.trans k5, h6.trans k6, h7.trans k7, h8.trans k8, h9.trans k9⟩

@[simp] theorem failWith_cells (c : Code) (detail : List Text) (d : Device) : CellSame (failWith c detail d) d := ⟨rfl, rfl, rfl, rfl, rfl, rfl, rfl, rfl, rfl⟩

theorem captureZero_cells {sr : SampleRecord} {win : List (Slots (Option Int))} {w : WorkCopy} {d : Device} (hr : d.mst.run = some w) :
    CellSame (captureZero sr win w d) d :=
  (complete_cells _ _).trans (setWork_cells hr (zeroTaken_configured d sr win w))

theorem captureSpan_cells {m : Ix} {x : Nat} {sr : SampleRecord} {win : List (Slots (Option Int))} {w : WorkCopy} {d : Device}
    (hr : d.mst.run = some w) : CellSame (captureSpan m x sr win w d) d := by
  unfold captureSpan
  dsimp only
  split
  · exact failWith_cells _ _ d
  · exact (complete_cells _ _).trans (setWork_cells hr (spanTaken_configured m _ _ w))

@[simp] theorem mstRecord_cells (sr : SampleRecord) (d : Device) : CellSame (mstRecord sr d) d := by
  unfold mstRecord
  split
  next cmd k win w _ hr =>
    dsimp only
    split
    · cases cmd with
      | cze => exact captureZero_cells hr
      | csp m x => exact captureSpan_cells hr
    · exact setStage_cells _ d
  next => exact ⟨rfl, rfl, rfl, rfl, rfl, rfl, rfl, rfl, rfl⟩

@[simp] theorem axuRecord_cells (wr : WeightRecord) (d : Device) : CellSame (axuRecord wr d) d := by
  unfold axuRecord; split <;> simp [CellSame]

@[simp] theorem evalTimers_cells (t : Nat) (d : Device) : CellSame (evalTimers t d) d := ⟨rfl, rfl, rfl, rfl, rfl, rfl, rfl, rfl, rfl⟩

@[simp] theorem laneWaits_cells (d : Device) : CellSame (laneWaits d) d := by
  unfold laneWaits; dsimp only; repeat' split
  all_goals simp [CellSame]

/-- Every class but CEL leaves CEL's mark. -/
@[simp] theorem raise_cells {c : Notice} (h : c ≠ .cel) (d : Device) : CellSame (raise c d) d := by
  unfold raise
  split
  · cases c <;> simp_all [CellSame, PerNotice.put]
  · simp [CellSame]

@[simp] theorem setLane_cells (l : Lane) (d : Device) : CellSame (setLane l d) d := by
  unfold setLane; split <;> simp [CellSame]

@[simp] theorem stopSettle_cells (d : Device) : CellSame (stopSettle d) d := ⟨rfl, rfl, rfl, rfl, rfl, rfl, rfl, rfl, rfl⟩

@[simp] theorem openPassage_cells (cause : OpenCause) (t : Nat) (d : Device) :
    CellSame (openPassage cause t d) d := ⟨rfl, rfl, rfl, rfl, rfl, rfl, rfl, rfl, rfl⟩

@[simp] theorem enterPassage_cells (cause : OpenCause) (t : Nat) (d : Device) :
    CellSame (enterPassage cause t d) d := by simp [enterPassage, CellSame]

@[simp] theorem laneRecord_cells (wasInit : Bool) (wr : WeightRecord) (d : Device) : CellSame (laneRecord wasInit wr d) d := by
  unfold laneRecord; dsimp only; repeat' split
  all_goals simp [CellSame]

@[simp] theorem captureSlots_cells (before : Option WeightRecord) (wr : WeightRecord) (d : Device) :
    CellSame (captureSlots before wr d) d := by
  unfold captureSlots; repeat' split
  all_goals simp [CellSame]

@[simp] theorem emptyWindow_cells (d : Device) : CellSame (emptyWindow d) d := ⟨rfl, rfl, rfl, rfl, rfl, rfl, rfl, rfl, rfl⟩

@[simp] theorem startWrite_cells (d : Device) : CellSame (startWrite d) d := by
  unfold startWrite; repeat' split
  all_goals simp [CellSame]

@[simp] theorem request_cells (r : WriteReq) (d : Device) : CellSame (request r d) d := by simp [request, CellSame]

@[simp] theorem openVisit_cells (nv : NvStore) (ref : Text) (dir : Direction) (w : Weighing) (d : Device) :
    CellSame (openVisit nv ref dir w d) d := by
  unfold openVisit; split <;> simp [CellSame]

@[simp] theorem beginAxleWait_cells (x0 : Draft) (passage : Nat) (d : Device) :
    CellSame (beginAxleWait x0 passage d) d := ⟨rfl, rfl, rfl, rfl, rfl, rfl, rfl, rfl, rfl⟩

@[simp] theorem requestJournal_cells (rec : JournalRec) (d : Device) :
    CellSame (requestJournal rec d) d := by simp [requestJournal, CellSame]

@[simp] theorem makeOwn_cells (nv : NvStore) (x1 : Draft) (d : Device) : CellSame (makeOwn nv x1 d) d := by simp [makeOwn, CellSame]

@[simp] theorem makeRecord_cells (nv : NvStore) (x1 : Draft) (d : Device) : CellSame (makeRecord nv x1 d) d := by
  unfold makeRecord; split <;> simp [CellSame]

@[simp] theorem issue_cells (nv : NvStore) (x1 : Draft) (passage : Option Nat) (d : Device) : CellSame (issue nv x1 passage d) d := by
  unfold issue; split <;> simp [CellSame]

@[simp] theorem issueTicket_cells (nv : NvStore) (v : VisitRec) (w : Weighing) (d : Device) : CellSame (issueTicket nv v w d) d := by
  unfold issueTicket; repeat' split
  all_goals simp [CellSame]

@[simp] theorem issueOnePass_cells (nv : NvStore) (ref : Text) (t : TareEntry) (w : Weighing) (d : Device) :
    CellSame (issueOnePass nv ref t w d) d := by simp [issueOnePass, CellSame]

@[simp] theorem issueGross_cells (nv : NvStore) (ref : Text) (w : Weighing) (d : Device) :
    CellSame (issueGross nv ref w d) d := by simp [issueGross, CellSame]

@[simp] theorem storeTare_cells (nv : NvStore) (t : Tag) (e : TareEntry) (d : Device) : CellSame (storeTare nv t e d) d := by
  unfold storeTare; split <;> simp [CellSame]

@[simp] theorem storeStaticTare_cells (nv : NvStore) (ref : Text) (days : Nat) (w : Weighing) (d : Device) :
    CellSame (storeStaticTare nv ref days w d) d := by
  unfold storeStaticTare; split <;> simp [CellSame]

@[simp] theorem addPoint_cells (x0 : Nat) (w : Weighing) (d : Device) : CellSame (addPoint x0 w d) d := by
  unfold addPoint; split <;> simp [CellSame]

@[simp] theorem captureYields_cells (nv : NvStore) (cmd : CapCmd) (w : Weighing) (d : Device) : CellSame (captureYields nv cmd w d) d := by
  unfold captureYields; repeat' split
  all_goals simp [CellSame]

@[simp] theorem pushRing_cells (w : Weighing) (d : Device) : CellSame (pushRing w d) d := by
  unfold pushRing; split <;> simp [CellSame]

@[simp] theorem captureStable_cells (nv : NvStore) (r : CalRecord) (wr : WeightRecord) (d : Device) :
    CellSame (captureStable nv r wr d) d := by
  unfold captureStable; repeat' split
  all_goals simp [CellSame]

@[simp] theorem updateBaseline_cells (w : List WinEntry) (d : Device) : CellSame (updateBaseline w d) d := by
  unfold updateBaseline; split <;> simp [CellSame]

@[simp] theorem setOperatingZero_cells (f : Int) (d : Device) : CellSame (setOperatingZero f d) d := ⟨rfl, rfl, rfl, rfl, rfl, rfl, rfl, rfl, rfl⟩

@[simp] theorem track_cells (r : CalRecord) (f : Int) (g : Option Int) (d : Device) : CellSame (track r f g d) d := by
  unfold track; repeat' split
  all_goals simp [CellSame]

@[simp] theorem stableClear_cells (r : CalRecord) (f : Int) (g : Option Int) (d : Device) : CellSame (stableClear r f g d) d := by
  unfold stableClear; repeat' split
  all_goals simp [CellSame]

@[simp] theorem setInitialZero_cells (f : Int) (d : Device) : CellSame (setInitialZero f d) d := ⟨rfl, rfl, rfl, rfl, rfl, rfl, rfl, rfl, rfl⟩

@[simp] theorem laneZeroSet_cells (d : Device) : CellSame (laneZeroSet d) d := by
  unfold laneZeroSet; dsimp only; repeat' split
  all_goals simp [CellSame]

@[simp] theorem stableUnset_cells (r : CalRecord) (f : Int) (d : Device) : CellSame (stableUnset r f d) d := by
  unfold stableUnset; repeat' split
  all_goals simp [CellSame]

@[simp] theorem zsuRecord_cells (nv : NvStore) (before : Option WeightRecord) (wr : WeightRecord) (d : Device) :
    CellSame (zsuRecord nv before wr d) d := by
  unfold zsuRecord; dsimp only; repeat' split
  all_goals simp [CellSame]

@[simp] theorem weightRecord_cells (nv : NvStore) (sr : SampleRecord) (d : Device) :
    CellSame (weightRecord nv sr d) d := by simp [weightRecord, CellSame]

/-- Handing over a sample record marks the cycle as handed and leaves everything else of the cell lines. -/
theorem handSample_cells (nv : NvStore) (d : Device) :
    ∃ h, CellSame (handSample nv d) { d with clc := { d.clc with cycle := d.clc.cycle.map fun c => { c with handed := c.handed || h } } } := by
  unfold handSample
  split
  next c hc =>
    split
    · refine ⟨true, ?_⟩
      simp [CellSame, hc]
    · refine ⟨false, ?_⟩
      simp [CellSame]
  next hc =>
    have hsame : d.clc.cycle.map (fun c => { c with handed := c.handed || true }) = d.clc.cycle := by rw [hc]; rfl
    exact ⟨true, by rw [hsame]; exact ⟨rfl, rfl, rfl, rfl, rfl, rfl, rfl, rfl, rfl⟩⟩

/-! ### Requests stay outstanding until they are reported -/

section asking

variable {q : WriteReq}

/-- The request is outstanding. -/
def Nvc.Asks (q : WriteReq) (n : Nvc) : Prop := q ∈ n.writing.toList ++ n.queue

theorem asks_iff (d : Device) : d.nvc.Asks q ↔ q ∈ outstanding d := Iff.rfl

theorem startWrite_asks {d : Device} (h : d.nvc.Asks q) : (startWrite d).nvc.Asks q := by
  rw [startWrite_nvc]
  unfold startedNvc
  split
  next hs =>
    have hw : d.nvc.writing = none := by simp only [Bool.and_eq_true, Option.isNone_iff_eq_none] at hs; exact hs.2
    split
    · exact h
    next r rest hq =>
      rw [Nvc.Asks, hw, hq] at h
      exact h
  · exact h

@[simp] theorem request_asks (r : WriteReq) {d : Device} (h : d.nvc.Asks q) : (request r d).nvc.Asks q := by
  refine startWrite_asks ?_
  simp only [Nvc.Asks, ← List.append_assoc] at h ⊢
  exact List.mem_append_left _ h

@[simp] theorem openVisit_asks (nv : NvStore) (ref : Text) (dir : Direction) (w : Weighing) {d : Device} (h : d.nvc.Asks q) :
    (openVisit nv ref dir w d).nvc.Asks q := by
  unfold openVisit; split <;> simp [h]

@[simp] theorem requestJournal_asks (rec : JournalRec) {d : Device} (h : d.nvc.Asks q) : (requestJournal rec d).nvc.Asks q := by
  simp [requestJournal, h]

@[simp] theorem makeOwn_asks (nv : NvStore) (x1 : Draft) {d : Device} (h : d.nvc.Asks q) : (makeOwn nv x1 d).nvc.Asks q := by
  simp [makeOwn, h]

@[simp] theorem makeRecord_asks (nv : NvStore) (x1 : Draft) {d : Device} (h : d.nvc.Asks q) :
    (makeRecord nv x1 d).nvc.Asks q := by
  unfold makeRecord; split <;> simp [h]

@[simp] theorem issue_asks (nv : NvStore) (x1 : Draft) (passage : Option Nat) {d : Device} (h : d.nvc.Asks q) :
    (issue nv x1 passage d).nvc.Asks q := by
  unfold issue; split <;> simp [h]

@[simp] theorem issueTicket_asks (nv : NvStore) (v : VisitRec) (w : Weighing) {d : Device} (h : d.nvc.Asks q) :
    (issueTicket nv v w d).nvc.Asks q := by
  unfold issueTicket; repeat' split
  all_goals simp [h]

@[simp] theorem issueOnePass_asks (nv : NvStore) (ref : Text) (t : TareEntry) (w : Weighing) {d : Device} (h : d.nvc.Asks q) :
    (issueOnePass nv ref t w d).nvc.Asks q := by simp [issueOnePass, h]

@[simp] theorem issueGross_asks (nv : NvStore) (ref : Text) (w : Weighing) {d : Device} (h : d.nvc.Asks q) :
    (issueGross nv ref w d).nvc.Asks q := by simp [issueGross, h]

@[simp] theorem storeTare_asks (nv : NvStore) (t : Tag) (e : TareEntry) {d : Device} (h : d.nvc.Asks q) :
    (storeTare nv t e d).nvc.Asks q := by
  unfold storeTare; split <;> simp [h]

@[simp] theorem storeStaticTare_asks (nv : NvStore) (ref : Text) (days : Nat) (w : Weighing) {d : Device} (h : d.nvc.Asks q) :
    (storeStaticTare nv ref days w d).nvc.Asks q := by
  unfold storeStaticTare; split <;> simp [h]

@[simp] theorem captureYields_asks (nv : NvStore) (cmd : CapCmd) (w : Weighing) {d : Device} (h : d.nvc.Asks q) :
    (captureYields nv cmd w d).nvc.Asks q := by
  unfold captureYields; repeat' split
  all_goals simp [h]

@[simp] theorem captureStable_asks (nv : NvStore) (r : CalRecord) (wr : WeightRecord) {d : Device} (h : d.nvc.Asks q) :
    (captureStable nv r wr d).nvc.Asks q := by
  unfold captureStable; repeat' split
  all_goals simp [h]

@[simp] theorem zsuRecord_asks (nv : NvStore) (before : Option WeightRecord) (wr : WeightRecord) {d : Device} (h : d.nvc.Asks q) :
    (zsuRecord nv before wr d).nvc.Asks q := by
  unfold zsuRecord; dsimp only; repeat' split
  all_goals simp [h]

@[simp] theorem weightRecord_asks (nv : NvStore) (sr : SampleRecord) {d : Device} (h : d.nvc.Asks q) :
    (weightRecord nv sr d).nvc.Asks q := by simp [weightRecord, h]

@[simp] theorem handSample_asks (nv : NvStore) {d : Device} (h : d.nvc.Asks q) : (handSample nv d).nvc.Asks q := by
  unfold handSample; repeat' split
  all_goals simp [h]

end asking

end Sys2Proof.Machine
end

section
/-! PROOF. Events of the cell lines: slots that take a new record, bad frames, polls, sample instants and line faults. -/

namespace Sys2Proof.Machine

open Sys2Proof.Safety

/-! ### Slots and lines after a write -/

theorem Quad.get_set {α : Type} (q : Quad α) (i j : Ix) (x : α) : (q.set i x).get j = if j = i then x else q.get j := by
  cases i <;> cases j <;> rfl

theorem Slots.sel_put {α : Type} (q : Slots α) (i j : SlotId) (x : α) : (q.put i x).sel j = if j = i then x else q.sel j := by
  obtain ⟨l, a⟩ := i
  obtain ⟨l', a'⟩ := j
  simp only [Slots.put, Slots.sel, Quad.get_set, SlotId.mk.injEq]
  by_cases hl : l' = l
  · subst hl
    simp only [if_true, true_and, Quad.get_set]
  · simp only [hl, if_false, false_and]

theorem slotOf_storeSlot (i j : SlotId) (x : Slot) (d : Device) : slotOf (storeSlot i x d) j = if j = i then x else slotOf d j :=
  Slots.sel_put _ _ _ _

theorem lineOf_storeLine (l k : Ix) (x : Line) (d : Device) : lineOf (storeLine l x d) k = if k = l then x else lineOf d k :=
  Quad.get_set _ _ _ _

theorem becomes_clc (s : State) (d : Device) : (becomes s d).dev.clc = d.clc := by
  rw [becomes, refreshLights_eq]

theorem slotOf_congr {a b : Device} (h : a.clc.slots = b.clc.slots) (i : SlotId) : slotOf a i = slotOf b i := by
  rw [slotOf, slotOf, h]

theorem lineOf_congr {a b : Device} (h : a.clc.lines = b.clc.lines) (l : Ix) : lineOf a l = lineOf b l := by
  rw [lineOf, lineOf, h]

theorem isPolled_congr {a b : Device} (h : a.clc.polled = b.clc.polled) (i : SlotId) : isPolled a i = isPolled b i := by
  rw [isPolled, isPolled, h]

theorem unpolled_congr {a b : Device} (hp : a.clc.polled = b.clc.polled) (hs : a.clc.slots = b.clc.slots) (l : Ix) :
    unpolled a l = unpolled b l := by
  simp only [unpolled, isPolled, slotOf, hp, hs]

/-- A slot that does not enter MISMATCH takes its record as given; a change of its state raises CEL. -/
theorem putSlot_eq {nv : NvStore} {i : SlotId} {x : Slot} {d : Device} (h : (slotOf d i).state ≠ .mismatch → x.state ≠ .mismatch) :
    putSlot nv i x d = { d with
      clc := { d.clc with slots := d.clc.slots.put i x }
      ntc := if x.state = (slotOf d i).state then d.ntc else noticedNtc .cel d.ntc } := by
  unfold putSlot
  dsimp only
  split_ifs with hsame hmis
  · rfl
  · exact absurd hmis (h fun hold => hsame (hmis.trans hold.symm))
  · rw [raise_eq, noticed_ntc]
    rfl

/-- Slots have changed, and CEL may have become pending; nothing else. -/
structure SlotsChanged (a b : Device) : Prop where
  rest : b = { a with clc := { a.clc with slots := b.clc.slots }, ntc := b.ntc }
  enabled : b.ntc.enabled = a.ntc.enabled
  cel : a.ntc.pending.cel = true → b.ntc.pending.cel = true

theorem SlotsChanged.refl (d : Device) : SlotsChanged d d := ⟨rfl, rfl, id⟩

theorem SlotsChanged.trans {a b c : Device} (h : SlotsChanged a b) (k : SlotsChanged b c) : SlotsChanged a c where
  rest := by
    rw [k.rest, h.rest]
  enabled := k.enabled.trans h.enabled
  cel := k.cel ∘ h.cel

theorem noticedNtc_enabled (c : Notice) (n : Ntc) : (noticedNtc c n).enabled = n.enabled := by
  unfold noticedNtc
  split <;> rfl

theorem noticedNtc_cel (n : Ntc) : (noticedNtc .cel n).pending.cel = (n.pending.cel || n.enabled.cel) := by
  unfold noticedNtc
  cases h : n.enabled.cel <;> simp [PerNotice.get, PerNotice.put, h]

theorem putSlot_changed {nv : NvStore} {i : SlotId} {x : Slot} {d : Device} (h : (slotOf d i).state ≠ .mismatch → x.state ≠ .mismatch) :
    SlotsChanged d (putSlot nv i x d) := by
  rw [putSlot_eq h]
  refine ⟨rfl, ?_, fun hc => ?_⟩
  · dsimp only
    split
    · rfl
    · exact noticedNtc_enabled _ _
  · dsimp only
    split
    · exact hc
    · rw [noticedNtc_cel, hc]
      rfl

/-- Each slot of a list takes its new record; the others stay. -/
theorem mapSlots_spec {nv : NvStore} {f : SlotId → Slot → Slot} (hf : ∀ i x, x.state ≠ .mismatch → (f i x).state ≠ .mismatch)
    {l : List SlotId} (hl : l.Nodup) (d : Device) : SlotsChanged d (mapSlots nv f l d) ∧
      ∀ i, slotOf (mapSlots nv f l d) i = if i ∈ l then f i (slotOf d i) else slotOf d i := by
  induction l generalizing d with
  | nil => exact ⟨.refl d, fun i => rfl⟩
  | cons j l ih =>
    obtain ⟨hj, hl⟩ := List.nodup_cons.1 hl
    have hstep : mapSlots nv f (j :: l) d = mapSlots nv f l (putSlot nv j (f j (slotOf d j)) d) := rfl
    obtain ⟨hrest, hslots⟩ := ih hl (putSlot nv j (f j (slotOf d j)) d)
    have hput (i : SlotId) : slotOf (putSlot nv j (f j (slotOf d j)) d) i = if i = j then f j (slotOf d j) else slotOf d i := by
      rw [putSlot_eq (hf j (slotOf d j))]
      exact Slots.sel_put _ _ _ _
    refine ⟨hstep ▸ (putSlot_changed (hf j _)).trans hrest, fun i => ?_⟩
    rw [hstep, hslots, hput]
    by_cases hi : i = j
    · subst hi
      rw [if_neg hj, if_pos rfl, if_pos List.mem_cons_self]
    · simp only [hi, if_false, List.mem_cons, false_or]

/-- Outcomes without a valid frame, for each slot of a list. -/
theorem missFold_eq (nv : NvStore) (o : SlotOutcome) (l : List SlotId) (d : Device) :
    l.foldl (fun d i => missOutcome nv o i d) d = mapSlots nv (fun _ x => missSlot d.nvc.settings.hold o x) l d := by
  have fold : ∀ (l : List SlotId) (e : Device), e.nvc = d.nvc → l.foldl (fun d i => missOutcome nv o i d) e =
      mapSlots nv (fun _ x => missSlot d.nvc.settings.hold o x) l e := by
    intro l
    induction l with
    | nil => exact fun e _ => rfl
    | cons j l ih =>
      intro e he
      have hnvc : (missOutcome nv o j e).nvc = d.nvc := by
        rw [missOutcome, putSlot_eq (missSlot_state_ne_mismatch _ o)]
        exact he
      have hmiss : missOutcome nv o j e = putSlot nv j (missSlot d.nvc.settings.hold o (slotOf e j)) e := by rw [missOutcome, he]
      rw [List.foldl_cons, ih _ hnvc, hmiss]
      rfl
  exact fold l d rfl

/-! ### Bad frames (R7) -/

theorem badFrame_eq {l a : Ix} {nv : NvStore} {d : Device} (hp : isPolled d ⟨l, a⟩ = true) : badFrame l a nv d =
    (let x := missSlot d.nvc.settings.hold .bad (slotOf d ⟨l, a⟩)
     let heard := { d with clc := { d.clc with slots := d.clc.slots.put ⟨l, a⟩ x,
                                               lines := d.clc.lines.set l { lineOf d l with phase := .quiet } } }
     if x.state = (slotOf d ⟨l, a⟩).state then heard else noticed .cel heard) := by
  have hmiss : waitedMiss nv .bad ⟨l, a⟩ d = putSlot nv ⟨l, a⟩ (missSlot d.nvc.settings.hold .bad (slotOf d ⟨l, a⟩)) d := if_pos hp
  unfold badFrame
  rw [hmiss, putSlot_eq (missSlot_state_ne_mismatch _ _)]
  dsimp only
  split
  · rfl
  · rw [noticed_ntc]
    rfl

/-- Settles O37: all three give the polled slot BAD and begin the quiet wait. -/
theorem badFrames : Obligations.BadFrames := by
  intro l a s hrun hphase hp x heard t
  have go (f : NvStore → Device → Device) (h : f s.nv s.dev = badFrame l a s.nv s.dev) : s.act f = .next t := by
    rw [act_eq, h, badFrame_eq hp]
  refine ⟨go (frameEdgeTimeout l) ?_, fun ref syms h => go (badFrameEdge l ref syms) ?_, fun ref syms h => ?_,
    fun ref syms h => go (replyFrame l ref syms) ?_⟩
  · simp only [frameEdgeTimeout, hphase, hrun, if_true]
  · simp only [badFrameEdge, hphase, hrun, h, Bool.and_self, if_true]
  · refine congrArg (fun d => Host.Outcome.next (becomes s d)) (?_ : badFrameEdge l ref syms s.nv s.dev = s.dev)
    simp only [badFrameEdge, hphase, h, Bool.and_false, Bool.false_eq_true, if_false]
  · simp only [replyFrame, hphase, hrun, h, if_true]

/-! ### Lines that go on (R4) -/

theorem nextPhase_eq (d : Device) (l : Ix) : nextPhase d l = if unpolled d l = [] then .idle else .gap := by
  simp only [nextPhase, List.isEmpty_iff]

/-- The cell lines after a sample record may have been handed over: the same, but for the mark of the cycle. -/
theorem handSample_clc (nv : NvStore) (d : Device) : (handSample nv d).clc.slots = d.clc.slots ∧
    (handSample nv d).clc.lines = d.clc.lines ∧ (handSample nv d).clc.polled = d.clc.polled ∧
    (handSample nv d).clc.nextIndex = d.clc.nextIndex ∧ (handSample nv d).clc.nextLatch = d.clc.nextLatch ∧
    ∃ h, (handSample nv d).clc.cycle = d.clc.cycle.map fun c => { c with handed := c.handed || h } := by
  obtain ⟨h, hclc, -⟩ := handSample_cells nv d
  rw [hclc]
  exact ⟨rfl, rfl, rfl, rfl, rfl, h, rfl⟩

/-- What a line that goes on leaves of the cell lines: its own phase alone changes, and the cycle may be handed over. -/
theorem lineGoesOn_spec (nv : NvStore) (l : Ix) (d : Device) :
    (lineGoesOn nv l d).clc.slots = d.clc.slots ∧ (lineGoesOn nv l d).clc.polled = d.clc.polled ∧
    (∀ k, k ≠ l → lineOf (lineGoesOn nv l d) k = lineOf d k) ∧
    lineOf (lineGoesOn nv l d) l = { lineOf d l with phase := if unpolled d l = [] then .idle else .gap } := by
  obtain ⟨hslots, hlines, hpolled, -⟩ := handSample_clc nv (storeLine l { lineOf d l with phase := nextPhase d l } d)
  have hlineOf (k : Ix) : lineOf (lineGoesOn nv l d) k = if k = l then { lineOf d l with phase := nextPhase d l } else lineOf d k :=
    (lineOf_congr hlines k).trans (lineOf_storeLine _ _ _ _)
  refine ⟨hslots, hpolled, fun k hk => (hlineOf k).trans (if_neg hk), ?_⟩
  rw [hlineOf, if_pos rfl, nextPhase_eq]

/-- The host's side of a line that goes on. -/
theorem lineGoesOn_same (nv : NvStore) (l : Ix) (d : Device) :
    (lineGoesOn nv l d).rx = d.rx ∧ (lineGoesOn nv l d).tx.queue = d.tx.queue := by
  obtain ⟨hrx, hqueue, -⟩ := handSample_host nv (storeLine l { lineOf d l with phase := nextPhase d l } d)
  exact ⟨hrx, hqueue⟩

theorem becomes_host (s : State) (d : Device) : (becomes s d).dev.rx = d.rx ∧ (becomes s d).dev.tx = d.tx := by
  rw [becomes, refreshLights_eq]
  exact ⟨rfl, rfl⟩

/-- Settles O33: one line moves on, with SILENT for the slot whose reply did not come. -/
theorem linePolling : Obligations.LinePolling := by
  intro l s hrun
  refine ⟨fun i rest hst hph hun => ?_, fun a hph hp => ?_, fun hph => ?_, fun hph => ?_, fun hph => ?_⟩
  · refine congrArg (fun d => Host.Outcome.next (becomes s d)) (?_ : pollPulse l s.nv s.dev = _)
    simp only [pollPulse, hst, hph, hun, hrun, if_true]
    rfl
  · let y := putSlot s.nv ⟨l, a⟩ (missSlot s.dev.nvc.settings.hold .silent (slotOf s.dev ⟨l, a⟩)) s.dev
    have hy : y = _ := putSlot_eq (missSlot_state_ne_mismatch _ _)
    have hexec : exec (.replyWaitTimeout l) s = .next (becomes s (lineGoesOn s.nv l y)) := by
      refine congrArg (fun d => Host.Outcome.next (becomes s d)) (?_ : replyWaitTimeout l s.nv s.dev = _)
      simp only [replyWaitTimeout, hph, hrun, if_true]
      exact congrArg (lineGoesOn s.nv l) (if_pos hp)
    obtain ⟨hslots, hpolled, hother, hline⟩ := lineGoesOn_spec s.nv l y
    have hclc := becomes_clc s (lineGoesOn s.nv l y)
    obtain ⟨hrx, htx⟩ := becomes_host s (lineGoesOn s.nv l y)
    have hslot (i : SlotId) : slotOf (becomes s (lineGoesOn s.nv l y)).dev i =
        if i = ⟨l, a⟩ then missSlot s.dev.nvc.settings.hold .silent (slotOf s.dev ⟨l, a⟩) else slotOf s.dev i := by
      rw [slotOf, hclc, hslots, hy]
      exact Slots.sel_put _ _ _ _
    have hlineOf (k : Ix) : lineOf (becomes s (lineGoesOn s.nv l y)).dev k = lineOf (lineGoesOn s.nv l y) k :=
      lineOf_congr (by rw [hclc]) k
    have hlineY (k : Ix) : lineOf y k = lineOf s.dev k := by rw [hy]; rfl
    have hun : unpolled (becomes s (lineGoesOn s.nv l y)).dev l = unpolled y l :=
      unpolled_congr (by rw [hclc, hpolled]) (by rw [hclc, hslots]) l
    refine ⟨_, hexec, rfl, ?_, ?_, (hslot _).trans (if_pos rfl), fun i hi => (hslot i).trans (if_neg hi), fun k hk => ?_, ?_⟩
    · rw [hrx, (lineGoesOn_same _ _ _).1, hy]
    · rw [htx, (lineGoesOn_same _ _ _).2, hy]
    · rw [hlineOf, hother k hk, hlineY]
    · rw [hlineOf, hline, hun, hlineY]
  · have hexec : exec (.quietWaitEnd l) s = .next (becomes s (lineGoesOn s.nv l s.dev)) := by
      refine congrArg (fun d => Host.Outcome.next (becomes s d)) (?_ : quietWaitEnd l s.nv s.dev = _)
      simp only [quietWaitEnd, hph, hrun, beq_self_eq_true, Bool.and_self, if_true]
    obtain ⟨hslots, hpolled, hother, hline⟩ := lineGoesOn_spec s.nv l s.dev
    have hclc := becomes_clc s (lineGoesOn s.nv l s.dev)
    obtain ⟨hrx, htx⟩ := becomes_host s (lineGoesOn s.nv l s.dev)
    have hlineOf (k : Ix) : lineOf (becomes s (lineGoesOn s.nv l s.dev)).dev k = lineOf (lineGoesOn s.nv l s.dev) k :=
      lineOf_congr (by rw [hclc]) k
    refine ⟨_, hexec, rfl, ?_, ?_, by rw [hclc, hslots], fun k hk => ?_, ?_⟩
    · rw [hrx, (lineGoesOn_same _ _ _).1]
    · rw [htx, (lineGoesOn_same _ _ _).2]
    · rw [hlineOf, hother k hk]
    · rw [hlineOf, hline]
  · refine congrArg (fun d => Host.Outcome.next (becomes s d)) (?_ : replyWaitTimeout l s.nv s.dev = _)
    unfold replyWaitTimeout
    split
    next a ha => exact absurd ha (hph a)
    next => rfl
  · refine congrArg (fun d => Host.Outcome.next (becomes s d)) (?_ : quietWaitEnd l s.nv s.dev = _)
    refine if_neg fun h => ?_
    rw [Bool.and_eq_true, beq_iff_eq] at h
    exact hph h.2

end Sys2Proof.Machine
end

section
/-! PROOF. The record of one slot: what each outcome does to its state, what a miss does to its counts, and what a valid frame leaves. -/

namespace Sys2Proof.Machine

open Sys2Proof.Safety

/-! ### The state change of an outcome, state by state (R16 to R18) -/

section states

variable {h : Nat} {o : SlotOutcome} {x : Slot}

theorem isMiss_iff : o.isMiss = true ↔ o = .bad ∨ o = .silent ∨ o = .late ∨ o = .stale ∨ o = .sup := by
  cases o <;> decide

theorem isUnfit_iff : o.isUnfit = true ↔ o = .warmUp ∨ o = .cellErr := by
  cases o <;> decide

theorem isMiss_ne_good (hm : o.isMiss = true) : o ≠ .good ∧ o.isUnfit = false := by
  cases o
  case good => exact absurd hm (by decide)
  case warmUp => exact absurd hm (by decide)
  case cellErr => exact absurd hm (by decide)
  all_goals decide

theorem isUnfit_ne_good (hu : o.isUnfit = true) : o ≠ .good := by
  rintro rfl
  exact absurd hu (by decide)

theorem countMiss_within (hh : x.hold + 1 ≤ h) : countMiss h x = { x with hold := x.hold + 1 } := if_neg (Nat.not_lt.2 hh)

theorem countMiss_beyond (hh : h < x.hold + 1) : countMiss h x = toFaulted x := if_pos hh

theorem countGood_short (hr : x.run + 1 < 8) : countGood x = { x with run := x.run + 1 } := if_neg (Nat.not_le.2 hr)

theorem countGood_full (hr : 8 ≤ x.run + 1) : countGood x = toVerifying { x with run := x.run + 1 } := if_pos hr

theorem stepSlot_live (hs : x.state = .live) : stepSlot h o x = if o = .good then { x with hold := 0 } else
    if o.isUnfit then toFaulted x else if o.isMiss then { x with state := .holding, hold := 1 } else x := by
  simp only [stepSlot, hs]

theorem stepSlot_holding (hs : x.state = .holding) : stepSlot h o x = if o = .good then { x with state := .live, hold := 0 } else
    if o.isUnfit then toFaulted x else if o.isMiss then countMiss h x else x := by
  simp only [stepSlot, hs]

theorem stepSlot_verifying (hs : x.state = .verifying) : stepSlot h o x = if o = .good then { x with hold := 0 } else
    if o.isUnfit then toFaulted x else if o.isMiss then countMiss h x else x := by
  simp only [stepSlot, hs]

theorem stepSlot_seeking (hs : x.state = .seeking) :
    stepSlot h o x = if o = .good then toVerifying x else if o = .cellErr then toFaulted x else x := by
  simp only [stepSlot, hs]

theorem stepSlot_faulted (hs : x.state = .faulted) : stepSlot h o x = if o = .good then countGood x else { x with run := 0 } := by
  simp only [stepSlot, hs]

theorem stepSlot_idle (hs : x.state = .mismatch ∨ x.state = .unused) : stepSlot h o x = x := by
  obtain hs | hs := hs <;> simp only [stepSlot, hs]

/-- WARM-UP and CELL-ERR fault a slot in LIVE, HOLDING and VERIFYING. -/
theorem stepSlot_unfit (hs : x.state = .live ∨ x.state = .holding ∨ x.state = .verifying) (hu : o.isUnfit = true) :
    stepSlot h o x = toFaulted x := by
  have hne := isUnfit_ne_good hu
  obtain hs | hs | hs := hs
  · rw [stepSlot_live hs, if_neg hne, if_pos hu]
  · rw [stepSlot_holding hs, if_neg hne, if_pos hu]
  · rw [stepSlot_verifying hs, if_neg hne, if_pos hu]

/-- A miss in HOLDING and VERIFYING counts against the hold limit. -/
theorem stepSlot_miss (hs : x.state = .holding ∨ x.state = .verifying) (hm : o.isMiss = true) : stepSlot h o x = countMiss h x := by
  obtain ⟨hne, hfit⟩ := isMiss_ne_good hm
  obtain hs | hs := hs
  · simp only [stepSlot_holding hs, hne, hfit, hm, if_true, if_false, Bool.false_eq_true]
  · simp only [stepSlot_verifying hs, hne, hfit, hm, if_true, if_false, Bool.false_eq_true]

/-- An outcome that is not GOOD changes state, hold count and run alone. -/
theorem stepSlot_fields (hne : o ≠ .good) (hu : o.isUnfit = false) :
    stepSlot h o x = { x with state := (stepSlot h o x).state, hold := (stepSlot h o x).hold, run := (stepSlot h o x).run } := by
  have hcell : o ≠ .cellErr := by
    rintro rfl
    exact absurd hu (by decide)
  have hcount : countMiss h x =
      { x with state := (countMiss h x).state, hold := (countMiss h x).hold, run := (countMiss h x).run } := by
    unfold countMiss
    split <;> rfl
  cases hs : x.state with
  | unused => rw [stepSlot_idle (.inr hs)]
  | mismatch => rw [stepSlot_idle (.inl hs)]
  | seeking => simp only [stepSlot_seeking hs, hne, hcell, if_false]
  | faulted => simp only [stepSlot_faulted hs, hne, if_false]
  | live =>
    simp only [stepSlot_live hs, hne, hu, if_false, Bool.false_eq_true]
    split <;> rfl
  | holding =>
    simp only [stepSlot_holding hs, hne, hu, if_false, Bool.false_eq_true]
    split
    · exact hcount
    · rfl
  | verifying =>
    simp only [stepSlot_verifying hs, hne, hu, if_false, Bool.false_eq_true]
    split
    · exact hcount
    · rfl

end states

/-- The state change sees the state, the hold count and the run alone. -/
theorem stepSlot_congr (h : Nat) (o : SlotOutcome) {x y : Slot} (hs : y.state = x.state) (hh : y.hold = x.hold) (hr : y.run = x.run) :
    (stepSlot h o y).state = (stepSlot h o x).state ∧ (stepSlot h o y).hold = (stepSlot h o x).hold ∧
      (stepSlot h o y).run = (stepSlot h o x).run := by
  cases hx : x.state <;> simp only [stepSlot, hs, hx, countMiss, countGood, hh, hr]
  case unused => exact ⟨trivial, trivial, trivial⟩
  case mismatch => exact ⟨trivial, trivial, trivial⟩
  all_goals split_ifs <;> simp [toVerifying, toFaulted, hs, hh, hr]

/-- BAD, SILENT and LATE: a slot's record after each. -/
theorem missSlot_eq (h : Nat) {o : SlotOutcome} (ho : o = .bad ∨ o = .silent ∨ o = .late) (x : Slot) : missSlot h o x = { x with
    cycle := some o
    lastOutcome := some o
    assembly := []
    nBad := if o = .bad then bump x.nBad else x.nBad
    nSilent := if o = .silent then bump x.nSilent else x.nSilent
    nLate := if o = .late then bump x.nLate else x.nLate
    state := (stepSlot h o x).state
    hold := (stepSlot h o x).hold
    run := (stepSlot h o x).run } := by
  have hkind : o ≠ .good ∧ o.isUnfit = false ∧ o ≠ .stale := by
    obtain rfl | rfl | rfl := ho <;> decide
  obtain ⟨hne, hu, hstale⟩ := hkind
  obtain ⟨hstate, hhold, hrun⟩ := stepSlot_congr h o (x := x) (y := recordOutcome o x) rfl rfl rfl
  rw [missSlot, stepSlot_fields hne hu, hstate, hhold, hrun]
  simp only [recordOutcome, hstale, if_false]

/-- Settles O38: each clause is the branch of the state change for that state and outcome. -/
theorem slotStates : Obligations.SlotStates := by
  intro h o x
  refine ⟨fun hs ho => ?_, fun hs hm => ?_, fun hs hm => ⟨fun hh => ?_, fun hh => ?_⟩, fun hs ho => ?_, fun hs ho => ?_,
    fun hs ho hr => ?_, fun hs ho hr => ?_, fun hs => ⟨fun ho => ?_, fun ho => ?_, fun hg hc => ?_⟩,
    fun hs => ⟨fun ho => ?_, fun hm hh => ?_, fun hm hh => ?_⟩, isMiss_iff, fun ho => ?_, stepSlot_idle⟩
  · obtain hs | hs := hs
    · rw [stepSlot_live hs, if_pos ho]
      exact ⟨hs, rfl⟩
    · rw [stepSlot_holding hs, if_pos ho]
      exact ⟨rfl, rfl⟩
  · obtain ⟨hne, hfit⟩ := isMiss_ne_good hm
    simp only [stepSlot_live hs, hne, hfit, hm, if_true, if_false, Bool.false_eq_true, and_self]
  · rw [stepSlot_miss (.inl hs) hm, countMiss_within hh]
  · rw [stepSlot_miss (.inl hs) hm, countMiss_beyond hh]
    exact ⟨rfl, rfl⟩
  · rw [stepSlot_unfit hs (isUnfit_iff.2 ho)]
    exact ⟨rfl, rfl⟩
  · rw [stepSlot_faulted hs, if_neg ho]
  · rw [stepSlot_faulted hs, if_pos ho, countGood_short hr]
  · rw [stepSlot_faulted hs, if_pos ho, countGood_full hr]
    exact ⟨rfl, rfl, rfl, rfl⟩
  · rw [stepSlot_seeking hs, if_pos ho]
    rfl
  · rw [stepSlot_seeking hs, if_neg (ho.trans_ne (by decide)), if_pos ho]
    rfl
  · rw [stepSlot_seeking hs, if_neg hg, if_neg hc]
  · rw [stepSlot_verifying hs, if_pos ho]
  · rw [stepSlot_miss (.inr hs) hm, countMiss_within hh]
  · rw [stepSlot_miss (.inr hs) hm, countMiss_beyond hh]
    rfl
  · intro y
    have hy : y = _ := missSlot_eq h ho x
    rw [hy]
    exact ⟨rfl, rfl, rfl, rfl, rfl, rfl, rfl, rfl⟩

/-! ### A valid frame in its slot (R10 to R19) -/

theorem stepSlot_kept (h : Nat) (o : SlotOutcome) (x : Slot) :
    (stepSlot h o x).assembly = x.assembly ∧ (stepSlot h o x).frozen = x.frozen := by
  cases hs : x.state <;> simp only [stepSlot, hs, countMiss, countGood]
  case unused => exact ⟨trivial, trivial⟩
  case mismatch => exact ⟨trivial, trivial⟩
  all_goals split_ifs <;> exact ⟨rfl, rfl⟩

/-- A slot with its frame taken: outcome and counts (R11), rolling count, raw count and flags, and the temperature in use (R15). -/
def heardSlot (f : Frame) (x : Slot) : Slot :=
  freezeTemp f.flags.tmp { recordOutcome (classify x.lastCount f) x with
    lastCount := some f.count, lastRaw := some f.raw, lastFlags := some f.flags }

theorem classify_valid (last : Option Nat) (f : Frame) :
    classify last f ≠ .bad ∧ classify last f ≠ .silent ∧ classify last f ≠ .late := by
  unfold classify
  split_ifs <;> decide

theorem heardSlot_eq (f : Frame) (x : Slot) : heardSlot f x = { x with
    cycle := some (classify x.lastCount f)
    lastOutcome := some (classify x.lastCount f)
    nStale := if classify x.lastCount f = .stale then min (x.nStale + 1) 65535 else x.nStale
    lastCount := some f.count
    lastRaw := some f.raw
    lastFlags := some f.flags
    frozen := f.flags.tmp
    tempInUse := if f.flags.tmp = true then x.tempInUse else x.lastTemp } := by
  obtain ⟨hbad, hsilent, hlate⟩ := classify_valid x.lastCount f
  simp only [heardSlot, freezeTemp, recordOutcome, hbad, hsilent, hlate, if_false]
  rfl

section frame

variable {h : Nat} {expected : Option Nat} {f : Frame} {x : Slot}

theorem frameSlot_stale (ho : classify x.lastCount f = .stale) :
    frameSlot h expected f x = { stepSlot h (classify x.lastCount f) (heardSlot f x) with assembly := [] } := if_pos ho

theorem frameSlot_fresh (ho : classify x.lastCount f ≠ .stale) : frameSlot h expected f x = sideMessage expected
    { stepSlot h (classify x.lastCount f) (heardSlot f x) with assembly := assemble f x.assembly } := by
  have hassembly : (stepSlot h (classify x.lastCount f) (heardSlot f x)).assembly = x.assembly := by
    rw [(stepSlot_kept _ _ _).1, heardSlot_eq]
  rw [← hassembly]
  exact if_neg ho

end frame

theorem assemble_eq (f : Frame) (a : List Bool) :
    assemble f a = if f.sideStart = true then [f.sideData] else if a = [] then [] else a ++ [f.sideData] := by
  simp only [assemble, List.isEmpty_iff]

theorem bitsNat_eq (l : List Bool) : bitsNat l = l.foldl (fun n b => 2 * n + b.toNat) 0 := by
  have hbit (b : Bool) : (if b then 1 else 0) = b.toNat := by cases b <;> rfl
  simp only [bitsNat, hbit]

section message

variable {expected : Option Nat} {x : Slot}

theorem sideMessage_short (hl : x.assembly.length < 20) : sideMessage expected x = x := if_neg (Nat.not_le.2 hl)

theorem sideMessage_wrong (hl : 20 ≤ x.assembly.length) (hm : readMessage x.assembly = none) :
    sideMessage expected x = { x with assembly := [] } := by
  simp only [sideMessage, hl, if_true, hm]

theorem sideMessage_right {item v : Nat} (hl : 20 ≤ x.assembly.length) (hm : readMessage x.assembly = some (item, v)) :
    sideMessage expected x = if item = 1 ∨ item = 2 ∨ item = 3 then identityCheck expected (storeMessage item v { x with assembly := [] })
      else storeMessage item v { x with assembly := [] } := by
  simp only [sideMessage, hl, if_true, hm]

end message

/-- The identity check without both halves of the serial, or in a state it does not act on (R19). -/
theorem identityCheck_none {expected : Option Nat} {x : Slot} (hn : serialOf x = none) : identityCheck expected x = x := by
  cases hs : x.state <;> simp only [identityCheck, hn, hs]

theorem identityCheck_some {expected : Option Nat} {x : Slot} {n : Nat} (hn : serialOf x = some n) : identityCheck expected x =
    if x.state ≠ .verifying ∧ x.state ≠ .live ∧ x.state ≠ .holding then x
    else if expected ≠ some n then { x with state := .mismatch }
    else if x.state = .verifying ∧ x.tempReceived = true ∧ x.tempInUse ≠ none then { x with state := .live }
    else x := by
  have htemp : (x.tempReceived = true ∧ x.tempInUse.isSome = true) = (x.tempReceived = true ∧ x.tempInUse ≠ none) := by
    rw [Option.isSome_iff_ne_none]
  cases hs : x.state <;> simp [identityCheck, hs, hn, htemp, eq_comm (a := some n)]

/-- Settles O36: the frame is taken, the state steps, and the twentieth bit of a right message acts on the state reached. -/
theorem sideMessages : Obligations.SideMessages := by
  intro h expected f x o a bits number item v temp b checked right
  have ho : o = classify x.lastCount f := by
    simp only [o, classify]
    rfl
  have ha : a = stepSlot h (classify x.lastCount f) (heardSlot f x) := by rw [heardSlot_eq, ← ho]
  have hbits : bits = assemble f x.assembly := (assemble_eq _ _).symm
  have hnumber (l : List Bool) : number l = bitsNat l := (bitsNat_eq l).symm
  have hfrozen : a.frozen = f.flags.tmp := by rw [ha, (stepSlot_kept _ _ _).2, heardSlot_eq]
  have hread : readMessage bits = if right then some (item, v) else none := by
    simp only [right, item, v, hnumber, readMessage]
  have hstore : storeMessage item v { a with assembly := [] } = b := by
    simp only [storeMessage, b, hfrozen]
    rfl
  have hchecked : identityCheck expected b = checked := by
    cases hhi : b.serialHigh with
    | none =>
      rw [identityCheck_none (by simp only [serialOf, hhi])]
      simp only [checked, hhi]
    | some hi =>
      cases hlo : b.serialLow with
      | none =>
        rw [identityCheck_none (by simp only [serialOf, hhi, hlo])]
        simp only [checked, hhi, hlo]
      | some lo =>
        rw [identityCheck_some (n := hi * 4096 + lo) (by simp only [serialOf, hhi, hlo])]
        simp only [checked, hhi, hlo]
  refine ⟨fun hstale => ?_, fun hfresh hl => ?_, fun hfresh hl hr => ?_, fun hfresh hl hr => ?_⟩
  · rw [frameSlot_stale (ho ▸ hstale), ← ha]
  · rw [frameSlot_fresh (ho ▸ hfresh), ← ha, ← hbits, sideMessage_short hl]
  · rw [frameSlot_fresh (ho ▸ hfresh), ← ha, ← hbits, sideMessage_wrong hl (hread.trans (if_neg hr))]
  · rw [frameSlot_fresh (ho ▸ hfresh), ← ha, ← hbits, sideMessage_right hl (hread.trans (if_pos hr))]
    exact hchecked ▸ hstore ▸ rfl

end Sys2Proof.Machine
end

section
/-! PROOF. Events of the cell lines, continued: sample instants, valid frames and line faults. -/

namespace Sys2Proof.Machine

open Sys2Proof.Safety

/-! ### What slots, sample records and a next state leave -/

/-- Power, time, the port, the settings, the active record and the slots configured in the working copy are the same. -/
structure LineRest (a b : Device) : Prop where
  power : a.power = b.power
  now : a.now = b.now
  rx : a.rx = b.rx
  queue : a.tx.queue = b.tx.queue
  settings : a.nvc.settings = b.nvc.settings
  active : a.mst.active = b.mst.active
  used : a.mst.run.map usedSlots = b.mst.run.map usedSlots

theorem LineRest.trans {a b c : Device} (h : LineRest a b) (k : LineRest b c) : LineRest a c :=
  ⟨h.power.trans k.power, h.now.trans k.now, h.rx.trans k.rx, h.queue.trans k.queue, h.settings.trans k.settings,
    h.active.trans k.active, h.used.trans k.used⟩

theorem handSample_rest (nv : NvStore) (d : Device) : LineRest (handSample nv d) d := by
  obtain ⟨h, hclc, hnow, hauu, hen, hcel, hset, hclock, hact, hrun⟩ := handSample_cells nv d
  obtain ⟨hrx, hqueue, hpower, -⟩ := handSample_host nv d
  exact ⟨hpower, hnow, hrx, hqueue, hset, hact, hrun⟩

theorem SlotsChanged.lineRest {a b : Device} (h : SlotsChanged a b) : LineRest b a := by
  rw [h.rest]
  exact ⟨rfl, rfl, rfl, rfl, rfl, rfl, rfl⟩

theorem SlotsChanged.clc {a b : Device} (h : SlotsChanged a b) : b.clc.lines = a.clc.lines ∧ b.clc.polled = a.clc.polled ∧
    b.clc.cycle = a.clc.cycle ∧ b.clc.nextIndex = a.clc.nextIndex ∧ b.clc.nextLatch = a.clc.nextLatch := by
  rw [h.rest]
  exact ⟨rfl, rfl, rfl, rfl, rfl⟩

theorem becomes_rest (s : State) (d : Device) : LineRest (becomes s d).dev d := by
  rw [becomes, refreshLights_eq]
  exact ⟨rfl, rfl, rfl, rfl, rfl, rfl, rfl⟩

theorem configured_congr {a b : Device} (h : a.mst.active = b.mst.active) (i : SlotId) : configured a i = configured b i := by
  rw [configured, configured, slotCal, slotCal, h]

theorem workConfigured_congr {a b : Device} (h : a.mst.run.map usedSlots = b.mst.run.map usedSlots) (i : SlotId) :
    workConfigured a i = workConfigured b i := by
  have key (d : Device) : workConfigured d i = ((d.mst.run.map usedSlots).map fun u => u i).getD false := by
    rw [Option.map_map]
    rfl
  rw [key, key, h]

theorem pollSet_congr {a b : Device} (h : LineRest a b) : pollSet a = pollSet b := by
  simp only [pollSet, configured_congr h.active, workConfigured_congr h.used]

theorem periodMs_congr {a b : Device} (h : a.mst.active = b.mst.active) : periodMs a = periodMs b := by
  rw [periodMs, periodMs, h]

theorem SlotId.nodup_all : SlotId.all.Nodup := by decide

theorem SlotId.nodup_ofLine (l : Ix) : (SlotId.ofLine l).Nodup := by cases l <;> decide

theorem SlotId.mem_ofLine (l : Ix) (i : SlotId) : i ∈ SlotId.ofLine l ↔ i.line = l := by
  obtain ⟨k, a⟩ := i
  constructor
  · intro h
    simp only [SlotId.ofLine, List.mem_map] at h
    obtain ⟨b, -, hb⟩ := h
    exact (congrArg SlotId.line hb).symm
  · rintro rfl
    simp only [SlotId.ofLine, List.mem_map]
    exact ⟨a, by cases a <;> decide, rfl⟩

/-- Outcomes without a valid frame for the slots that meet a condition: each takes its own, and no other slot changes. -/
theorem missAll_spec (nv : NvStore) (o : SlotOutcome) (p : SlotId → Bool) (d : Device) :
    SlotsChanged d ((SlotId.all.filter p).foldl (fun d i => missOutcome nv o i d) d) ∧
      ∀ i, slotOf ((SlotId.all.filter p).foldl (fun d i => missOutcome nv o i d) d) i =
        if p i = true then missSlot d.nvc.settings.hold o (slotOf d i) else slotOf d i := by
  obtain ⟨hsame, hslot⟩ := mapSlots_spec (nv := nv) (f := fun _ x => missSlot d.nvc.settings.hold o x)
    (fun _ _ => missSlot_state_ne_mismatch _ o) (SlotId.nodup_all.filter p) d
  rw [missFold_eq]
  refine ⟨hsame, fun i => (hslot i).trans ?_⟩
  simp only [List.mem_filter, SlotId.mem_all, true_and]

/-! ### The sample instant (R2 to R5, R11, R24) -/

/-- The ending cycle: LATE for the polled slots without an outcome; the lines keep their statuses. -/
theorem endCycle_spec (nv : NvStore) (d : Device) : LineRest (endCycle nv d) d ∧
    (endCycle nv d).clc.nextIndex = d.clc.nextIndex ∧ (endCycle nv d).clc.nextLatch = d.clc.nextLatch ∧
    (∀ l, (lineOf (endCycle nv d) l).status = (lineOf d l).status) ∧
    ∀ i, slotOf (endCycle nv d) i = if d.clc.cycle ≠ none ∧ isPolled d i = true ∧ (slotOf d i).cycle = none
      then missSlot d.nvc.settings.hold .late (slotOf d i) else slotOf d i := by
  cases hc : d.clc.cycle with
  | none =>
    have he : endCycle nv d = d := by simp only [endCycle, hc]
    rw [he]
    exact ⟨⟨rfl, rfl, rfl, rfl, rfl, rfl, rfl⟩, rfl, rfl, fun _ => rfl, fun _ => (if_neg fun h => h.1 rfl).symm⟩
  | some c =>
    have he : endCycle nv d = handSample nv (idleLines (lateSlots nv d)) := by simp only [endCycle, hc]
    obtain ⟨hlate, hslot⟩ := missAll_spec nv .late (fun i => isPolled d i && (slotOf d i).cycle.isNone) d
    obtain ⟨hslots, hlines, -, hindex, hlatch, -⟩ := handSample_clc nv (idleLines (lateSlots nv d))
    have hidle : LineRest (idleLines (lateSlots nv d)) (lateSlots nv d) := ⟨rfl, rfl, rfl, rfl, rfl, rfl, rfl⟩
    obtain ⟨hlinesL, -, -, hindexL, hlatchL⟩ := hlate.clc
    rw [he]
    refine ⟨(handSample_rest _ _).trans (hidle.trans hlate.lineRest), hindex.trans hindexL, hlatch.trans hlatchL,
      fun l => ?_, fun i => ?_⟩
    · have hline : lineOf (idleLines (lateSlots nv d)) l = { lineOf (lateSlots nv d) l with phase := .idle } := Quad.get_tab _ _
      rw [lineOf_congr hlines, hline, ← lineOf_congr hlinesL]
      rfl
    · rw [slotOf_congr hslots]
      refine (hslot i).trans ?_
      simp only [Bool.and_eq_true, Option.isNone_iff_eq_none, ne_eq, reduceCtorEq, not_false_eq_true, true_and]

/-- The part as its next cycle begins, before the SILENT outcomes of SHORTED lines. -/
def cycleBegun (d : Device) : Device :=
  { d with
    now := max d.now d.clc.nextLatch
    clc := { slots := Slots.tab fun i => newCycleSlot ((pollSet d).sel i) (slotOf d i)
             lines := Quad.tab fun l => latchLine ((SlotId.ofLine l).any fun i => (pollSet d).sel i) (lineOf d l)
             polled := pollSet d
             cycle := some ⟨d.clc.nextIndex, d.clc.nextLatch, false⟩
             nextIndex := d.clc.nextIndex + 1
             nextLatch := d.clc.nextLatch + periodMs d } }

theorem beginCycle_eq (nv : NvStore) (d : Device) : beginCycle nv d = handSample nv (silentSlots nv (cycleBegun d)) := rfl

/-- The new cycle: the lines latched, the slots without an outcome but for SILENT on SHORTED lines. -/
theorem beginCycle_spec (nv : NvStore) (d : Device) : LineRest (beginCycle nv d) (cycleBegun d) ∧
    (beginCycle nv d).clc.nextIndex = d.clc.nextIndex + 1 ∧ (beginCycle nv d).clc.nextLatch = d.clc.nextLatch + periodMs d ∧
    (∃ h, (beginCycle nv d).clc.cycle = some ⟨d.clc.nextIndex, d.clc.nextLatch, h⟩) ∧
    (beginCycle nv d).clc.polled = pollSet d ∧
    (∀ l, lineOf (beginCycle nv d) l = latchLine ((SlotId.ofLine l).any fun i => (pollSet d).sel i) (lineOf d l)) ∧
    ∀ i, slotOf (beginCycle nv d) i = if (pollSet d).sel i = true ∧ (lineOf d i.line).status = .shorted
      then missSlot d.nvc.settings.hold .silent (newCycleSlot ((pollSet d).sel i) (slotOf d i))
      else newCycleSlot ((pollSet d).sel i) (slotOf d i) := by
  rw [beginCycle_eq]
  obtain ⟨hsilent, hslot⟩ := missAll_spec nv .silent (fun i => isPolled (cycleBegun d) i &&
    (lineOf (cycleBegun d) i.line).status == .shorted && (slotOf (cycleBegun d) i).cycle.isNone) (cycleBegun d)
  obtain ⟨hlinesB, hpolledB, hcycleB, hindexB, hlatchB⟩ := hsilent.clc
  obtain ⟨hslots, hlines, hpolled, hindex, hlatch, h, hcycle⟩ := handSample_clc nv (silentSlots nv (cycleBegun d))
  have hline (l : Ix) : lineOf (cycleBegun d) l = latchLine ((SlotId.ofLine l).any fun i => (pollSet d).sel i) (lineOf d l) :=
    Quad.get_tab _ _
  have hnew (i : SlotId) : slotOf (cycleBegun d) i = newCycleSlot ((pollSet d).sel i) (slotOf d i) := Slots.sel_tab _ _
  have hstatus (l : Ix) : (lineOf (cycleBegun d) l).status = (lineOf d l).status := by
    rw [hline]
    unfold latchLine
    split
    next hs => exact hs.symm ▸ hs
    next hs => exact hs.symm ▸ hs
  refine ⟨(handSample_rest _ _).trans hsilent.lineRest, hindex.trans hindexB, hlatch.trans hlatchB,
    ⟨h, hcycle.trans (congrArg (Option.map _) hcycleB)⟩, hpolled.trans hpolledB,
    fun l => (lineOf_congr (hlines.trans hlinesB) l).trans (hline l), fun i => ?_⟩
  rw [slotOf_congr hslots]
  refine (hslot i).trans ?_
  have hopen (x : Slot) : (newCycleSlot ((pollSet d).sel i) x).cycle.isNone = true := rfl
  have hpoll : isPolled (cycleBegun d) i = (pollSet d).sel i := rfl
  have hhold : (cycleBegun d).nvc.settings = d.nvc.settings := rfl
  simp only [hpoll, hstatus, hnew, hopen, Bool.and_true, Bool.and_eq_true, beq_iff_eq, hhold]

theorem anyPolled_iff (q : Slots Bool) (l : Ix) : ((SlotId.ofLine l).any fun i => q.sel i) = true ↔
    ∃ i ∈ SlotId.ofLine l, q.sel i = true := List.any_eq_true

/-- Settles O32: the ending cycle's LATE outcomes, and the new cycle on them. -/
theorem Proofs.sampleInstant : Obligations.SampleInstant := by
  intro s hrun
  obtain ⟨hrestE, hindexE, hlatchE, hstatusE, hslotE⟩ := endCycle_spec s.nv s.dev
  obtain ⟨hrest, hindex, hlatch, ⟨h, hcycle⟩, hpolled, hline, hslot⟩ := beginCycle_spec s.nv (endCycle s.nv s.dev)
  have hexec : exec .sampleInstant s = .next (becomes s (beginCycle s.nv (endCycle s.nv s.dev))) :=
    congrArg (fun d => Host.Outcome.next (becomes s d)) (if_pos hrun)
  have hnv : (becomes s (beginCycle s.nv (endCycle s.nv s.dev))).nv = s.nv := rfl
  have hout := (becomes_rest s (beginCycle s.nv (endCycle s.nv s.dev))).trans hrest
  have hclc := becomes_clc s (beginCycle s.nv (endCycle s.nv s.dev))
  generalize becomes s (beginCycle s.nv (endCycle s.nv s.dev)) = t at hexec hout hclc hnv
  generalize beginCycle s.nv (endCycle s.nv s.dev) = b at hrest hindex hlatch hcycle hpolled hline hslot hclc
  generalize endCycle s.nv s.dev = e at *
  have hset (i : SlotId) : (pollSet e).sel i = (configured s.dev i || workConfigured s.dev i) := by
    rw [pollSet_congr hrestE]
    exact Slots.sel_tab _ _
  have hpoll (i : SlotId) : isPolled t.dev i = (pollSet e).sel i := by rw [isPolled, hclc, hpolled]
  have hlineT (l : Ix) : lineOf t.dev l = latchLine ((SlotId.ofLine l).any fun i => (pollSet e).sel i) (lineOf e l) :=
    (lineOf_congr (congrArg Clc.lines hclc) l).trans (hline l)
  refine ⟨t, hexec, hnv, hout.rx.trans hrestE.rx, hout.queue.trans hrestE.queue, hout.power.trans hrestE.power, ?_, ?_, ?_, ⟨h, ?_⟩,
    fun i => (hpoll i).trans (hset i), fun l hl => ?_, fun l hl => ?_, fun i => ?_⟩
  · rw [hout.now, cycleBegun, hrestE.now, hlatchE]
  · rw [hclc, hindex, hindexE]
  · rw [hclc, hlatch, hlatchE, periodMs_congr hrestE.active]
  · rw [hclc, hcycle, hindexE, hlatchE]
  · have hl' : (lineOf e l).status = .active := (hstatusE l).trans hl
    simp only [hlineT, latchLine, hl', anyPolled_iff, hpoll, and_self]
  · have hl' : (lineOf e l).status = .shorted := (hstatusE l).trans hl
    simp only [hlineT, latchLine, hl', and_self]
  · intro hold x y
    have hx : slotOf e i = x := hslotE i
    have hy : newCycleSlot ((pollSet e).sel i) (slotOf e i) = y := by
      rw [hx]
      simp only [newCycleSlot, y, hpoll]
    rw [slotOf_congr (congrArg Clc.slots hclc), hslot, hy, hstatusE, hpoll, hrestE.settings]

/-! ### Audit appends (R178, R180, R181) -/

theorem append_next {nv : NvStore} {src : Requester} {body : AuditBody} {counter : Option Nat} {d : Device} {n : Nat}
    (hn : d.auu.next = some n) : append nv src body counter d = request ⟨src, .audit d.auu.writePos ⟨n, body, d.nvc.clock, counter⟩⟩
      { d with auu := ⟨(appendedAt d.auu.writePos n).1, (appendedAt d.auu.writePos n).2, d.auu.refused⟩ } := by
  simp only [append, hn]
  rfl

theorem append_exhausted {nv : NvStore} {src : Requester} {body : AuditBody} {counter : Option Nat} {d : Device}
    (hn : d.auu.next = none) : append nv src body counter d = appendRefused nv d := by
  simp only [append, hn]

theorem requestStatus_cells (nv : NvStore) (rec : StatusRec) (forLong : Bool) (d : Device) :
    CellSame (requestStatus nv rec forLong d) d := by
  unfold requestStatus
  split <;> simp [CellSame]

/-- A refused append leaves the cell lines and the mark of CEL, and is remembered. -/
theorem appendRefused_cells (nv : NvStore) (d : Device) :
    CellSame (appendRefused nv d) { d with auu := { d.auu with refused := true } } := by
  unfold appendRefused
  dsimp only
  split
  next h =>
    have hsame : ({ d.auu with refused := true } : Auu) = d.auu := by rw [← h]
    simp only [CellSame, hsame, and_self]
  next =>
    generalize (if d.mst.state = .calibrated then MetState.suspect else d.mst.state) = st
    split
    · exact (requestStatus_cells _ _ _ _).trans (raise_cells (c := .met) (by decide) _)
    · exact raise_cells (c := .met) (by decide) _

/-- An append, made or refused, leaves the cell lines and the mark of CEL. -/
theorem append_cells (nv : NvStore) (src : Requester) (body : AuditBody) (counter : Option Nat) (d : Device) :
    CellSame (append nv src body counter d) { d with auu := (append nv src body counter d).auu } := by
  cases hn : d.auu.next with
  | some n =>
    rw [append_next hn]
    obtain ⟨h1, h2, -, h4, h5, h6, h7, h8, h9⟩ := request_cells ⟨src, .audit d.auu.writePos ⟨n, body, d.nvc.clock, counter⟩⟩
      { d with auu := ⟨(appendedAt d.auu.writePos n).1, (appendedAt d.auu.writePos n).2, d.auu.refused⟩ }
    exact ⟨h1, h2, rfl, h4, h5, h6, h7, h8, h9⟩
  | none =>
    rw [append_exhausted hn]
    obtain ⟨h1, h2, -, h4, h5, h6, h7, h8, h9⟩ := appendRefused_cells nv d
    exact ⟨h1, h2, rfl, h4, h5, h6, h7, h8, h9⟩

theorem request_asks_self (r : WriteReq) (d : Device) : (request r d).nvc.Asks r :=
  startWrite_asks (List.mem_append_right _ (List.mem_append_right _ List.mem_cons_self))

/-! ### Entry into MISMATCH (R19) -/

section entry

variable {nv : NvStore} {i : SlotId} {x : Slot} {d : Device}

/-- The part with the CELL-MISMATCH request of a slot about to be made. -/
def askedMismatch (i : SlotId) (x : Slot) (d : Device) : Device :=
  storeSlot i { x with owed := false, requested := d.auu.next.isSome } (noticed .cel (storeSlot i x d))

theorem slotOf_noticed (c : Notice) (j : SlotId) (e : Device) : slotOf (noticed c e) j = slotOf e j := slotOf_raise c e j

theorem noticed_cel {e : Device} (h : e.ntc.enabled.cel = true) : (noticed .cel e).ntc.pending.cel = true := by
  rw [noticed_ntc]
  show (noticedNtc .cel e.ntc).pending.cel = true
  rw [noticedNtc_cel, h, Bool.or_true]

theorem noticed_auu (c : Notice) (e : Device) : (noticed c e).auu = e.auu := by
  rw [noticed_ntc]

theorem putSlot_entry (hx : x.state = .mismatch) (hold : (slotOf d i).state ≠ .mismatch) :
    putSlot nv i x d = enterMismatch nv i (noticed .cel (storeSlot i x d)) := by
  have hne : ¬ x.state = (slotOf d i).state := fun h => hold (h.symm.trans hx)
  rw [putSlot]
  exact (if_neg hne).trans (if_pos hx)

/-- While an earlier request stands, the owed mark stands instead. -/
theorem putSlot_entry_marked (hx : x.state = .mismatch) (hold : (slotOf d i).state ≠ .mismatch) (hr : x.requested = true) :
    putSlot nv i x d = storeSlot i { x with owed := true } (noticed .cel (storeSlot i x d)) := by
  rw [putSlot_entry hx hold, enterMismatch, slotOf_noticed, slotOf_storeSlot_self, if_pos hr]

/-- Else the CELL-MISMATCH record is asked for, of the slot, the expected serial and the one found. -/
theorem putSlot_entry_asked (hx : x.state = .mismatch) (hold : (slotOf d i).state ≠ .mismatch) (hr : x.requested = false) :
    putSlot nv i x d = append nv (.mismatch i) (.cellMismatch i (expectedSerial d i) (serialOf x)) (some d.mst.counter)
      (askedMismatch i x d) := by
  have hbool : ¬ x.requested = true := by rw [hr]; decide
  rw [putSlot_entry hx hold, enterMismatch, slotOf_noticed, slotOf_storeSlot_self, if_neg hbool, requestMismatch, slotOf_noticed,
    slotOf_storeSlot_self, noticed_auu, askedMismatch, noticed_ntc]
  rfl

theorem askedMismatch_auu : (askedMismatch i x d).auu = d.auu := noticed_auu _ _

theorem askedMismatch_next {n : Nat} (hn : d.auu.next = some n) : (askedMismatch i x d).auu.next = some n := by
  rw [askedMismatch_auu, hn]

end entry

/-! ### Slots that take any new record (R19, R23) -/

section put

variable {nv : NvStore} {i : SlotId} {x : Slot} {d : Device}

/-- A slot's record as it stands once it is taken: an entry into MISMATCH sets the owed mark, or asks for the record. -/
def takenSlot (next : Option Nat) (old x : Slot) : Slot :=
  if x.state = .mismatch ∧ old.state ≠ .mismatch then
    if x.requested = true then { x with owed := true } else { x with owed := false, requested := next.isSome }
  else x

/-- The slots, lines and polling after a slot has taken a new record. -/
theorem putSlot_clc : (putSlot nv i x d).clc = { d.clc with slots := (putSlot nv i x d).clc.slots } ∧
    ∀ j, slotOf (putSlot nv i x d) j = if j = i then takenSlot d.auu.next (slotOf d i) x else slotOf d j := by
  by_cases hentry : x.state = .mismatch ∧ (slotOf d i).state ≠ .mismatch
  · obtain ⟨hx, hold⟩ := hentry
    have htaken : takenSlot d.auu.next (slotOf d i) x =
        if x.requested = true then { x with owed := true } else { x with owed := false, requested := d.auu.next.isSome } :=
      if_pos ⟨hx, hold⟩
    cases hr : x.requested with
    | true =>
      rw [putSlot_entry_marked hx hold hr, noticed_ntc]
      refine ⟨rfl, fun j => ?_⟩
      rw [htaken, hr, if_pos rfl]
      refine (slotOf_storeSlot _ _ _ _).trans ?_
      by_cases hj : j = i
      · simp only [hj, if_true]
      · simp only [hj, if_false]
        exact (slotOf_storeSlot i j x d).trans (if_neg hj)
    | false =>
      have hclc : (append nv (.mismatch i) (.cellMismatch i (expectedSerial d i) (serialOf x)) (some d.mst.counter)
        (askedMismatch i x d)).clc = (askedMismatch i x d).clc := (append_cells _ _ _ _ _).1
      have hasked : (askedMismatch i x d).clc = { d.clc with slots := (askedMismatch i x d).clc.slots } := by
        rw [askedMismatch, noticed_ntc]
        rfl
      rw [putSlot_entry_asked hx hold hr, hclc]
      refine ⟨hasked, fun j => (slotOf_congr (congrArg Clc.slots hclc) j).trans ?_⟩
      rw [htaken, hr, askedMismatch, slotOf_storeSlot, slotOf_noticed, slotOf_storeSlot, if_neg Bool.false_ne_true]
      by_cases hj : j = i
      · simp only [hj, if_true]
      · simp only [hj, if_false]
  · rw [putSlot_eq fun hold hx => hentry ⟨hx, hold⟩, takenSlot, if_neg hentry]
    exact ⟨rfl, fun j => Slots.sel_put _ _ _ _⟩

/-- The audit unit is left alone but by a request of the record. -/
theorem putSlot_auu (h : x.state ≠ .mismatch ∨ (slotOf d i).state = .mismatch ∨ x.requested = true) :
    (putSlot nv i x d).auu = d.auu := by
  by_cases hentry : x.state = .mismatch ∧ (slotOf d i).state ≠ .mismatch
  · obtain ⟨hx, hold⟩ := hentry
    obtain h | h | h := h
    · exact absurd hx h
    · exact absurd h hold
    · rw [putSlot_entry_marked hx hold h]
      exact noticed_auu _ _
  · rw [putSlot_eq fun hold hx => hentry ⟨hx, hold⟩]

theorem putSlot_taken {n : Nat} (hx : x.state = .mismatch) (hold : (slotOf d i).state ≠ .mismatch) (hr : x.requested = false)
    (hn : d.auu.next = some n) :
    (putSlot nv i x d).nvc.Asks ⟨.mismatch i, .audit d.auu.writePos ⟨n, .cellMismatch i (expectedSerial d i) (serialOf x),
      d.nvc.clock, some d.mst.counter⟩⟩ ∧
    (putSlot nv i x d).auu = ⟨(appendedAt d.auu.writePos n).1, (appendedAt d.auu.writePos n).2, d.auu.refused⟩ := by
  have hclock : (askedMismatch i x d).nvc.clock = d.nvc.clock := by
    rw [askedMismatch, noticed_ntc]
    rfl
  rw [putSlot_entry_asked hx hold hr, append_next (askedMismatch_next hn), hclock, askedMismatch_auu]
  exact ⟨request_asks_self _ _, (request_cells _ _).2.2.1⟩

theorem putSlot_refused (hx : x.state = .mismatch) (hold : (slotOf d i).state ≠ .mismatch) (hr : x.requested = false)
    (hn : d.auu.next = none) : (putSlot nv i x d).auu = { d.auu with refused := true } := by
  rw [putSlot_entry_asked hx hold hr, append_exhausted (by rw [askedMismatch_auu, hn]), (appendRefused_cells _ _).2.2.1]
  exact congrArg (fun u : Auu => { u with refused := true }) askedMismatch_auu

theorem putSlot_raises (hs : x.state ≠ (slotOf d i).state) (hen : d.ntc.enabled.cel = true) :
    (putSlot nv i x d).ntc.pending.cel = true := by
  by_cases hentry : x.state = .mismatch ∧ (slotOf d i).state ≠ .mismatch
  · obtain ⟨hx, hold⟩ := hentry
    cases hr : x.requested with
    | true =>
      rw [putSlot_entry_marked hx hold hr]
      exact noticed_cel hen
    | false =>
      rw [putSlot_entry_asked hx hold hr]
      exact (append_cells _ _ _ _ _).2.2.2.2.1.trans (noticed_cel (e := storeSlot i x d) hen)
  · rw [putSlot_eq fun hold hx => hentry ⟨hx, hold⟩, if_neg hs]
    show (noticedNtc .cel d.ntc).pending.cel = true
    rw [noticedNtc_cel, hen, Bool.or_true]

end put

/-! ### A valid frame (R9 to R19) -/

theorem stepSlot_heard (h : Nat) (o : SlotOutcome) (x : Slot) :
    (stepSlot h o x).lastRaw = x.lastRaw ∧ (stepSlot h o x).lastCount = x.lastCount ∧ (stepSlot h o x).lastFlags = x.lastFlags := by
  cases hs : x.state <;> simp only [stepSlot, hs, countMiss, countGood]
  case unused => exact ⟨trivial, trivial, trivial⟩
  case mismatch => exact ⟨trivial, trivial, trivial⟩
  all_goals split_ifs <;> exact ⟨rfl, rfl, rfl⟩

theorem storeMessage_heard (item v : Nat) (x : Slot) :
    (storeMessage item v x).lastRaw = x.lastRaw ∧ (storeMessage item v x).lastCount = x.lastCount ∧
    (storeMessage item v x).lastFlags = x.lastFlags ∧ (storeMessage item v x).lastOutcome = x.lastOutcome := by
  unfold storeMessage
  split <;> exact ⟨rfl, rfl, rfl, rfl⟩

theorem identityCheck_heard (expected : Option Nat) (x : Slot) :
    (identityCheck expected x).lastRaw = x.lastRaw ∧ (identityCheck expected x).lastCount = x.lastCount ∧
    (identityCheck expected x).lastFlags = x.lastFlags ∧ (identityCheck expected x).lastOutcome = x.lastOutcome := by
  cases hn : serialOf x with
  | none =>
    rw [identityCheck_none hn]
    exact ⟨rfl, rfl, rfl, rfl⟩
  | some n =>
    rw [identityCheck_some hn]
    split_ifs <;> exact ⟨rfl, rfl, rfl, rfl⟩

/-- A side message leaves what the frame itself brought. -/
theorem sideMessage_heard (expected : Option Nat) (x : Slot) :
    (sideMessage expected x).lastRaw = x.lastRaw ∧ (sideMessage expected x).lastCount = x.lastCount ∧
    (sideMessage expected x).lastFlags = x.lastFlags ∧ (sideMessage expected x).lastOutcome = x.lastOutcome := by
  by_cases hl : x.assembly.length < 20
  · rw [sideMessage_short hl]
    exact ⟨rfl, rfl, rfl, rfl⟩
  · cases hm : readMessage x.assembly with
    | none =>
      rw [sideMessage_wrong (Nat.not_lt.1 hl) hm]
      exact ⟨rfl, rfl, rfl, rfl⟩
    | some m =>
      obtain ⟨item, v⟩ := m
      obtain ⟨hraw, hcount, hflags, hlast⟩ := storeMessage_heard item v { x with assembly := [] }
      obtain ⟨iraw, icount, iflags, ilast⟩ := identityCheck_heard expected (storeMessage item v { x with assembly := [] })
      rw [sideMessage_right (Nat.not_lt.1 hl) hm]
      split
      · exact ⟨iraw.trans hraw, icount.trans hcount, iflags.trans hflags, ilast.trans hlast⟩
      · exact ⟨hraw, hcount, hflags, hlast⟩

/-- What a valid frame itself leaves in its slot: raw count, rolling count, flags and outcome. -/
theorem frameSlot_heard (h : Nat) (expected : Option Nat) (f : Frame) (x : Slot) :
    (frameSlot h expected f x).lastRaw = some f.raw ∧ (frameSlot h expected f x).lastCount = some f.count ∧
    (frameSlot h expected f x).lastFlags = some f.flags ∧
    (frameSlot h expected f x).lastOutcome = some (classify x.lastCount f) := by
  obtain ⟨hraw, hcount, hflags⟩ := stepSlot_heard h (classify x.lastCount f) (heardSlot f x)
  have hlast := stepSlot_lastOutcome h (classify x.lastCount f) (heardSlot f x)
  by_cases ho : classify x.lastCount f = .stale
  · rw [frameSlot_stale ho]
    exact ⟨hraw, hcount, hflags, hlast⟩
  · obtain ⟨sraw, scount, sflags, slast⟩ := sideMessage_heard expected
      { stepSlot h (classify x.lastCount f) (heardSlot f x) with assembly := assemble f x.assembly }
    rw [frameSlot_fresh ho]
    exact ⟨sraw.trans hraw, scount.trans hcount, sflags.trans hflags, slast.trans hlast⟩

theorem becomes_dev (s : State) (d : Device) : (becomes s d).dev.auu = d.auu ∧ (becomes s d).dev.ntc = d.ntc ∧
    (becomes s d).dev.nvc = d.nvc := by
  rw [becomes, refreshLights_eq]
  exact ⟨rfl, rfl, rfl⟩

/-- Settles O35: the slot takes its record, and its line goes on. -/
theorem replyFrameActs : Obligations.ReplyFrameActs := by
  intro l a ref syms f s hrun hph hp hdec x
  have hexec : exec (.replyFrame l ref syms) s = .next (becomes s (lineGoesOn s.nv l (putSlot s.nv ⟨l, a⟩ x s.dev))) := by
    refine congrArg (fun d => Host.Outcome.next (becomes s d)) (?_ : replyFrame l ref syms s.nv s.dev = _)
    simp only [replyFrame, hph, hrun, if_true, hdec]
    exact congrArg (lineGoesOn s.nv l) (if_pos hp)
  obtain ⟨hraw, hcount, hflags, hlast⟩ := frameSlot_heard s.dev.nvc.settings.hold (expectedSerial s.dev ⟨l, a⟩) f
    (slotOf s.dev ⟨l, a⟩)
  obtain ⟨hrxP, hqueueP, -⟩ := putSlot_host s.nv ⟨l, a⟩ x s.dev
  obtain ⟨hclcP, hslotP⟩ := putSlot_clc (nv := s.nv) (i := ⟨l, a⟩) (x := x) (d := s.dev)
  obtain ⟨hslotsL, hpolledL, hotherL, hlineL⟩ := lineGoesOn_spec s.nv l (putSlot s.nv ⟨l, a⟩ x s.dev)
  obtain ⟨hrxL, hqueueL⟩ := lineGoesOn_same s.nv l (putSlot s.nv ⟨l, a⟩ x s.dev)
  obtain ⟨_, -, -, hauuL, -, hcelL, -⟩ := handSample_cells s.nv (storeLine l { lineOf (putSlot s.nv ⟨l, a⟩ x s.dev) l with
    phase := nextPhase (putSlot s.nv ⟨l, a⟩ x s.dev) l } (putSlot s.nv ⟨l, a⟩ x s.dev))
  have hasksL {q : WriteReq} (h : (putSlot s.nv ⟨l, a⟩ x s.dev).nvc.Asks q) :
      (lineGoesOn s.nv l (putSlot s.nv ⟨l, a⟩ x s.dev)).nvc.Asks q := handSample_asks s.nv (d := storeLine _ _ _) h
  obtain ⟨hrxT, htxT⟩ := becomes_host s (lineGoesOn s.nv l (putSlot s.nv ⟨l, a⟩ x s.dev))
  obtain ⟨hauuT, hntcT, hnvcT⟩ := becomes_dev s (lineGoesOn s.nv l (putSlot s.nv ⟨l, a⟩ x s.dev))
  have hclcT := becomes_clc s (lineGoesOn s.nv l (putSlot s.nv ⟨l, a⟩ x s.dev))
  have hnv : (becomes s (lineGoesOn s.nv l (putSlot s.nv ⟨l, a⟩ x s.dev))).nv = s.nv := rfl
  generalize becomes s (lineGoesOn s.nv l (putSlot s.nv ⟨l, a⟩ x s.dev)) = t at *
  have hauu : t.dev.auu = (putSlot s.nv ⟨l, a⟩ x s.dev).auu := hauuT.trans hauuL
  have hlinesP (k : Ix) : lineOf (putSlot s.nv ⟨l, a⟩ x s.dev) k = lineOf s.dev k := lineOf_congr (by rw [hclcP]) k
  have hline (k : Ix) : lineOf t.dev k = lineOf (lineGoesOn s.nv l (putSlot s.nv ⟨l, a⟩ x s.dev)) k := lineOf_congr (by rw [hclcT]) k
  have hslot (j : SlotId) : slotOf t.dev j =
      if j = ⟨l, a⟩ then takenSlot s.dev.auu.next (slotOf s.dev ⟨l, a⟩) x else slotOf s.dev j :=
    (slotOf_congr (by rw [hclcT, hslotsL]) j).trans (hslotP j)
  have hun : unpolled t.dev l = unpolled (putSlot s.nv ⟨l, a⟩ x s.dev) l :=
    unpolled_congr (by rw [hclcT, hpolledL]) (by rw [hclcT, hslotsL]) l
  refine ⟨t, hexec, hnv, ?_, ?_, fun i hi => (hslot i).trans (if_neg hi), fun k hk => ?_, ?_, hraw, hcount, hflags, ?_,
    fun h => ?_, fun hx hold => ?_, fun h => hauu.trans (putSlot_auu h), fun hx hold hr => ⟨fun n hn => ?_, fun hn => ?_⟩,
    fun hs hen => ?_⟩
  · rw [hrxT, hrxL, hrxP]
  · rw [htxT, hqueueL, hqueueP]
  · rw [hline, hotherL k hk, hlinesP]
  · rw [hline, hlineL, hun, hlinesP]
  · rw [hlast]
    rfl
  · rw [hslot, if_pos rfl, takenSlot, if_neg]
    rintro ⟨hx, hold⟩
    exact h.elim (fun h => h hx) hold
  · rw [hslot, if_pos rfl, takenSlot, if_pos ⟨hx, hold⟩]
  · obtain ⟨hasks, hauuP⟩ := putSlot_taken (nv := s.nv) hx hold hr hn
    refine ⟨?_, hauu.trans hauuP⟩
    rw [← asks_iff, hnvcT]
    exact hasksL hasks
  · exact hauu.trans (putSlot_refused hx hold hr hn)
  · rw [hntcT]
    exact hcelL.trans (putSlot_raises hs hen)

end Sys2Proof.Machine
end

section
/-! PROOF. Faults of the cell lines: shorts, retries and recoveries. -/

namespace Sys2Proof.Machine

open Sys2Proof.Safety

/-! ### Shorts (R24) -/

/-- A slot of a line that becomes SHORTED, its poll ended with BAD when it was the one being polled. -/
def cutSlot (d : Device) (l : Ix) (i : SlotId) : Slot :=
  if i.line = l ∧ (lineOf d l).phase = .waiting i.addr ∧ isPolled d i = true then missSlot d.nvc.settings.hold .bad (slotOf d i)
  else slotOf d i

theorem shortedSlot_spec (nv : NvStore) (l : Ix) (d : Device) :
    SlotsChanged d (shortedSlot nv l d) ∧ ∀ i, slotOf (shortedSlot nv l d) i = cutSlot d l i := by
  cases hph : (lineOf d l).phase with
  | waiting a =>
    have hshort : shortedSlot nv l d = waitedMiss nv .bad ⟨l, a⟩ d := by simp only [shortedSlot, hph]
    rw [hshort]
    cases hp : isPolled d ⟨l, a⟩ with
    | true =>
      have hmiss : waitedMiss nv .bad ⟨l, a⟩ d = missOutcome nv .bad ⟨l, a⟩ d := if_pos hp
      rw [hmiss]
      refine ⟨putSlot_changed (missSlot_state_ne_mismatch _ _), fun i => ?_⟩
      rw [missOutcome, putSlot_eq (missSlot_state_ne_mismatch _ _)]
      refine (Slots.sel_put _ _ _ _).trans ?_
      by_cases hi : i = ⟨l, a⟩
      · subst hi
        rw [if_pos rfl, cutSlot, if_pos ⟨rfl, hph, hp⟩]
      · rw [if_neg hi, cutSlot, if_neg]
        · rfl
        · rintro ⟨hl, ha, -⟩
          rw [hph, LinePhase.waiting.injEq] at ha
          obtain ⟨k, b⟩ := i
          exact hi (by rw [SlotId.mk.injEq]; exact ⟨hl, ha.symm⟩)
    | false =>
      have hnone : waitedMiss nv .bad ⟨l, a⟩ d = d := if_neg (by rw [hp]; decide)
      rw [hnone]
      refine ⟨.refl d, fun i => ?_⟩
      rw [cutSlot, if_neg]
      rintro ⟨hl, ha, hpi⟩
      rw [hph, LinePhase.waiting.injEq] at ha
      obtain ⟨k, b⟩ := i
      obtain rfl : k = l := hl
      obtain rfl : a = b := ha
      exact Bool.false_ne_true (hp.symm.trans hpi)
  | _ =>
    have hshort : shortedSlot nv l d = d := by simp only [shortedSlot, hph]
    rw [hshort]
    refine ⟨.refl d, fun i => ?_⟩
    rw [cutSlot, if_neg]
    rintro ⟨-, ha, -⟩
    rw [hph] at ha
    cases ha

/-- A slot of a faulted line: a configured one but in MISMATCH is FAULTED. -/
def faultSlot (conf : Bool) (x : Slot) : Slot := if conf = true ∧ x.state ≠ .mismatch then toFaulted x else x

theorem faultSlot_state (conf : Bool) {x : Slot} (h : x.state ≠ .mismatch) : (faultSlot conf x).state ≠ .mismatch := by
  unfold faultSlot
  split
  · exact SlotState.noConfusion
  · exact h

theorem faultLine_spec (nv : NvStore) (l : Ix) (d : Device) : SlotsChanged d (faultLine nv l d) ∧
    ∀ i, slotOf (faultLine nv l d) i = if i.line = l then faultSlot (configured d i) (slotOf d i) else slotOf d i := by
  obtain ⟨hchanged, hslot⟩ := mapSlots_spec (nv := nv) (f := fun i s => faultSlot (configured d i) s)
    (fun i _ => faultSlot_state (configured d i)) (SlotId.nodup_ofLine l) d
  refine ⟨hchanged, fun i => (hslot i).trans ?_⟩
  simp only [SlotId.mem_ofLine]

/-- The part as a line is SHORTED, before the SILENT outcomes. -/
def shortedLine (nv : NvStore) (l : Ix) (d : Device) : Device :=
  noticed .cel (storeLine l ⟨.shorted, .idle, none, false, (faultLine nv l (shortedSlot nv l d)).now + 1000⟩
    (faultLine nv l (shortedSlot nv l d)))

theorem lineShorted_eq {nv : NvStore} {l : Ix} {d : Device} (hrun : running d = true) (ha : (lineOf d l).status = .active) :
    lineShorted l nv d = handSample nv (silentSlots nv (shortedLine nv l d)) := by
  simp only [lineShorted, hrun, ha, beq_self_eq_true, Bool.and_self, if_true]
  rfl

theorem noticed_clc (c : Notice) (d : Device) : (noticed c d).clc = d.clc := by
  rw [noticed_ntc]

theorem lineOf_noticed (c : Notice) (k : Ix) (d : Device) : lineOf (noticed c d) k = lineOf d k :=
  lineOf_congr (by rw [noticed_clc]) k

theorem missSlot_faulted (h : Nat) {o : SlotOutcome} (ho : o ≠ .good) {x : Slot} (hs : x.state = .faulted) :
    (missSlot h o x).state = .faulted ∧ (missSlot h o x).run = 0 := by
  have hstep : stepSlot h o (recordOutcome o x) = { recordOutcome o x with run := 0 } := by
    rw [stepSlot_faulted (by exact hs), if_neg ho]
  rw [missSlot, hstep]
  exact ⟨hs, rfl⟩

theorem missSlot_mismatch (h : Nat) (o : SlotOutcome) {x : Slot} (hs : x.state = .mismatch) : (missSlot h o x).state = .mismatch := by
  rw [missSlot, stepSlot_idle (.inl (by exact hs))]
  exact hs

/-- What a short leaves: its line SHORTED, its slots cut and faulted, and SILENT for the polled slots of SHORTED lines left open. -/
theorem shortedLine_spec (nv : NvStore) (l : Ix) (d : Device) : LineRest (shortedLine nv l d) d ∧
    (shortedLine nv l d).clc.polled = d.clc.polled ∧
    (∀ k, lineOf (shortedLine nv l d) k = if k = l then ⟨.shorted, .idle, none, false, d.now + 1000⟩ else lineOf d k) ∧
    (∀ i, slotOf (shortedLine nv l d) i = if i.line = l then faultSlot (configured d i) (cutSlot d l i) else slotOf d i) ∧
    (d.ntc.enabled.cel = true → (shortedLine nv l d).ntc.pending.cel = true) := by
  obtain ⟨hcut, hcutSlot⟩ := shortedSlot_spec nv l d
  obtain ⟨hfault, hfaultSlot⟩ := faultLine_spec nv l (shortedSlot nv l d)
  have hchanged := hcut.trans hfault
  have hrest := hchanged.lineRest
  obtain ⟨hlines, hpolled, -⟩ := hchanged.clc
  have hconf (i : SlotId) : configured (shortedSlot nv l d) i = configured d i := configured_congr hcut.lineRest.active i
  have hout : LineRest (shortedLine nv l d) (faultLine nv l (shortedSlot nv l d)) := by
    rw [shortedLine, noticed_ntc]
    exact ⟨rfl, rfl, rfl, rfl, rfl, rfl, rfl⟩
  refine ⟨hout.trans hrest, ?_, fun k => ?_, fun i => ?_, fun hen => ?_⟩
  · rw [shortedLine, noticed_clc]
    exact hpolled
  · rw [shortedLine, lineOf_noticed, lineOf_storeLine, hrest.now, lineOf_congr hlines]
  · rw [shortedLine, slotOf_noticed, slotOf_storeLine, hfaultSlot, hcutSlot, hconf]
    by_cases hl : i.line = l
    · rw [if_pos hl, if_pos hl]
    · rw [if_neg hl, if_neg hl, cutSlot, if_neg fun h => hl h.1]
  · exact noticed_cel (e := storeLine _ _ _) (hchanged.enabled.symm ▸ hen)

theorem silentSlots_spec (nv : NvStore) (d : Device) : SlotsChanged d (silentSlots nv d) ∧
    ∀ i, slotOf (silentSlots nv d) i = if (isPolled d i && (lineOf d i.line).status == .shorted && (slotOf d i).cycle.isNone) = true
      then missSlot d.nvc.settings.hold .silent (slotOf d i) else slotOf d i := missAll_spec _ _ _ _

/-! ### Recoveries (R25) -/

/-- A slot of a recovered line: a configured one but in MISMATCH is SEEKING. -/
def seekSlot (conf : Bool) (x : Slot) : Slot := if conf = true ∧ x.state ≠ .mismatch then toSeeking x else x

theorem seekSlot_state (conf : Bool) {x : Slot} (h : x.state ≠ .mismatch) : (seekSlot conf x).state ≠ .mismatch := by
  unfold seekSlot
  split
  · exact SlotState.noConfusion
  · exact h

/-- The part as a line is ACTIVE again, before its slots seek. -/
def recoveredLine (l : Ix) (d : Device) : Device := noticed .cel (storeLine l ⟨.active, .idle, (lineOf d l).pulse, false, 0⟩ d)

theorem lineRecovery_eq {nv : NvStore} {l : Ix} {d : Device} (hrun : running d = true) (hs : (lineOf d l).status = .shorted)
    (hw : (lineOf d l).watching = true) :
    lineRecovery l nv d = mapSlots nv (fun i s => seekSlot (configured d i) s) (SlotId.ofLine l) (recoveredLine l d) := by
  have hconf (i : SlotId) : configured (recoveredLine l d) i = configured d i := configured_congr (by
    rw [recoveredLine, noticed_ntc]
    rfl) i
  simp only [lineRecovery, hrun, hs, hw, beq_self_eq_true, Bool.and_self, if_true, ← hconf]
  rfl

/-- A next state differs from the part alone in the lights. -/
theorem becomes_lights (s : State) (d : Device) : (becomes s d).dev = { d with lsv := (becomes s d).dev.lsv } := by
  rw [becomes, refreshLights_eq]

/-- Settles O39: a short cuts, faults and silences; a retry watches; a recovery seeks. -/
theorem lineFaults : Obligations.LineFaults := by
  intro l s hrun
  refine ⟨fun ha => ?_, fun hs => ?_, fun hs hw => ?_, fun ha => ⟨?_, ?_⟩⟩
  · have hexec : exec (.lineShorted l) s = .next (becomes s (handSample s.nv (silentSlots s.nv (shortedLine s.nv l s.dev)))) :=
      congrArg (fun d => Host.Outcome.next (becomes s d)) (lineShorted_eq hrun ha)
    obtain ⟨hrest, hpolled, hline, hslot, hcel⟩ := shortedLine_spec s.nv l s.dev
    obtain ⟨hsilent, hsilentSlot⟩ := silentSlots_spec s.nv (shortedLine s.nv l s.dev)
    obtain ⟨hlinesS, hpolledS, -⟩ := hsilent.clc
    obtain ⟨hslots, hlines, -⟩ := handSample_clc s.nv (silentSlots s.nv (shortedLine s.nv l s.dev))
    obtain ⟨_, -, -, -, -, hcelH, -⟩ := handSample_cells s.nv (silentSlots s.nv (shortedLine s.nv l s.dev))
    have hout := (((becomes_rest s _).trans (handSample_rest s.nv _)).trans hsilent.lineRest).trans hrest
    have hclc := becomes_clc s (handSample s.nv (silentSlots s.nv (shortedLine s.nv l s.dev)))
    have hntc := (becomes_dev s (handSample s.nv (silentSlots s.nv (shortedLine s.nv l s.dev)))).2.1
    have hnv : (becomes s (handSample s.nv (silentSlots s.nv (shortedLine s.nv l s.dev)))).nv = s.nv := rfl
    generalize becomes s (handSample s.nv (silentSlots s.nv (shortedLine s.nv l s.dev))) = t at *
    have hlineT (k : Ix) : lineOf t.dev k = if k = l then ⟨.shorted, .idle, none, false, s.dev.now + 1000⟩ else lineOf s.dev k := by
      rw [← hline]
      exact lineOf_congr (by rw [hclc, hlines, hlinesS]) k
    have hslotT (i : SlotId) := (slotOf_congr (a := t.dev) (by rw [hclc, hslots]) i).trans (hsilentSlot i)
    have hpoll (i : SlotId) : isPolled (shortedLine s.nv l s.dev) i = isPolled s.dev i := isPolled_congr hpolled i
    have hown (i : SlotId) (hi : i.line = l) : slotOf t.dev i =
        if isPolled s.dev i = true ∧ (faultSlot (configured s.dev i) (cutSlot s.dev l i)).cycle = none
        then missSlot s.dev.nvc.settings.hold .silent (faultSlot (configured s.dev i) (cutSlot s.dev l i))
        else faultSlot (configured s.dev i) (cutSlot s.dev l i) := by
      simp only [hslotT, hpoll, hline, hslot, hi, if_true, hrest.settings, beq_self_eq_true, Bool.and_true, Bool.and_eq_true,
        Option.isNone_iff_eq_none]
    refine ⟨t, hexec, hnv, hout.rx, hout.queue, (hlineT l).trans (if_pos rfl), fun k hk => (hlineT k).trans (if_neg hk),
      fun i hi hc hm => ?_, fun i hi hm => ?_, fun i hi => ?_, fun i hl hi => ?_, fun hen => ?_⟩
    · have hcut : (cutSlot s.dev l i).state ≠ .mismatch := by
        unfold cutSlot
        split
        · exact missSlot_state_ne_mismatch _ _ hm
        · exact hm
      have hfault : faultSlot (configured s.dev i) (cutSlot s.dev l i) = toFaulted (cutSlot s.dev l i) := if_pos ⟨hc, hcut⟩
      rw [hown i hi, hfault]
      split
      · exact missSlot_faulted _ (by decide) rfl
      · exact ⟨rfl, rfl⟩
    · have hcut : (cutSlot s.dev l i).state = .mismatch := by
        unfold cutSlot
        split
        · exact missSlot_mismatch _ _ hm
        · exact hm
      have hfault : faultSlot (configured s.dev i) (cutSlot s.dev l i) = cutSlot s.dev l i := if_neg fun h => h.2 hcut
      rw [hown i hi, hfault]
      split
      · exact missSlot_mismatch _ _ hcut
      · exact hcut
    · intro h x y
      have hx : cutSlot s.dev l i = x := by
        simp only [cutSlot, hi, true_and]
        rfl
      have hy : faultSlot (configured s.dev i) (cutSlot s.dev l i) = y := by rw [hx]; rfl
      rw [hown i hi, hy]
    · rw [hslotT, hline, if_neg hi, hl, hslot, if_neg hi, if_neg]
      simp
    · rw [hntc]
      exact hcelH.trans (hsilent.cel (hcel hen))
  · refine congrArg (fun d => Host.Outcome.next (becomes s d)) (?_ : shortRetry l s.nv s.dev = _)
    simp only [shortRetry, hrun, hs, beq_self_eq_true, Bool.and_self, if_true]
    rfl
  · have hexec : exec (.lineRecovery l) s = .next (becomes s (mapSlots s.nv (fun i s' => seekSlot (configured s.dev i) s')
        (SlotId.ofLine l) (recoveredLine l s.dev))) :=
      congrArg (fun d => Host.Outcome.next (becomes s d)) (lineRecovery_eq hrun hs hw)
    obtain ⟨hchanged, hslot⟩ := mapSlots_spec (nv := s.nv) (f := fun i s' => seekSlot (configured s.dev i) s')
      (fun i _ => seekSlot_state (configured s.dev i)) (SlotId.nodup_ofLine l) (recoveredLine l s.dev)
    generalize mapSlots s.nv (fun i s' => seekSlot (configured s.dev i) s') (SlotId.ofLine l) (recoveredLine l s.dev) = m at *
    have hout : (becomes s m).dev = { s.dev with clc := m.clc, ntc := m.ntc, lsv := (becomes s m).dev.lsv } := by
      have hrec : recoveredLine l s.dev = { s.dev with clc := (recoveredLine l s.dev).clc, ntc := (recoveredLine l s.dev).ntc } := by
        rw [recoveredLine, noticed_ntc]
        rfl
      rw [becomes_lights, hchanged.rest, hrec]
    have hnv : (becomes s m).nv = s.nv := rfl
    generalize becomes s m = t at *
    have hclc : t.dev.clc = m.clc := by rw [hout]
    have hline (k : Ix) : lineOf t.dev k = if k = l then ⟨.active, .idle, (lineOf s.dev l).pulse, false, 0⟩ else lineOf s.dev k := by
      rw [lineOf_congr (congrArg Clc.lines hclc), lineOf_congr hchanged.clc.1, recoveredLine, lineOf_noticed, lineOf_storeLine]
    have hslotT (i : SlotId) : slotOf t.dev i = if i.line = l then seekSlot (configured s.dev i) (slotOf s.dev i) else slotOf s.dev i := by
      rw [slotOf_congr (congrArg Clc.slots hclc), hslot, recoveredLine, slotOf_noticed, slotOf_storeLine]
      simp only [SlotId.mem_ofLine]
    refine ⟨t, hexec, hnv, by rw [hout], by rw [hout], by rw [hout], by rw [hout],
      by rw [hout], by rw [hout], (hline l).trans (if_pos rfl), fun k hk => (hline k).trans (if_neg hk),
      fun i hi hc hm => ?_, fun i h => ?_, fun hen => ?_⟩
    · rw [hslotT, if_pos hi, seekSlot, if_pos ⟨hc, hm⟩]
      rfl
    · rw [hslotT]
      split
      next hi =>
        refine if_neg ?_
        rintro ⟨hc, hm⟩
        obtain h | h | h := h
        · exact h hi
        · exact Bool.false_ne_true (h.symm.trans hc)
        · exact hm h
      next => rfl
    · rw [congrArg Device.ntc hout]
      exact hchanged.cel (noticed_cel (e := storeLine _ _ _) hen)
  · refine congrArg (fun d => Host.Outcome.next (becomes s d)) (?_ : shortRetry l s.nv s.dev = _)
    exact if_neg (by rw [ha]; simp)
  · refine congrArg (fun d => Host.Outcome.next (becomes s d)) (?_ : lineRecovery l s.nv s.dev = _)
    exact if_neg (by rw [ha]; simp)

end Sys2Proof.Machine
end

section
/-! PROOF. The lane: its moves, its timers, the passages it opens and closes, and the events of beams, weight records and timers. -/

namespace Sys2Proof.Machine

open Sys2Proof.Safety

/-! ### Lane moves and the waits they end (R51, R58, R84, R158) -/

/-- A wait that ends when the lane reaches a state. -/
def endsLan (l : Lane) : Stage → Bool
  | .zerWait _ => !(l == .init || l == .clear)
  | .capWait (.vpt _) _ => !(l == .clear || l == .onDeck)
  | .capWait _ _ => !(l == .onDeck)
  | .runWait .cze _ _ => !(l == .clear || l == .init)
  | _ => false

theorem laneWaits_eq (d : Device) : laneWaits d = if endsLan d.lsv.lane d.exe.stage = true then failWith .lan [] d else d := by
  unfold laneWaits endsLan
  cases d.exe.stage with
  | zerWait k => cases d.lsv.lane <;> rfl
  | capWait c k => cases c <;> cases d.lsv.lane <;> rfl
  | runWait c k w => cases c <;> cases d.lsv.lane <;> rfl
  | _ => rfl

theorem setLane_eq (l : Lane) (d : Device) : setLane l d = { d with
    lsv := { d.lsv with lane := l }
    ntc := if d.lsv.lane = l then d.ntc else noticedNtc .lne d.ntc
    exe := if d.lsv.lane ≠ l ∧ endsLan l d.exe.stage = true then { d.exe with stage := .ended } else d.exe
    tx := if d.lsv.lane ≠ l ∧ endsLan l d.exe.stage = true
      then { d.tx with longs := d.tx.longs ++ [recordOf '#' (inFlightText d) [Code.lan.text]] } else d.tx } := by
  unfold setLane
  by_cases hl : d.lsv.lane = l
  · have hsame : ({ d.lsv with lane := l } : Lsv) = d.lsv := by rw [← hl]
    simp only [hl, hsame, if_true, ne_eq, not_true_eq_false, false_and, if_false]
  · rw [if_neg hl, raise_eq, noticed_ntc, laneWaits_eq]
    simp only [hl, if_false, ne_eq, not_false_eq_true, true_and]
    split
    · rfl
    · rfl

/-- ZER and CZE wait in INIT and CLEAR alone. -/
theorem endsLan_zero {l : Lane} {st : Stage} (h : (∃ k, st = .zerWait k) ∨ ∃ k w, st = .runWait .cze k w) :
    endsLan l st = true ↔ l ≠ .init ∧ l ≠ .clear := by
  obtain ⟨k, rfl⟩ | ⟨k, w, rfl⟩ := h <;> cases l <;> simp [endsLan]

/-- Every wait on the lane but a VPT's in CLEAR ends in ENTERING. -/
theorem endsLan_entering {st : Stage} (h : (∃ n, st = .zerWait n) ∨ (∃ c n, st = .capWait c n) ∨ ∃ n w, st = .runWait .cze n w) :
    endsLan .entering st = true := by
  obtain ⟨n, rfl⟩ | ⟨c, n, rfl⟩ | ⟨n, w, rfl⟩ := h
  · rfl
  · cases c <;> rfl
  · rfl

theorem inFlightText_eq {d : Device} {g : Tag} (h : d.exe.slot = some g) : inFlightText d = tagText g := by
  rw [inFlightText, h]
  rfl

theorem noticedNtc_lne {n : Ntc} (h : n.enabled.lne = true) : (noticedNtc .lne n).pending.lne = true := by
  have hget : n.enabled.get .lne = true := h
  rw [noticedNtc, if_pos hget]
  rfl

theorem noticedNtc_axl {n : Ntc} (h : n.enabled.axl = true) : (noticedNtc .axl n).pending.axl = true := by
  have hget : n.enabled.get .axl = true := h
  rw [noticedNtc, if_pos hget]
  rfl

/-! ### Timers (R68, R70) -/

theorem beamsClear_states (d : Device) : beamsClear d = true ↔ d.lsv.beamIn.state = false ∧ d.lsv.beamOut.state = false := by
  simp [beamsClear]

theorem inPassage_iff (l : Lane) : inPassage l = true ↔ l = .entering ∨ l = .onDeck ∨ l = .leaving := by
  simp [inPassage, or_assoc]

theorem settleHolds_iff (d : Device) : settleHolds d = true ↔ d.lsv.lane = .entering ∧
    (d.lsv.beamIn.state = false ∧ d.lsv.beamOut.state = false) ∧ d.lsv.occupancy = .occupied := by
  simp only [settleHolds, Bool.and_eq_true, beq_iff_eq, beamsClear_states, and_assoc]

theorem clearHolds_iff (d : Device) : clearHolds d = true ↔ (d.lsv.lane = .entering ∨ d.lsv.lane = .onDeck ∨ d.lsv.lane = .leaving) ∧
    (d.lsv.beamIn.state = false ∧ d.lsv.beamOut.state = false) ∧ d.lsv.occupancy = .empty := by
  simp only [clearHolds, Bool.and_eq_true, beq_iff_eq, beamsClear_states, inPassage_iff, and_assoc]

/-- Both timers stopped. -/
def timersStopped (d : Device) : Device := { d with lsv := { d.lsv with settle := none, clear := none } }

/-- A BLOCKED beam stops both timers, whatever they were. -/
theorem evalTimers_blocked (t : Nat) {d : Device} (h : beamsClear d = false) : evalTimers t d = timersStopped d := by
  simp only [evalTimers, timersStopped, settleHolds, clearHolds, h, Bool.and_false, Bool.false_and, timerNext, Bool.false_eq_true, if_false]

/-! ### Passages opened (R66, R67, R73) -/

/-- A passage as it opens. -/
def openedPassage (cause : OpenCause) (t : Nat) (d : Device) : Passage :=
  ⟨d.lsv.nextPassage, cause, d.nvc.clock, t, none, none, none, { PassFlags.none with tailgateIn := cause == .tailgate },
    [], [], [], [], none, none, false, 0, division d⟩

/-- The part with a passage opened and the lane in ENTERING, from another state. -/
theorem enterPassage_eq {cause : OpenCause} {t : Nat} {d : Device} (h : d.lsv.lane ≠ .entering) : enterPassage cause t d = { d with
    lsv := { d.lsv with
      lane := .entering
      settle := none
      current := some (openedPassage cause t d)
      nextPassage := nextNumber d.lsv.nextPassage }
    axu := axuStart d.zsu.b1 (moduleExists d .i0) (division d)
    ntc := noticedNtc .lne d.ntc
    exe := if endsLan .entering d.exe.stage = true then { d.exe with stage := .ended } else d.exe
    tx := if endsLan .entering d.exe.stage = true
      then { d.tx with longs := d.tx.longs ++ [recordOf '#' (inFlightText d) [Code.lan.text]] } else d.tx } := by
  have hlane : (stopSettle (openPassage cause t d)).lsv.lane = d.lsv.lane := rfl
  have hexe : (stopSettle (openPassage cause t d)).exe = d.exe := rfl
  rw [enterPassage, setLane_eq, hlane, hexe, if_neg h]
  simp only [ne_eq, h, not_false_eq_true, true_and]
  rfl

theorem nextNumber_eq (n : Nat) : nextNumber n = if n ≥ 65535 then 1 else n + 1 := rfl

/-! ### What a weight record does to the lane (R65 to R70) -/

theorem judgeOccupancy_eq (d : Device) (g : Option Int) : judgeOccupancy d.nvc.settings.occ ((division d).getD 1) g =
    match g with
      | none => .unknown
      | some g => if ((d.nvc.settings.occ * (100 * (match d.mst.active with
        | some r => r.d
        | none => 1)) : Nat) : Int) ≤ g then .occupied else .empty := by
  cases g with
  | none => rfl
  | some g => cases h : d.mst.active <;> simp only [judgeOccupancy, division, h, ge_iff_le] <;> rfl

section record

variable {wr : WeightRecord} {d : Device} {occ : Occupancy}

theorem laneRecord_timers (hocc : judgeOccupancy d.nvc.settings.occ ((division d).getD 1) wr.g = occ)
    (h : d.lsv.lane ≠ .clear ∨ occ ≠ .occupied) :
    laneRecord false wr d = evalTimers d.now { d with lsv := { d.lsv with occupancy := occ } } := by
  have hno : ¬ (d.lsv.lane = .clear ∧ occ = .occupied) := fun hh => h.elim (fun h => h hh.1) fun h => h hh.2
  unfold laneRecord
  rw [hocc]
  simp only [Bool.false_eq_true, if_false, hno]

theorem laneRecord_opens (hocc : judgeOccupancy d.nvc.settings.occ ((division d).getD 1) wr.g = .occupied) (hl : d.lsv.lane = .clear) :
    laneRecord false wr d = evalTimers d.now (enterPassage .load wr.latch { d with lsv := { d.lsv with occupancy := .occupied } }) := by
  unfold laneRecord
  rw [hocc]
  simp only [Bool.false_eq_true, if_false, hl, and_self, if_true]

end record

/-- Settles O43: a record that opens a passage, and one that moves the timers alone. -/
theorem occupancyActs : Obligations.OccupancyActs := by
  intro wasInit wr d limit occ clear timer t
  have hocc : judgeOccupancy d.nvc.settings.occ ((division d).getD 1) wr.g = occ := judgeOccupancy_eq d wr.g
  have ht : t = laneRecord wasInit wr d := rfl
  have hclear : clear = true ↔ d.lsv.beamIn.state = false ∧ d.lsv.beamOut.state = false := by
    simp only [clear, Bool.and_eq_true, beq_iff_eq]
  clear_value occ clear
  refine ⟨fun hw => ?_, fun hw hl ho => ?_, fun hw h => ?_⟩
  · rw [ht, laneRecord, hocc, hw]
    rfl
  · subst hw ho
    have hlane : ({ d with lsv := { d.lsv with occupancy := .occupied } } : Device).lsv.lane ≠ .entering := hl.trans_ne (by decide)
    rw [laneRecord_opens hocc hl, enterPassage_eq hlane, evalTimers] at ht
    rw [ht]
    refine ⟨rfl, rfl, rfl, ?_, ?_, ⟨_, rfl, rfl, rfl, rfl, rfl, rfl, rfl, rfl⟩, nextNumber_eq _, rfl, rfl, rfl, rfl, rfl, rfl, rfl,
      fun hen => noticedNtc_lne hen, fun g hg hst => ?_⟩
    · refine if_neg ?_
      rw [clearHolds_iff]
      rintro ⟨-, -, ho⟩
      cases ho
    · simp only [timerNext, settleHolds_iff, hclear, and_true, true_and]
      rfl
    · have hend := endsLan_entering hst
      have hflight : inFlightText { d with lsv := { d.lsv with occupancy := .occupied } } = tagText g := inFlightText_eq hg
      simp only [hend, if_true, hflight, hg]
      exact ⟨trivial, rfl⟩
  · subst hw
    rw [ht, laneRecord_timers hocc h]
    simp only [evalTimers, timerNext, settleHolds_iff, clearHolds_iff, hclear, timer]

/-! ### Beams and the lock's levels (R63, R154) -/

theorem levelChange_eq (level : Bool) (t : Nat) (x : Input) : levelChange level t x =
    { x with raw := level, debounce := if level = x.state then none else some (x.debounce.getD t) } := by
  unfold levelChange
  split <;> rfl

/-- The lane a beam that becomes BLOCKED leaves (R67 to R69). -/
def laneAfterBeam (b : Beam) : Lane → Lane
  | .clear => if b = .entry then .entering else .clear
  | .onDeck => if b = .entry then .entering else .leaving
  | .entering => if b = .exit then .leaving else .entering
  | x => x

/-- A beam that becomes BLOCKED ends a capture (R58). -/
theorem beamEndsCapture_eq (d : Device) : (∃ c k, d.exe.stage = .capWait c k) ∧ beamEndsCapture d = failWith .bem [] d ∨
    (∀ c k, d.exe.stage ≠ .capWait c k) ∧ beamEndsCapture d = d := by
  unfold beamEndsCapture
  split
  next c k h => exact .inl ⟨⟨c, k, h⟩, rfl⟩
  next h => exact .inr ⟨fun c k => h c k, rfl⟩

theorem beamEndsCapture_lsv (d : Device) : (beamEndsCapture d).lsv = d.lsv := by
  obtain ⟨-, h⟩ | ⟨-, h⟩ := beamEndsCapture_eq d
  · rw [h]
    rfl
  · rw [h]

theorem beamsClear_setLane (l : Lane) (d : Device) : beamsClear (setLane l d) = beamsClear d := by
  rw [setLane_eq]
  rfl

/-- The part as a beam becomes BLOCKED, before its lane moves. -/
def beamTaken (b : Beam) (t : Nat) (d : Device) : Device :=
  if d.lsv.lane = .clear ∧ b = .entry then openPassage .beamIn t (beamEndsCapture d) else beamEndsCapture d

theorem timersStopped_stopSettle (l : Lane) (d : Device) : timersStopped (setLane l (stopSettle d)) = timersStopped (setLane l d) := by
  rw [setLane_eq, setLane_eq]
  rfl

theorem evalTimers_afresh (t : Nat) (l : Lane) {d : Device} (h : beamsClear d = false) :
    evalTimers t (setLane l (stopSettle d)) = timersStopped (setLane l d) := by
  have hset : beamsClear (setLane l (stopSettle d)) = false := (beamsClear_setLane l (stopSettle d)).trans h
  rw [evalTimers_blocked t hset, timersStopped_stopSettle]

/-- A BLOCKED beam opens a passage from CLEAR at the entry, and else moves the lane; both timers stop. -/
theorem laneBeam_blocked {b : Beam} (t : Nat) {d : Device} (h : beamsClear d = false) :
    laneBeam b true t d = timersStopped (setLane (laneAfterBeam b d.lsv.lane) (beamTaken b t d)) := by
  have hlsv := beamEndsCapture_lsv d
  have hend : beamsClear (beamEndsCapture d) = false := by rw [beamsClear, hlsv]; exact h
  have moved (l : Lane) : evalTimers t (setLane l (beamEndsCapture d)) = timersStopped (setLane l (beamEndsCapture d)) :=
    evalTimers_blocked t ((beamsClear_setLane _ _).trans hend)
  have afresh (l : Lane) : evalTimers t (setLane l (stopSettle (beamEndsCapture d))) = timersStopped (setLane l (beamEndsCapture d)) :=
    evalTimers_afresh t l hend
  have opened : evalTimers t (enterPassage .beamIn t (beamEndsCapture d)) =
      timersStopped (setLane .entering (openPassage .beamIn t (beamEndsCapture d))) :=
    evalTimers_afresh t .entering (d := openPassage .beamIn t (beamEndsCapture d)) hend
  have stays {l : Lane} (hl : d.lsv.lane = l) : evalTimers t (beamEndsCapture d) = timersStopped (setLane l (beamEndsCapture d)) := by
    rw [setLane, if_pos (by rw [hlsv, hl])]
    exact evalTimers_blocked t hend
  unfold laneBeam beamTaken
  simp only [if_true, hlsv]
  cases hl : d.lsv.lane <;> cases b <;> simp [laneAfterBeam, moved, afresh, opened, stays hl]

/-- What a BLOCKED beam leaves of the part. -/
theorem laneBeam_blocked_frame {b : Beam} (t : Nat) {d : Device} (h : beamsClear d = false) : laneBeam b true t d = { d with
    lsv := { d.lsv with
      lane := laneAfterBeam b d.lsv.lane
      settle := none
      clear := none
      current := if d.lsv.lane = .clear ∧ b = .entry then some (openedPassage .beamIn t d) else d.lsv.current
      nextPassage := if d.lsv.lane = .clear ∧ b = .entry then nextNumber d.lsv.nextPassage else d.lsv.nextPassage }
    axu := (laneBeam b true t d).axu
    ntc := (laneBeam b true t d).ntc
    exe := (laneBeam b true t d).exe
    tx := (laneBeam b true t d).tx } := by
  rw [laneBeam_blocked t h, setLane_eq]
  unfold beamTaken
  obtain ⟨-, hend⟩ | ⟨-, hend⟩ := beamEndsCapture_eq d <;> rw [hend] <;> split <;> rfl

theorem beamTaken_exe (b : Beam) (t : Nat) (d : Device) :
    (beamTaken b t d).exe = (beamEndsCapture d).exe ∧ (beamTaken b t d).tx = (beamEndsCapture d).tx := by
  unfold beamTaken
  split <;> exact ⟨rfl, rfl⟩

theorem beamTaken_lane (b : Beam) (t : Nat) (d : Device) : (beamTaken b t d).lsv.lane = d.lsv.lane := by
  unfold beamTaken
  split
  · exact (congrArg Lsv.lane (beamEndsCapture_lsv d) : _)
  · exact congrArg Lsv.lane (beamEndsCapture_lsv d)

/-- A capture that waits ends BEM. -/
theorem laneBeam_capture {b : Beam} (t : Nat) {d : Device} (h : beamsClear d = false) {c : CapCmd} {k : Nat} {g : Tag}
    (hst : d.exe.stage = .capWait c k) (hg : d.exe.slot = some g) : (laneBeam b true t d).exe.stage = .ended ∧
      (laneBeam b true t d).tx.longs = d.tx.longs ++ [recordOf '#' (tagText g) [['B', 'E', 'M']]] := by
  have hend : beamEndsCapture d = endedWith '#' g [['B', 'E', 'M']] d := by
    have hfail : failWith .bem [] d = endedWith '#' g [['B', 'E', 'M']] d := failWith_eq .bem [] hg
    rw [← hfail, beamEndsCapture, hst]
  obtain ⟨hexe, htx⟩ := beamTaken_exe b t d
  have hstage : (beamTaken b t d).exe.stage = .ended := by rw [hexe, hend]; rfl
  have hno : ¬ ((beamTaken b t d).lsv.lane ≠ laneAfterBeam b d.lsv.lane ∧
      endsLan (laneAfterBeam b d.lsv.lane) (beamTaken b t d).exe.stage = true) := by
    rw [hstage]
    exact fun hh => Bool.false_ne_true hh.2
  rw [laneBeam_blocked t h, setLane_eq]
  simp only [hno, if_false]
  refine ⟨hstage, ?_⟩
  show (beamTaken b t d).tx.longs = _
  rw [htx, hend]
  rfl

/-- Without a capture, a lane that moves ends ZER and CZE LAN. -/
theorem laneBeam_waits {b : Beam} (t : Nat) {d : Device} (h : beamsClear d = false) (hst : ∀ c k, d.exe.stage ≠ .capWait c k) :
    let ends : Prop := d.lsv.lane ≠ laneAfterBeam b d.lsv.lane ∧ endsLan (laneAfterBeam b d.lsv.lane) d.exe.stage = true
    (¬ ends → (laneBeam b true t d).exe = d.exe ∧ (laneBeam b true t d).tx = d.tx) ∧
    (ends → ∀ g, d.exe.slot = some g → (laneBeam b true t d).exe = ⟨some g, .ended⟩ ∧
      (laneBeam b true t d).tx.longs = d.tx.longs ++ [recordOf '#' (tagText g) [['L', 'A', 'N']]]) := by
  intro ends
  have hend : beamEndsCapture d = d := by
    obtain ⟨⟨c, k, hc⟩, -⟩ | ⟨-, h⟩ := beamEndsCapture_eq d
    · exact absurd hc (hst c k)
    · exact h
  obtain ⟨hexe, htx⟩ := beamTaken_exe b t d
  rw [hend] at hexe htx
  have hflight : inFlightText (beamTaken b t d) = inFlightText d := by rw [inFlightText, inFlightText, hexe]
  rw [laneBeam_blocked t h, setLane_eq, beamTaken_lane, hexe, htx, hflight]
  refine ⟨fun hno => ?_, fun hyes g hg => ?_⟩
  · simp only [timersStopped]
    exact ⟨if_neg hno, if_neg hno⟩
  · simp only [timersStopped]
    rw [if_pos hyes, if_pos hyes, inFlightText_eq hg, hg]
    exact ⟨rfl, rfl⟩

theorem laneAfterBeam_moved {b : Beam} {l : Lane} (h : laneAfterBeam b l ≠ l) :
    l ≠ .init ∧ laneAfterBeam b l ≠ .init ∧ laneAfterBeam b l ≠ .clear := by
  cases b <;> cases l <;> simp [laneAfterBeam] at h ⊢

theorem storeBeam_eq (b : Beam) (x : Input) (d : Device) : storeBeam b x d = { d with lsv := { d.lsv with
    beamIn := if b = .entry then x else d.lsv.beamIn
    beamOut := if b = .exit then x else d.lsv.beamOut } } := by
  cases b <;> rfl

/-- A lane the model moves is the lane the obligations name. -/
theorem laneAfterBeam_eq (b : Beam) (l : Lane) : laneAfterBeam b l = (match l, b with
    | .clear, .entry => .entering
    | .onDeck, .entry => .entering
    | .entering, .exit => .leaving
    | .onDeck, .exit => .leaving
    | x, _ => x) := by
  cases l <;> cases b <;> rfl

section change

variable {b : Beam} {t0 : Nat} {d : Device}

/-- The part with a beam's debounced state following its raw level. -/
def beamFollows (b : Beam) (t0 : Nat) (d : Device) : Device :=
  { d with
    now := max d.now (t0 + 100)
    lsv := { d.lsv with
      beamIn := if b = .entry then ⟨(beamOf d b).raw, (beamOf d b).raw, none⟩ else d.lsv.beamIn
      beamOut := if b = .exit then ⟨(beamOf d b).raw, (beamOf d b).raw, none⟩ else d.lsv.beamOut } }

theorem beamChange_eq (nv : NvStore) (hrun : running d = true) (hdeb : (beamOf d b).debounce = some t0) :
    beamChange b nv d = laneBeam b (beamOf d b).raw (t0 + 100) (beamFollows b t0 d) := by
  have hstore : storeBeam b (debounced (beamOf d b)) (advance (t0 + 100) d) = beamFollows b t0 d := by
    rw [storeBeam_eq]
    rfl
  simp only [beamChange, hdeb, hrun, if_true]
  exact congrArg (laneBeam b (beamOf d b).raw (t0 + 100)) hstore

theorem beamFollows_blocked (h : (beamOf d b).raw = true) : beamsClear (beamFollows b t0 d) = false := by
  cases b <;> simp [beamsClear, beamFollows, h]

theorem laneBeam_clear (t : Nat) (d : Device) : laneBeam b false t d = evalTimers t d := if_neg Bool.false_ne_true

end change

theorem becomes_lsv (s : State) (d : Device) : ∃ x y, (becomes s d).dev.lsv = { d.lsv with greenIn := x, greenOut := y } := by
  rw [becomes, refreshLights_eq]
  exact ⟨_, _, rfl⟩

/-- Settles O40: the raw levels, and the change of a beam to each of its levels. -/
theorem inputsDebounced : Obligations.InputsDebounced := by
  refine ⟨fun level time s => ?_, fun b t0 s hrun hdeb => ?_⟩
  · intro moved d
    by_cases hr : s.dev.power.phase = .run
    · have hrun : running s.dev = true := (running_iff _).2 hr
      have hmoved (x : Input) : levelChange level time x = moved x := (levelChange_eq level time x).trans (if_pos hr).symm
      have hd : advance time s.dev = d := (if_pos hr).symm
      have go {f : NvStore → Device → Device} {x y : Device} (h : f s.nv s.dev = x) (hx : x = y) : s.act f = .next (becomes s y) := by
        rw [act_eq, h, hx]
      refine ⟨go (if_pos hrun) ?_, go (if_pos hrun) ?_, go (if_pos hrun) ?_⟩
      all_goals rw [← hd, ← hmoved]
      all_goals rfl
    · have hrun : ¬ running s.dev = true := fun h => hr ((running_iff _).1 h)
      have hmoved (x : Input) : { x with raw := level } = moved x := (if_neg hr).symm
      have hd : s.dev = d := (if_neg hr).symm
      have go {f : NvStore → Device → Device} {x y : Device} (h : f s.nv s.dev = x) (hx : x = y) : s.act f = .next (becomes s y) := by
        rw [act_eq, h, hx]
      refine ⟨go (if_neg hrun) ?_, go (if_neg hrun) ?_, go (if_neg hrun) ?_⟩
      all_goals rw [← hd, ← hmoved]
      all_goals rfl
  · intro lane
    have hexec : exec (.beamChange b) s = .next (becomes s (laneBeam b (beamOf s.dev b).raw (t0 + 100) (beamFollows b t0 s.dev))) :=
      congrArg (fun d => Host.Outcome.next (becomes s d)) (beamChange_eq s.nv hrun hdeb)
    refine ⟨_, hexec, ?_⟩
    have hbeams : beamOf (beamFollows b t0 s.dev) b = ⟨(beamOf s.dev b).raw, (beamOf s.dev b).raw, none⟩ ∧
        ∀ k, k ≠ b → beamOf (beamFollows b t0 s.dev) k = beamOf s.dev k := by
      cases b
      · exact ⟨rfl, fun k hk => by cases k; exacts [absurd rfl hk, rfl]⟩
      · exact ⟨rfl, fun k hk => by cases k; exacts [rfl, absurd rfl hk]⟩
    cases hraw : (beamOf s.dev b).raw with
    | false =>
      have hlane : lane = s.dev.lsv.lane := if_pos hraw
      rw [hlane, laneBeam_clear, becomes, refreshLights_eq]
      rw [hraw] at hbeams
      refine ⟨rfl, rfl, rfl, rfl, rfl, rfl, rfl, rfl, rfl, rfl, hbeams.1, hbeams.2, rfl, rfl, ⟨?_, ?_⟩, fun h => (nomatch h),
        fun _ => rfl, fun _ _ _ h => (nomatch h), fun _ h => absurd rfl h, fun _ _ => ⟨rfl, rfl⟩⟩
      · simp only [evalTimers, timerNext, settleHolds_iff]
        rfl
      · simp only [evalTimers, timerNext, clearHolds_iff]
        rfl
    | true =>
      have hlane : lane = laneAfterBeam b s.dev.lsv.lane := (if_neg (by rw [hraw]; decide)).trans (laneAfterBeam_eq b _).symm
      have hblocked := beamFollows_blocked (t0 := t0) hraw
      have hframe := laneBeam_blocked_frame (b := b) (t0 + 100) hblocked
      have hqueue := (laneBeam_host b true (t0 + 100) (beamFollows b t0 s.dev)).2.1
      have hno : ¬ ((beamOf (beamFollows b t0 s.dev) .entry).state = false ∧ (beamOf (beamFollows b t0 s.dev) .exit).state = false) :=
        fun h => Bool.false_ne_true (hblocked.symm.trans ((beamsClear_states _).2 h))
      rw [hlane, becomes, refreshLights_eq, hframe]
      rw [hraw] at hbeams
      refine ⟨rfl, rfl, hqueue, rfl, rfl, rfl, rfl, rfl, rfl, rfl, hbeams.1, hbeams.2, rfl, rfl, ⟨?_, ?_⟩, fun _ hl hb => ?_,
        fun h => ?_, fun c k g _ hst hg => ?_, fun g hmoved hg hst => ?_, fun hst h => ?_⟩
      · exact (if_neg fun h => hno h.2.1).symm
      · exact (if_neg fun h => hno h.2.1).symm
      · exact ⟨openedPassage .beamIn (t0 + 100) (beamFollows b t0 s.dev), if_pos ⟨hl, hb⟩, rfl, rfl, rfl, rfl, rfl⟩
      · refine if_neg ?_
        rintro ⟨hl, hb⟩
        obtain h | h := h
        · exact h hl
        · exact absurd (hb.symm.trans h) (by decide)
      · exact laneBeam_capture (t0 + 100) hblocked hst hg
      · obtain ⟨-, hinit, hclr⟩ := laneAfterBeam_moved hmoved
        have hcap : ∀ c k, s.dev.exe.stage ≠ .capWait c k := by
          obtain ⟨k, hk⟩ | ⟨k, w, hk⟩ := hst <;> rw [hk] <;> exact fun _ _ h => (nomatch h)
        exact (laneBeam_waits (t0 + 100) hblocked hcap).2 ⟨hmoved.symm, (endsLan_zero hst).2 ⟨hinit, hclr⟩⟩ g hg
      · refine (laneBeam_waits (t0 + 100) hblocked hst).1 ?_
        rintro ⟨hm, he⟩
        obtain h | ⟨m, x, k, w, h⟩ := h
        · exact hm h.symm
        · have hstage : (beamFollows b t0 s.dev).exe.stage = .runWait (.csp m x) k w := h
          rw [hstage] at he
          exact Bool.false_ne_true he

end Sys2Proof.Machine
end

section
/-! PROOF. Passages that close and strip hits: what the close leaves, the lane's timers that expire, and the hits of the strips. -/

namespace Sys2Proof.Machine

open Sys2Proof.Safety

/-! ### What requests of the Transaction Unit leave -/

theorem request_frame (r : WriteReq) (d : Device) : request r d = { d with nvc := (request r d).nvc } := by
  rw [request, startWrite_nvc]

theorem requestFreeing_frame (nv : NvStore) (n : Nat) (d : Device) : requestFreeing nv n d = { d with
    txu := { d.txu with freeHeld := (requestFreeing nv n d).txu.freeHeld }
    nvc := (requestFreeing nv n d).nvc } := by
  induction n generalizing d with
  | zero => rfl
  | succ n ih =>
    unfold requestFreeing
    split
    · rfl
    · split
      · dsimp only
        rw [ih]
        split <;> rw [request_frame]
      · rfl

theorem requestOwed_frame (nv : NvStore) (n : Nat) (d : Device) : requestOwed nv n d = { d with
    txu := { d.txu with owed := (requestOwed nv n d).txu.owed }
    nvc := (requestOwed nv n d).nvc } := by
  induction n generalizing d with
  | zero => rfl
  | succ n ih =>
    unfold requestOwed
    split
    · split
      · rfl
      · split
        · rfl
        · dsimp only
          rw [ih, request_frame]
    · rfl

/-- The TXU's requests change its own tables, the NVC and the attachment-owed marks of the history alone. -/
theorem requestAttachments_frame (nv : NvStore) (d : Device) : requestAttachments nv d = { d with
    lsv := { d.lsv with history := (requestAttachments nv d).lsv.history }
    txu := (requestAttachments nv d).txu
    nvc := (requestAttachments nv d).nvc } ∧
    ∃ owes : Nat → Bool, (requestAttachments nv d).lsv.history = d.lsv.history.map fun p => { p with owedMark := owes p.number } := by
  have hrest : requestOwed nv Config.attachCap (requestFreeing nv Config.attachCap d) = { d with
      txu := (requestOwed nv Config.attachCap (requestFreeing nv Config.attachCap d)).txu
      nvc := (requestOwed nv Config.attachCap (requestFreeing nv Config.attachCap d)).nvc } := by
    rw [requestOwed_frame, requestFreeing_frame]
  unfold requestAttachments
  generalize requestOwed nv Config.attachCap (requestFreeing nv Config.attachCap d) = a at hrest ⊢
  rw [hrest]
  exact ⟨rfl, fun n => a.txu.owed.any (·.passage == n), rfl⟩

theorem requestJournal_frame (rec : JournalRec) (d : Device) : requestJournal rec d = { d with nvc := (requestJournal rec d).nvc } :=
  request_frame _ d

/-- A record that is made changes the stage and the NVC alone. -/
theorem makeRecord_frame (nv : NvStore) (x : Draft) (d : Device) : makeRecord nv x d = { d with
    nvc := (makeRecord nv x d).nvc
    exe := { d.exe with stage := (makeRecord nv x d).exe.stage } } := by
  unfold makeRecord
  split
  · rw [setStage, requestJournal_frame]
  · rw [makeOwn, setStage, requestJournal_frame]

/-- What the TXU does at a close: its tables and requests, the attachment-owed marks, and a ticket that waits for this passage. -/
theorem passageClosed_frame (nv : NvStore) (n : Nat) (d : Device) : passageClosed nv n d = { d with
    lsv := { d.lsv with history := (passageClosed nv n d).lsv.history }
    txu := (passageClosed nv n d).txu
    nvc := (passageClosed nv n d).nvc
    exe := { d.exe with stage := (passageClosed nv n d).exe.stage } } ∧
    (∃ owes : Nat → Bool, (passageClosed nv n d).lsv.history = d.lsv.history.map fun p => { p with owedMark := owes p.number }) ∧
    ((∀ x k u, d.exe.stage ≠ .axleWait x k u) → (passageClosed nv n d).exe = d.exe) := by
  obtain ⟨hrest, owes, hhist⟩ := requestAttachments_frame nv { d with txu := { d.txu with
    awaiting := d.txu.awaiting.filter (·.passage != n)
    owed := d.txu.owed ++ sortBy (fun a b => decide (a.visit < b.visit)) (d.txu.awaiting.filter (·.passage == n)) } }
  unfold passageClosed
  dsimp only
  generalize requestAttachments nv { d with txu := { d.txu with
    awaiting := d.txu.awaiting.filter (·.passage != n)
    owed := d.txu.owed ++ sortBy (fun a b => decide (a.visit < b.visit)) (d.txu.awaiting.filter (·.passage == n)) } } = a at hrest hhist ⊢
  have hexe : a.exe = d.exe := by rw [hrest]
  have plain : a = { d with
      lsv := { d.lsv with history := a.lsv.history }
      txu := a.txu
      nvc := a.nvc
      exe := { d.exe with stage := a.exe.stage } } := by
    rw [hrest]
  split
  next x k u hst =>
    refine ⟨?_, ?_, fun hno => absurd (hexe ▸ hst) (hno x k u)⟩
    · split
      · rw [makeRecord_frame, hrest]
      · exact plain
    · split
      · rw [makeRecord_frame]
        exact ⟨owes, hhist⟩
      · exact ⟨owes, hhist⟩
  next => exact ⟨plain, ⟨owes, hhist⟩, fun _ => hexe⟩

/-! ### The record of a closed passage (R76) -/

/-- What the AXU's fill and solve leave of a passage: all but what they form. -/
def passageHead (p : Passage) : Passage :=
  ⟨p.number, p.cause, p.openTime, p.openAt, p.closeTime, p.closeAt, p.closeCause,
    { PassFlags.none with tailgateIn := p.flags.tailgateIn, tailgateOut := p.flags.tailgateOut }, p.ring, [], [], [], none, none, false, 0,
    none⟩

theorem newInterval_head (t : Nat) (set : List Nat) (p : Passage) : passageHead (newInterval t set p) = passageHead p := by
  unfold newInterval
  split <;> rfl

theorem occupancyChange_head (t : Nat) (b : Build) : passageHead (occupancyChange t b).p = passageHead b.p := newInterval_head t _ _

theorem axuHitA_head (t : Nat) (b : Build) : passageHead (axuHitA t b).p = passageHead b.p := by
  unfold axuHitA
  dsimp only
  split_ifs <;> rfl

theorem enterAxle_head (dab tA tB : Nat) (b : Build) : passageHead (enterAxle dab tA tB b).p = passageHead b.p :=
  occupancyChange_head tB _

theorem axuHitB_head (dab t : Nat) (b : Build) : passageHead (axuHitB dab t b).p = passageHead b.p := by
  unfold axuHitB
  dsimp only
  split
  · rfl
  · split
    · rfl
    · split
      · rfl
      · exact enterAxle_head dab _ t _

theorem axuHitC_head (t : Nat) (b : Build) : passageHead (axuHitC t b).p = passageHead b.p := by
  unfold axuHitC
  dsimp only
  split
  · rfl
  · split
    · rfl
    · exact occupancyChange_head t _

theorem axuHit_head (s : Settings) (k : Strip) (t : Nat) (b : Build) : passageHead (axuHit s k t b).p = passageHead b.p := by
  cases k with
  | a => exact axuHitA_head t b
  | b => exact axuHitB_head s.dab t b
  | c => exact axuHitC_head t b

theorem solveLoads_head (d : Nat) (p : Passage) : passageHead (solveLoads d p) = passageHead p := by
  unfold solveLoads
  split_ifs <;> rfl

theorem solveGroups_head (s : Settings) (d : Nat) (p : Passage) : passageHead (solveGroups s d p) = passageHead p := by
  unfold solveGroups
  split_ifs <;> rfl

theorem axuSolve_head (s : Settings) (t : Nat) (b : Build) : passageHead (axuSolve s t b) = passageHead b.p :=
  ((solveGroups_head s _ _).trans (solveLoads_head _ _) : _)

theorem axuSolve_result (s : Settings) (t : Nat) (b : Build) : (axuSolve s t b).result ≠ none := Option.some_ne_none _

/-! ### The close (R76, R77) -/

/-- The record of the current passage as it closes. -/
def closedRecord (cause : CloseCause) (t : Nat) (p : Passage) (d : Device) : Passage :=
  axuSolve d.nvc.settings t ⟨d.axu, { p with
    closeCause := some cause
    closeTime := d.nvc.clock
    closeAt := some t
    flags := { p.flags with tailgateOut := p.flags.tailgateOut || cause == .tailgate } }⟩

/-- What a close leaves: the history with the closed record as its newest, the AXU reset, no current passage, AXL. -/
theorem closePassage_frame (nv : NvStore) (cause : CloseCause) (t : Nat) {p : Passage} {d : Device} (hp : d.lsv.current = some p) :
    closePassage nv cause t d = { d with
      lsv := { d.lsv with current := none, history := (closePassage nv cause t d).lsv.history }
      axu := Axu.reset
      txu := (closePassage nv cause t d).txu
      nvc := (closePassage nv cause t d).nvc
      ntc := noticedNtc .axl d.ntc
      exe := { d.exe with stage := (closePassage nv cause t d).exe.stage } } ∧
    (∃ owes : Nat → Bool, (closePassage nv cause t d).lsv.history =
      ((if d.lsv.history.length ≥ 4 then d.lsv.history.drop 1 else d.lsv.history) ++ [closedRecord cause t p d]).map
        fun q => { q with owedMark := owes q.number }) ∧
    ((∀ x k u, d.exe.stage ≠ .axleWait x k u) → (closePassage nv cause t d).exe = d.exe) := by
  have hclose : closePassage nv cause t d = passageClosed nv (closedRecord cause t p d).number
      (raise .axl { pushHistory (closedRecord cause t p d) d with axu := Axu.reset }) := by
    simp only [closePassage, hp]
    rfl
  obtain ⟨hframe, hhist, hexe⟩ := passageClosed_frame nv (closedRecord cause t p d).number
    (raise .axl { pushHistory (closedRecord cause t p d) d with axu := Axu.reset })
  rw [hclose]
  rw [raise_eq, noticed_ntc] at *
  refine ⟨?_, hhist, hexe⟩
  generalize passageClosed nv _ _ = a at hframe ⊢
  rw [hframe]
  rfl

/-- The newest of the history after a close, and its length. -/
theorem closePassage_newest (nv : NvStore) (cause : CloseCause) (t : Nat) {p : Passage} {d : Device} (hp : d.lsv.current = some p) :
    (∃ q, (closePassage nv cause t d).lsv.history.getLast? = some q ∧ q.number = p.number ∧ q.closeCause = some cause ∧
      q.closeAt = some t ∧ q.ring = p.ring ∧ q.result ≠ none ∧
      q.flags.tailgateOut = (p.flags.tailgateOut || cause == .tailgate)) ∧
    (d.lsv.history.length ≤ 4 → (closePassage nv cause t d).lsv.history.length = min 4 (d.lsv.history.length + 1)) := by
  obtain ⟨-, ⟨owes, hhist⟩, -⟩ := closePassage_frame nv cause t hp
  have hhead : passageHead (closedRecord cause t p d) = passageHead { p with
    closeCause := some cause
    closeTime := d.nvc.clock
    closeAt := some t
    flags := { p.flags with tailgateOut := p.flags.tailgateOut || cause == .tailgate } } := axuSolve_head _ _ _
  rw [hhist]
  refine ⟨⟨_, by rw [List.map_append, List.map_singleton, List.getLast?_append_cons, List.getLast?_singleton], ?_⟩, fun hlen => ?_⟩
  · exact ⟨(congrArg Passage.number hhead :), (congrArg Passage.closeCause hhead :), (congrArg Passage.closeAt hhead :),
      (congrArg Passage.ring hhead :), axuSolve_result _ _ _, (congrArg (fun q : Passage => q.flags.tailgateOut) hhead :)⟩
  · rw [List.length_map, List.length_append, List.length_singleton]
    split
    · rw [List.length_drop]
      omega
    · omega

/-! ### The lane's timers (R68, R70) -/

theorem noticedNtc_lne_axl (n : Ntc) : (noticedNtc .lne n).pending.axl = n.pending.axl := by
  unfold noticedNtc
  split <;> rfl

theorem settleTimerExpires_eq {nv : NvStore} {d : Device} {t0 : Nat} (hrun : running d = true) (ht : d.lsv.settle = some t0)
    (hl : d.lsv.lane = .entering) : settleTimerExpires nv d =
      evalTimers (t0 + 100 * d.nvc.settings.setl) (stopSettle (setLane .onDeck (advance (t0 + 100 * d.nvc.settings.setl) d))) := by
  have hdue : settleDue d = some (t0 + 100 * d.nvc.settings.setl) := by
    rw [settleDue, ht, Nat.mul_comm 100]
    rfl
  simp only [settleTimerExpires, hdue, hrun, hl, and_self, if_true]
  rfl

theorem clearTimerExpires_eq {nv : NvStore} {d : Device} {t0 : Nat} (hrun : running d = true) (ht : d.lsv.clear = some t0)
    (hl : d.lsv.lane = .entering ∨ d.lsv.lane = .onDeck ∨ d.lsv.lane = .leaving) : clearTimerExpires nv d =
      setLane .clear (timersStopped (closePassage nv .clear (t0 + 1000 * d.nvc.settings.clrt)
        (advance (t0 + 1000 * d.nvc.settings.clrt) d))) := by
  have hdue : clearDue d = some (t0 + 1000 * d.nvc.settings.clrt) := by
    rw [clearDue, ht, Nat.mul_comm 1000]
    rfl
  simp only [clearTimerExpires, hdue, hrun, (inPassage_iff _).2 hl, and_self, if_true]
  rfl

/-- Settles O42: the settle timer's move, and the clear timer's close. -/
theorem laneTimers : Obligations.LaneTimers := by
  intro t0 s hrun
  refine ⟨fun ht hl => ?_, fun p ht hp hlen hl => ?_⟩
  · have hexec : exec .settleTimerExpires s = .next (becomes s (settleTimerExpires s.nv s.dev)) := rfl
    have hqueue := (settleTimerExpires_host s.nv s.dev).2.1
    rw [settleTimerExpires_eq hrun ht hl] at hexec hqueue
    refine ⟨_, hexec, ?_⟩
    rw [becomes, refreshLights_eq]
    rw [setLane_eq] at hqueue ⊢
    have hlane : (advance (t0 + 100 * s.dev.nvc.settings.setl) s.dev).lsv.lane ≠ .onDeck := hl.trans_ne (by decide)
    rw [if_neg hlane]
    exact ⟨rfl, rfl, hqueue, rfl, rfl, rfl, rfl, rfl, rfl, rfl, rfl, rfl, fun hen => noticedNtc_lne hen⟩
  · have hexec : exec .clearTimerExpires s = .next (becomes s (clearTimerExpires s.nv s.dev)) := rfl
    have hqueue := (clearTimerExpires_host s.nv s.dev).2.1
    rw [clearTimerExpires_eq hrun ht hl] at hexec hqueue
    obtain ⟨hframe, -, -⟩ := closePassage_frame s.nv .clear (t0 + 1000 * s.dev.nvc.settings.clrt)
      (d := advance (t0 + 1000 * s.dev.nvc.settings.clrt) s.dev) hp
    obtain ⟨⟨q, hlast, hnum, hcause, hat, hring, hres, -⟩, hlength⟩ := closePassage_newest s.nv .clear
      (t0 + 1000 * s.dev.nvc.settings.clrt) (d := advance (t0 + 1000 * s.dev.nvc.settings.clrt) s.dev) hp
    refine ⟨_, hexec, ?_⟩
    rw [becomes, refreshLights_eq]
    generalize closePassage s.nv .clear (t0 + 1000 * s.dev.nvc.settings.clrt)
      (advance (t0 + 1000 * s.dev.nvc.settings.clrt) s.dev) = a at hqueue hframe hlast hlength ⊢
    rw [setLane_eq] at hqueue ⊢
    rw [hframe]
    rw [hframe] at hqueue
    have hlane : s.dev.lsv.lane ≠ .clear := by
      obtain h | h | h := hl <;> exact h.trans_ne (by decide)
    have haxl := noticedNtc_enabled .axl s.dev.ntc
    have hntc (n : Ntc) : (if s.dev.lsv.lane = .clear then n else noticedNtc .lne n) = noticedNtc .lne n := if_neg hlane
    refine ⟨rfl, rfl, hqueue, rfl, rfl, rfl, rfl, rfl, rfl, rfl, rfl, hlength hlen, ⟨q, hlast, hnum, hcause, hat, hring, hres⟩, rfl,
      fun hen => ?_, fun hen => ?_⟩
    · refine (congrArg (fun n : Ntc => n.pending.lne) (hntc (noticedNtc .axl s.dev.ntc)) :).trans ?_
      exact noticedNtc_lne (by rw [haxl]; exact hen)
    · refine (congrArg (fun n : Ntc => n.pending.axl) (hntc (noticedNtc .axl s.dev.ntc)) :).trans ?_
      rw [noticedNtc_lne_axl]
      exact noticedNtc_axl hen

end Sys2Proof.Machine
end

section
/-! PROOF. The hits of the strips (R64, R67 to R71, R79, R87). -/

namespace Sys2Proof.Machine

open Sys2Proof.Safety

/-! ### Hits handed to the AXU (R64, R87) -/

theorem handHit_eq {k : Strip} {t : Nat} {p : Passage} {d : Device} (hp : d.lsv.current = some p) : handHit k t d = { d with
    axu := (axuHit d.nvc.settings k t ⟨d.axu, p⟩).ax
    lsv := { d.lsv with current := some (axuHit d.nvc.settings k t ⟨d.axu, p⟩).p } } := by
  simp only [handHit, hp]

theorem handHit_none {k : Strip} {t : Nat} {d : Device} (hp : d.lsv.current = none) : handHit k t d = d := by
  simp only [handHit, hp]

/-- Each strip's hits are counted, and the samples are left alone. -/
theorem axuHit_counts (s : Settings) (k : Strip) (t : Nat) (b : Build) :
    (axuHit s k t b).ax.hitsA = (if k = .a then b.ax.hitsA + 1 else b.ax.hitsA) ∧
    (axuHit s k t b).ax.hitsB = (if k = .b then b.ax.hitsB + 1 else b.ax.hitsB) ∧
    (axuHit s k t b).ax.hitsC = (if k = .c then b.ax.hitsC + 1 else b.ax.hitsC) ∧
    (axuHit s k t b).ax.samples = b.ax.samples := by
  cases k with
  | a =>
    simp only [axuHit, fixComplete, axuHitA, if_true, reduceCtorEq, if_false]
    split_ifs <;> exact ⟨rfl, rfl, rfl, rfl⟩
  | b =>
    simp only [axuHit, fixComplete, axuHitB]
    split
    · exact ⟨rfl, rfl, rfl, rfl⟩
    · split
      · exact ⟨rfl, rfl, rfl, rfl⟩
      · split
        · exact ⟨rfl, rfl, rfl, rfl⟩
        · exact ⟨rfl, rfl, rfl, rfl⟩
  | c =>
    simp only [axuHit, fixComplete, axuHitC]
    split
    · exact ⟨rfl, rfl, rfl, rfl⟩
    · split
      · exact ⟨rfl, rfl, rfl, rfl⟩
      · exact ⟨rfl, rfl, rfl, rfl⟩

/-- The strip A hit that opens a passage. -/
theorem axuHit_first (s : Settings) (t : Nat) (b1 : Option Int) (m : Bool) (div : Option Nat) (p : Passage) :
    (axuHit s .a t ⟨axuStart b1 m div, p⟩).ax.hitsA = 1 ∧ (axuHit s .a t ⟨axuStart b1 m div, p⟩).ax.pendingA = [t] ∧
    (axuHit s .a t ⟨axuStart b1 m div, p⟩).ax.samples = [] := ⟨rfl, rfl, rfl⟩

/-! ### What a hit leaves (R68, R70) -/

/-- What no hit changes of the part once it is stored. -/
def hitFrame (d : Device) : Clc × Csu × Zsu × Nat × Input × Input × Option Nat × Option Nat × Option Nat × Occupancy :=
  (d.clc, d.csu, d.zsu, d.now, d.lsv.beamIn, d.lsv.beamOut, d.lsv.hitA, d.lsv.hitB, d.lsv.hitC, d.lsv.occupancy)

theorem setLane_hitFrame (l : Lane) (d : Device) : hitFrame (setLane l d) = hitFrame d := by
  rw [setLane_eq]
  rfl

theorem enterPassage_hitFrame (c : OpenCause) (t : Nat) (d : Device) : hitFrame (enterPassage c t d) = hitFrame d := by
  rw [enterPassage, setLane_hitFrame]
  rfl

theorem closePassage_hitFrame (nv : NvStore) (c : CloseCause) (t : Nat) (d : Device) : hitFrame (closePassage nv c t d) = hitFrame d := by
  cases hp : d.lsv.current with
  | none => simp only [closePassage, hp]
  | some p =>
    rw [(closePassage_frame nv c t hp).1]
    rfl

theorem tailgate_hitFrame (nv : NvStore) (t : Nat) (d : Device) : hitFrame (tailgate nv t d) = hitFrame d :=
  ((enterPassage_hitFrame .tailgate t _).trans (closePassage_hitFrame nv .tailgate t d) : _)

theorem handHit_hitFrame (k : Strip) (t : Nat) (d : Device) : hitFrame (handHit k t d) = hitFrame d := by
  cases hp : d.lsv.current with
  | none => rw [handHit_none hp]
  | some p => rw [handHit_eq hp]; rfl

theorem handHit_same (k : Strip) (t : Nat) (d : Device) : (handHit k t d).lsv.lane = d.lsv.lane ∧ (handHit k t d).exe = d.exe ∧
    (handHit k t d).tx = d.tx ∧ (handHit k t d).lsv.history = d.lsv.history := by
  cases hp : d.lsv.current with
  | none => rw [handHit_none hp]; exact ⟨rfl, rfl, rfl, rfl⟩
  | some p => rw [handHit_eq hp]; exact ⟨rfl, rfl, rfl, rfl⟩

/-- The part as a hit that acts on the lane leaves it, before the AXU and the timers take the hit. -/
def hitMoved (nv : NvStore) (k : Strip) (t : Nat) (d : Device) : Device :=
  if d.lsv.lane = .clear then enterPassage .aHit t d
  else if d.lsv.lane = .onDeck ∧ k ≠ .a then setLane .entering (stopSettle d)
  else if d.lsv.lane = .leaving ∧ k = .a then tailgate nv t d
  else d

theorem laneHit_acts (nv : NvStore) {k : Strip} (t : Nat) {d : Device} (hi : d.lsv.lane ≠ .init) (hc : d.lsv.lane ≠ .clear ∨ k = .a) :
    laneHit nv k t d = hitTimers t (handHit k t (hitMoved nv k t d)) := by
  unfold laneHit hitMoved
  cases hl : d.lsv.lane with
  | init => exact absurd hl hi
  | clear =>
    obtain hc | rfl := hc
    · exact absurd hl hc
    · rfl
  | entering => cases k <;> rfl
  | onDeck => cases k <;> rfl
  | leaving => cases k <;> rfl

theorem laneHit_idle (nv : NvStore) {k : Strip} (t : Nat) {d : Device} (h : d.lsv.lane = .init ∨ d.lsv.lane = .clear ∧ k ≠ .a) :
    laneHit nv k t d = d := by
  unfold laneHit
  obtain hl | ⟨hl, hk⟩ := h
  · rw [hl]
  · rw [hl]
    cases k with
    | a => exact absurd rfl hk
    | b => rfl
    | c => rfl

/-- The lane a hit leaves. -/
def laneAfterHit (k : Strip) : Lane → Lane
  | .clear => if k = .a then .entering else .clear
  | .onDeck => if k = .a then .onDeck else .entering
  | .leaving => if k = .a then .entering else .leaving
  | x => x

theorem tailgate_eq {nv : NvStore} {t : Nat} {p : Passage} {d : Device} (hp : d.lsv.current = some p) (hl : d.lsv.lane = .leaving) :
    tailgate nv t d = { enterPassage .tailgate t (closePassage nv .tailgate t d) with
      axu := { axuStart d.zsu.b1 (moduleExists d .i0) (division d) with samples := d.axu.samples.filter fun s => t ≤ s.latch } } := by
  have hlane : (closePassage nv .tailgate t d).lsv.lane ≠ .entering := by
    rw [(closePassage_frame nv .tailgate t hp).1]
    exact hl.trans_ne (by decide)
  have haxu : (enterPassage .tailgate t (closePassage nv .tailgate t d)).axu = axuStart d.zsu.b1 (moduleExists d .i0) (division d) := by
    rw [enterPassage_eq hlane, (closePassage_frame nv .tailgate t hp).1]
    rfl
  rw [tailgate, haxu]

/-- A close leaves the lane, the records to be sent, and a stage that is no axle wait. -/
theorem closePassage_same (nv : NvStore) (c : CloseCause) (t : Nat) (d : Device) :
    (closePassage nv c t d).lsv.lane = d.lsv.lane ∧ (closePassage nv c t d).tx = d.tx ∧
    (closePassage nv c t d).lsv.nextPassage = d.lsv.nextPassage ∧
    ((∀ x k u, d.exe.stage ≠ .axleWait x k u) → (closePassage nv c t d).exe = d.exe) := by
  cases hp : d.lsv.current with
  | none =>
    simp only [closePassage, hp]
    exact ⟨trivial, trivial, trivial, fun _ => trivial⟩
  | some p =>
    obtain ⟨hframe, -, hexe⟩ := closePassage_frame nv c t hp
    refine ⟨?_, ?_, ?_, hexe⟩ <;> rw [hframe]

/-- Lane, frame, commands and current passage as the lane has taken a hit. -/
theorem hitMoved_spec (nv : NvStore) {k : Strip} (t : Nat) {d : Device} (hi : d.lsv.lane ≠ .init) (hc : d.lsv.lane ≠ .clear ∨ k = .a) :
    hitFrame (hitMoved nv k t d) = hitFrame d ∧ (hitMoved nv k t d).lsv.lane = laneAfterHit k d.lsv.lane ∧
    (laneAfterHit k d.lsv.lane = d.lsv.lane → hitMoved nv k t d = d) ∧
    (∀ g, laneAfterHit k d.lsv.lane ≠ d.lsv.lane → d.exe.slot = some g →
      (∃ n, d.exe.stage = .zerWait n) ∨ (∃ c n, d.exe.stage = .capWait c n) ∨ (∃ n w, d.exe.stage = .runWait .cze n w) →
      (hitMoved nv k t d).exe = ⟨some g, .ended⟩ ∧
      (hitMoved nv k t d).tx.longs = d.tx.longs ++ [recordOf '#' (tagText g) [['L', 'A', 'N']]]) := by
  have entered {c : OpenCause} {e : Device} (hl : e.lsv.lane ≠ .entering) (he : e.exe = d.exe ∧ e.tx = d.tx) (g : Tag)
      (hg : d.exe.slot = some g)
      (hst : (∃ n, d.exe.stage = .zerWait n) ∨ (∃ c n, d.exe.stage = .capWait c n) ∨ (∃ n w, d.exe.stage = .runWait .cze n w)) :
      (enterPassage c t e).exe = ⟨some g, .ended⟩ ∧
      (enterPassage c t e).tx.longs = d.tx.longs ++ [recordOf '#' (tagText g) [['L', 'A', 'N']]] := by
    obtain ⟨hexe, htx⟩ := he
    have hend : endsLan .entering d.exe.stage = true := endsLan_entering hst
    rw [enterPassage_eq hl]
    simp only [hexe, hend, if_true, inFlightText_eq (hexe ▸ hg), htx, hg]
    exact ⟨trivial, rfl⟩
  unfold hitMoved
  cases hl : d.lsv.lane with
  | init => exact absurd hl hi
  | clear =>
    obtain hc | rfl := hc
    · exact absurd hl hc
    · have hne : d.lsv.lane ≠ .entering := hl.trans_ne (by decide)
      refine ⟨enterPassage_hitFrame _ _ _, ?_, fun h => (nomatch h), fun g _ => entered hne ⟨rfl, rfl⟩ g⟩
      rw [if_pos rfl, enterPassage_eq hne]
      rfl
  | entering =>
    refine ⟨rfl, hl, fun _ => rfl, fun g h => absurd rfl h⟩
  | onDeck =>
    by_cases hk : k = .a
    · subst hk
      exact ⟨rfl, hl, fun _ => rfl, fun g h => absurd rfl h⟩
    · have hafter : laneAfterHit k .onDeck = .entering := if_neg hk
      have hmoved : (if Lane.onDeck = .clear then enterPassage .aHit t d
          else if Lane.onDeck = .onDeck ∧ k ≠ .a then setLane .entering (stopSettle d)
          else if Lane.onDeck = .leaving ∧ k = .a then tailgate nv t d else d) = setLane .entering (stopSettle d) := by
        rw [if_neg (by decide), if_pos ⟨rfl, hk⟩]
      rw [hmoved, hafter]
      refine ⟨setLane_hitFrame _ _, by rw [setLane_eq], fun h => (nomatch h), fun g _ hg hst => ?_⟩
      have hyes : (stopSettle d).lsv.lane ≠ .entering ∧ endsLan .entering (stopSettle d).exe.stage = true :=
        ⟨hl.trans_ne (by decide), endsLan_entering hst⟩
      have hslot : (stopSettle d).exe.slot = some g := hg
      rw [setLane_eq]
      simp only [hyes, ne_eq, not_false_eq_true, and_self, if_true, inFlightText_eq hslot, hslot]
      exact ⟨trivial, rfl⟩
  | leaving =>
    by_cases hk : k = .a
    · subst hk
      obtain ⟨hlane, htx, -, hexe⟩ := closePassage_same nv .tailgate t d
      have hne : (closePassage nv .tailgate t d).lsv.lane ≠ .entering := by
        rw [hlane, hl]
        decide
      have hmoved : (if Lane.leaving = .clear then enterPassage .aHit t d
          else if Lane.leaving = .onDeck ∧ Strip.a ≠ .a then setLane .entering (stopSettle d)
          else if Lane.leaving = .leaving ∧ Strip.a = .a then tailgate nv t d else d) = tailgate nv t d := by
        rw [if_neg (by decide), if_neg (by decide), if_pos ⟨rfl, rfl⟩]
      rw [hmoved]
      refine ⟨tailgate_hitFrame nv t d, ?_, fun h => (nomatch h), fun g _ hg hst => entered hne ⟨hexe ?_, htx⟩ g hg hst⟩
      · show (enterPassage .tailgate t (closePassage nv .tailgate t d)).lsv.lane = .entering
        rw [enterPassage_eq hne]
      · obtain ⟨n, h⟩ | ⟨c, n, h⟩ | ⟨n, w, h⟩ := hst <;> rw [h] <;> exact fun _ _ _ h => (nomatch h)
    · have hafter : laneAfterHit k .leaving = .leaving := if_neg hk
      have hmoved : (if Lane.leaving = .clear then enterPassage .aHit t d
          else if Lane.leaving = .onDeck ∧ k ≠ .a then setLane .entering (stopSettle d)
          else if Lane.leaving = .leaving ∧ k = .a then tailgate nv t d else d) = d := by
        rw [if_neg (by decide), if_neg fun h => (nomatch h.1), if_neg fun h => hk h.2]
      rw [hmoved, hafter]
      exact ⟨rfl, hl, fun _ => rfl, fun g h => absurd rfl h⟩

/-- The timers after a hit (R68, R70). -/
theorem hitTimers_eq (t : Nat) (d : Device) : hitTimers t d = { d with lsv := { d.lsv with
    settle := if d.lsv.lane = .entering ∧ (d.lsv.beamIn.state = false ∧ d.lsv.beamOut.state = false) ∧ d.lsv.occupancy = .occupied
      then some t else none
    clear := if (d.lsv.lane = .entering ∨ d.lsv.lane = .onDeck ∨ d.lsv.lane = .leaving) ∧
      (d.lsv.beamIn.state = false ∧ d.lsv.beamOut.state = false) ∧ d.lsv.occupancy = .empty then some t else none } } := by
  simp only [hitTimers, settleHolds_iff, clearHolds_iff]

/-- A hit on a passage's lane leaves it on one. -/
theorem laneAfterHit_passage {k : Strip} {l : Lane} (hi : l ≠ .init) (hc : l ≠ .clear ∨ k = .a) :
    laneAfterHit k l = .entering ∨ laneAfterHit k l = .onDeck ∨ laneAfterHit k l = .leaving := by
  cases l with
  | init => exact absurd rfl hi
  | clear =>
    obtain hc | rfl := hc
    · exact absurd rfl hc
    · exact .inl rfl
  | entering => exact .inl rfl
  | onDeck => cases k <;> simp [laneAfterHit]
  | leaving => cases k <;> simp [laneAfterHit]

/-! ### The event (R64) -/

theorem lastHitOf_storeHit (k j : Strip) (t : Nat) (d : Device) :
    lastHitOf (storeHit k t d) j = if j = k then some t else lastHitOf d j := by
  cases k <;> cases j <;> rfl

theorem storeHit_lsv (k : Strip) (t : Nat) (d : Device) : ∃ a b c,
    storeHit k t d = { d with lsv := { d.lsv with hitA := a, hitB := b, hitC := c } } := by
  cases k <;> exact ⟨_, _, _, rfl⟩

theorem lastHitOf_congr {a b : Device} (h : hitFrame a = hitFrame b) (j : Strip) : lastHitOf a j = lastHitOf b j := by
  cases j with
  | a => exact congrArg (fun f => f.2.2.2.2.2.2.1) h
  | b => exact congrArg (fun f => f.2.2.2.2.2.2.2.1) h
  | c => exact congrArg (fun f => f.2.2.2.2.2.2.2.2.1) h

theorem laneHit_hitFrame (nv : NvStore) (k : Strip) (t : Nat) (d : Device) : hitFrame (laneHit nv k t d) = hitFrame d := by
  by_cases h : d.lsv.lane = .init ∨ d.lsv.lane = .clear ∧ k ≠ .a
  · rw [laneHit_idle nv t h]
  · obtain ⟨hi, hc⟩ := not_or.1 h
    have hc : d.lsv.lane ≠ .clear ∨ k = .a := by
      by_cases hk : k = .a
      · exact .inr hk
      · exact .inl fun hl => hc ⟨hl, hk⟩
    rw [laneHit_acts nv t hi hc]
    exact (handHit_hitFrame k t _).trans (hitMoved_spec nv t hi hc).1

/-- What a hit that acts leaves: the lane, the timers, and the waits a moved lane ends. -/
theorem laneHit_spec (nv : NvStore) {k : Strip} (t : Nat) {d : Device} (hi : d.lsv.lane ≠ .init) (hc : d.lsv.lane ≠ .clear ∨ k = .a) :
    (laneHit nv k t d).lsv.lane = laneAfterHit k d.lsv.lane ∧
    (laneHit nv k t d).lsv.settle = (if laneAfterHit k d.lsv.lane = .entering ∧
      (d.lsv.beamIn.state = false ∧ d.lsv.beamOut.state = false) ∧ d.lsv.occupancy = .occupied then some t else none) ∧
    (laneHit nv k t d).lsv.clear = (if (d.lsv.beamIn.state = false ∧ d.lsv.beamOut.state = false) ∧ d.lsv.occupancy = .empty
      then some t else none) ∧
    (laneAfterHit k d.lsv.lane = d.lsv.lane → (laneHit nv k t d).exe = d.exe ∧ (laneHit nv k t d).tx = d.tx) ∧
    (∀ g, laneAfterHit k d.lsv.lane ≠ d.lsv.lane → d.exe.slot = some g →
      (∃ n, d.exe.stage = .zerWait n) ∨ (∃ c n, d.exe.stage = .capWait c n) ∨ (∃ n w, d.exe.stage = .runWait .cze n w) →
      (laneHit nv k t d).exe = ⟨some g, .ended⟩ ∧
      (laneHit nv k t d).tx.longs = d.tx.longs ++ [recordOf '#' (tagText g) [['L', 'A', 'N']]]) := by
  obtain ⟨hframe, hlane, hsame, hends⟩ := hitMoved_spec nv t hi hc
  obtain ⟨hlaneH, hexeH, htxH, -⟩ := handHit_same k t (hitMoved nv k t d)
  have hframeH := (handHit_hitFrame k t (hitMoved nv k t d)).trans hframe
  have hin : (handHit k t (hitMoved nv k t d)).lsv.beamIn = d.lsv.beamIn := congrArg (fun f => f.2.2.2.2.1) hframeH
  have hout : (handHit k t (hitMoved nv k t d)).lsv.beamOut = d.lsv.beamOut := congrArg (fun f => f.2.2.2.2.2.1) hframeH
  have hocc : (handHit k t (hitMoved nv k t d)).lsv.occupancy = d.lsv.occupancy := congrArg (fun f => f.2.2.2.2.2.2.2.2.2) hframeH
  rw [laneHit_acts nv t hi hc, hitTimers_eq]
  simp only [hlaneH, hlane, hin, hout, hocc, hexeH, htxH]
  refine ⟨trivial, trivial, ?_, fun h => by rw [hsame h]; exact ⟨rfl, rfl⟩, hends⟩
  simp only [laneAfterHit_passage hi hc, true_and]

/-- The strip A hit that opens a passage from CLEAR. -/
theorem laneHit_opens (nv : NvStore) (t : Nat) {d : Device} (hl : d.lsv.lane = .clear) :
    (laneHit nv .a t d).axu.hitsA = 1 ∧ (laneHit nv .a t d).axu.pendingA = [t] ∧ (laneHit nv .a t d).axu.samples = [] ∧
    ∃ p, (laneHit nv .a t d).lsv.current = some p ∧ p.number = d.lsv.nextPassage ∧ p.cause = .aHit ∧ p.openAt = t := by
  have hmoved : hitMoved nv .a t d = enterPassage .aHit t d := if_pos hl
  have hne : d.lsv.lane ≠ .entering := hl.trans_ne (by decide)
  have hcur : (enterPassage .aHit t d).lsv.current = some (openedPassage .aHit t d) := by rw [enterPassage_eq hne]
  have haxu : (enterPassage .aHit t d).axu = axuStart d.zsu.b1 (moduleExists d .i0) (division d) := by rw [enterPassage_eq hne]
  have hhead := axuHit_head (enterPassage .aHit t d).nvc.settings .a t ⟨(enterPassage .aHit t d).axu, openedPassage .aHit t d⟩
  rw [laneHit_acts nv t (hl.trans_ne (by decide)) (.inr rfl), hmoved, handHit_eq hcur]
  rw [haxu] at hhead ⊢
  obtain ⟨h1, h2, h3⟩ := axuHit_first (enterPassage .aHit t d).nvc.settings t d.zsu.b1 (moduleExists d .i0) (division d)
    (openedPassage .aHit t d)
  exact ⟨h1, h2, h3, _, rfl, (congrArg Passage.number hhead :), (congrArg Passage.cause hhead :), (congrArg Passage.openAt hhead :)⟩

/-- The strip A hit in LEAVING: a tailgate. -/
theorem laneHit_tailgate (nv : NvStore) (t : Nat) {p : Passage} {d : Device} (hl : d.lsv.lane = .leaving) (hp : d.lsv.current = some p) :
    (laneHit nv .a t d).axu.hitsA = 1 ∧ (laneHit nv .a t d).axu.pendingA = [t] ∧
    (laneHit nv .a t d).axu.samples = d.axu.samples.filter (fun x => decide (t ≤ x.latch)) ∧
    (∃ q, (laneHit nv .a t d).lsv.current = some q ∧ q.number = d.lsv.nextPassage ∧ q.cause = .tailgate ∧
      q.flags.tailgateIn = true ∧ q.openAt = t) ∧
    ∃ q, (laneHit nv .a t d).lsv.history.getLast? = some q ∧ q.number = p.number ∧ q.closeCause = some .tailgate ∧
      q.closeAt = some t ∧ q.flags.tailgateOut = true := by
  obtain ⟨hlane, -, hnext, -⟩ := closePassage_same nv .tailgate t d
  obtain ⟨⟨q, hlast, hnum, hcause, hat, -, -, hout⟩, -⟩ := closePassage_newest nv .tailgate t hp
  have hne : (closePassage nv .tailgate t d).lsv.lane ≠ .entering := by
    rw [hlane, hl]
    decide
  have hmoved : hitMoved nv .a t d = tailgate nv t d := by
    unfold hitMoved
    rw [if_neg (by rw [hl]; decide), if_neg (by rw [hl]; decide), if_pos ⟨hl, rfl⟩]
  have hcur : (tailgate nv t d).lsv.current = some (openedPassage .tailgate t (closePassage nv .tailgate t d)) := by
    rw [tailgate_eq hp hl, enterPassage_eq hne]
  have haxu : (tailgate nv t d).axu =
      { axuStart d.zsu.b1 (moduleExists d .i0) (division d) with samples := d.axu.samples.filter fun s => t ≤ s.latch } := by
    rw [tailgate_eq hp hl]
  have hhist : (tailgate nv t d).lsv.history = (closePassage nv .tailgate t d).lsv.history := by
    rw [tailgate_eq hp hl, enterPassage_eq hne]
  have hhead := axuHit_head (tailgate nv t d).nvc.settings .a t ⟨(tailgate nv t d).axu,
    openedPassage .tailgate t (closePassage nv .tailgate t d)⟩
  rw [laneHit_acts nv t (hl.trans_ne (by decide)) (.inr rfl), hmoved, handHit_eq hcur]
  rw [haxu] at hhead ⊢
  refine ⟨rfl, rfl, rfl, ⟨_, rfl, ((congrArg Passage.number hhead :).trans hnext), (congrArg Passage.cause hhead :),
    (congrArg (fun q : Passage => q.flags.tailgateIn) hhead :), (congrArg Passage.openAt hhead :)⟩, q, ?_, hnum, hcause, hat, ?_⟩
  · show (tailgate nv t d).lsv.history.getLast? = some q
    rw [hhist, hlast]
  · rw [hout]
    exact Bool.or_true _

/-- Settles O41: an edge blanked, and a hit that is accepted, by what it does to the lane. -/
theorem Proofs.stripHit : Obligations.StripHit := by
  intro k time s hrun hcycle
  have hon : (running s.dev && s.dev.clc.cycle.isSome) = true := by
    rw [hrun, Option.isSome_iff_ne_none.2 hcycle]
    rfl
  refine ⟨fun last hlast hlt => ?_, fun hok => ?_⟩
  · refine congrArg (fun d => Host.Outcome.next (becomes s d)) (?_ : Machine.stripHit k time s.nv s.dev = _)
    have hno : ¬ (decide (last + Config.blankingMs ≤ time) = true) := by
      rw [decide_eq_true_iff]
      exact Nat.not_le.2 hlt
    simp only [Machine.stripHit, hon, if_true, accepted, hlast, hno]
    rfl
  · obtain ⟨x, hx⟩ : ∃ x, x = storeHit k time { s.dev with now := max s.dev.now time } := ⟨_, rfl⟩
    have hyes : accepted (lastHitOf s.dev k) time = true := by
      unfold accepted
      split
      next last hlast => exact decide_eq_true (hok last hlast)
      next => rfl
    have hexec : exec (.stripHit k time) s = .next (becomes s (laneHit s.nv k time x)) := by
      refine congrArg (fun d => Host.Outcome.next (becomes s d)) (?_ : Machine.stripHit k time s.nv s.dev = _)
      simp only [Machine.stripHit, hon, if_true, hyes, hx]
      rfl
    obtain ⟨a, b, c, hstore⟩ := storeHit_lsv k time { s.dev with now := max s.dev.now time }
    have hlast (j : Strip) : lastHitOf x j = if j = k then some time else lastHitOf s.dev j := by
      rw [hx, lastHitOf_storeHit]
      cases j <;> rfl
    have hx : x = { s.dev with now := max s.dev.now time, lsv := { s.dev.lsv with hitA := a, hitB := b, hitC := c } } := hx.trans hstore
    have hlane : x.lsv.lane = s.dev.lsv.lane := by rw [hx]
    have hnext : x.lsv.nextPassage = s.dev.lsv.nextPassage := by rw [hx]
    have hcur : x.lsv.current = s.dev.lsv.current := by rw [hx]
    have haxu : x.axu = s.dev.axu := by rw [hx]
    have hin : x.lsv.beamIn = s.dev.lsv.beamIn := by rw [hx]
    have hout : x.lsv.beamOut = s.dev.lsv.beamOut := by rw [hx]
    have hocc : x.lsv.occupancy = s.dev.lsv.occupancy := by rw [hx]
    have hexe : x.exe = s.dev.exe := by rw [hx]
    have htx : x.tx = s.dev.tx := by rw [hx]
    have hrxX : x.rx = s.dev.rx := by rw [hx]
    obtain ⟨hrx, hqueue, -⟩ := laneHit_host s.nv k time x
    have hframe := laneHit_hitFrame s.nv k time x
    have hacts (hi : s.dev.lsv.lane ≠ .init) (hc : s.dev.lsv.lane ≠ .clear ∨ k = .a) :=
      laneHit_spec s.nv (k := k) time (d := x) (hlane ▸ hi) (hlane ▸ hc)
    have hidle (h : s.dev.lsv.lane = .init ∨ s.dev.lsv.lane = .clear ∧ k ≠ .a) : laneHit s.nv k time x = x :=
      laneHit_idle s.nv time (by rw [hlane]; exact h)
    have hdev : (becomes s (laneHit s.nv k time x)).dev = refreshLights (laneHit s.nv k time x) := rfl
    have hlights := becomes_lights s (laneHit s.nv k time x)
    obtain ⟨gi, go, hlsv⟩ := becomes_lsv s (laneHit s.nv k time x)
    have hnv : (becomes s (laneHit s.nv k time x)).nv = s.nv := rfl
    generalize becomes s (laneHit s.nv k time x) = t at *
    have hframeT : hitFrame t.dev = hitFrame x := by
      rw [← hframe, hlights, hlsv]
      rfl
    have hlaneT : t.dev.lsv.lane = (laneHit s.nv k time x).lsv.lane := by rw [hlsv]
    have hcurT : t.dev.lsv.current = (laneHit s.nv k time x).lsv.current := by rw [hlsv]
    have hhistT : t.dev.lsv.history = (laneHit s.nv k time x).lsv.history := by rw [hlsv]
    have haxuT : t.dev.axu = (laneHit s.nv k time x).axu := by rw [hlights]
    have hexeT : t.dev.exe = (laneHit s.nv k time x).exe := by rw [hlights]
    have htxT : t.dev.tx = (laneHit s.nv k time x).tx := by rw [hlights]
    have hafter (hi : s.dev.lsv.lane ≠ .init) (hc : s.dev.lsv.lane ≠ .clear ∨ k = .a) :
        t.dev.lsv.lane = laneAfterHit k s.dev.lsv.lane := by rw [hlaneT, (hacts hi hc).1, hlane]
    have hstay (h : s.dev.lsv.lane = .init ∨ s.dev.lsv.lane = .clear ∧ k ≠ .a) : t.dev.lsv.lane = s.dev.lsv.lane := by
      rw [hlaneT, hidle h, hlane]
    have hcases : (s.dev.lsv.lane = .init ∨ s.dev.lsv.lane = .clear ∧ k ≠ .a) ∨
        s.dev.lsv.lane ≠ .init ∧ (s.dev.lsv.lane ≠ .clear ∨ k = .a) := by tauto
    refine ⟨t, hexec, hnv, ?_, ?_, ?_, ?_, ?_, ?_, ?_, fun j hj => ?_, fun h => ?_, fun hl hk => ?_, fun p hl hp => ?_, fun hl => ?_,
      fun hi hc => ?_, fun hl hk => ?_, fun p hl hp hk => ?_, fun g hm hg hst => ?_, fun hm => ?_⟩
    · rw [hlights, ← hrxX]
      exact hrx
    · rw [hlights, ← htx]
      exact hqueue
    · exact (congrArg (fun f => f.1) hframeT).trans (by rw [hx])
    · exact (congrArg (fun f => f.2.1) hframeT).trans (by rw [hx])
    · exact (congrArg (fun f => f.2.2.1) hframeT).trans (by rw [hx])
    · exact (congrArg (fun f => f.2.2.2.1) hframeT).trans (by rw [hx])
    · rw [lastHitOf_congr hframeT, hlast, if_pos rfl]
    · rw [lastHitOf_congr hframeT, hlast, if_neg hj]
    · rw [hdev, hidle h, hx, hstore]
    · subst hk
      obtain ⟨h1, h2, h3, p, hp, hnum, hcause, hat⟩ := laneHit_opens s.nv time (hlane.trans hl)
      rw [hafter (hl.trans_ne (by decide)) (.inr rfl), haxuT, hcurT, hl]
      exact ⟨rfl, h1, h2, h3, p, hp, hnum.trans hnext, hcause, hat⟩
    · have hi : s.dev.lsv.lane ≠ .init := hl.trans_ne (by decide)
      have hc : s.dev.lsv.lane ≠ .clear := hl.trans_ne (by decide)
      have hmoved : hitMoved s.nv k time x = x := (hitMoved_spec s.nv time (hlane ▸ hi) (.inl (hlane ▸ hc))).2.2.1 (by rw [hlane, hl]; rfl)
      have hpx : x.lsv.current = some p := hcur.trans hp
      obtain ⟨ca, cb, cc, -⟩ := axuHit_counts x.nvc.settings k time ⟨x.axu, p⟩
      have hr : (laneHit s.nv k time x).axu = (axuHit x.nvc.settings k time ⟨x.axu, p⟩).ax := by
        rw [laneHit_acts s.nv time (hlane ▸ hi) (.inl (hlane ▸ hc)), hmoved, handHit_eq hpx]
        rfl
      rw [hafter hi (.inl hc), hl, haxuT, hr, ← haxu]
      exact ⟨rfl, fun hk => ca.trans (if_pos hk), fun hk => cb.trans (if_pos hk), fun hk => cc.trans (if_pos hk)⟩
    · rw [hafter (hl.trans_ne (by decide)) (.inl (hl.trans_ne (by decide))), hl]
      rfl
    · obtain ⟨-, hsettle, hclear, -⟩ := hacts hi hc
      intro clear
      have hbin : t.dev.lsv.beamIn = s.dev.lsv.beamIn := (congrArg (fun f => f.2.2.2.2.1) hframeT).trans hin
      have hbout : t.dev.lsv.beamOut = s.dev.lsv.beamOut := (congrArg (fun f => f.2.2.2.2.2.1) hframeT).trans hout
      have hoccT : t.dev.lsv.occupancy = s.dev.lsv.occupancy := (congrArg (fun f => f.2.2.2.2.2.2.2.2.2) hframeT).trans hocc
      rw [hlane, hin, hout, hocc] at hsettle
      rw [hin, hout, hocc] at hclear
      refine ⟨hbin, hbout, hoccT, ?_, ?_⟩
      · rw [hafter hi hc, hlsv]
        exact hsettle
      · rw [hlsv]
        exact hclear
    · rw [hafter (hl.trans_ne (by decide)) (.inl (hl.trans_ne (by decide))), hl]
      exact if_neg hk
    · subst hk
      obtain ⟨h1, h2, h3, ⟨q, hq, hnum, hcause, htail, hat⟩, hnewest⟩ :=
        laneHit_tailgate s.nv time (hlane.trans hl) (p := p) (hcur.trans hp)
      rw [hafter (hl.trans_ne (by decide)) (.inr rfl), haxuT, hcurT, hhistT, hl]
      exact ⟨rfl, h1, h2, h3.trans (by rw [haxu]), ⟨q, hq, hnum.trans hnext, hcause, htail, hat⟩, hnewest⟩
    · obtain h | ⟨hi, hc⟩ := hcases
      · exact absurd (hstay h) hm
      · rw [hexeT, htxT, ← htx]
        exact (hacts hi hc).2.2.2.2 g (by rw [hlane, ← hafter hi hc]; exact hm) (hexe ▸ hg) (hexe ▸ hst)
    · obtain h | ⟨hi, hc⟩ := hcases
      · rw [hexeT, htxT, hidle h, hexe, htx]
        exact ⟨rfl, rfl⟩
      · rw [hexeT, htxT, ← hexe, ← htx]
        exact (hacts hi hc).2.2.2.1 (by rw [hlane, ← hafter hi hc]; exact hm)

end Sys2Proof.Machine
end

section
/-! PROOF. The lock switch, and the deadlines of waiting commands. -/

namespace Sys2Proof.Machine

open Sys2Proof.Safety

/-! ### The lock (R154, R158, R168) -/

/-- The part with the lock position following its switch, MET raised. -/
def lockFollows (t0 : Nat) (d : Device) : Device :=
  noticed .met { d with now := max d.now (t0 + 100), mst := { d.mst with lock := ⟨d.mst.lock.raw, d.mst.lock.raw, none⟩ } }

theorem lockFollows_eq (t0 : Nat) (d : Device) : lockFollows t0 d = { d with
    now := max d.now (t0 + 100)
    mst := { d.mst with lock := ⟨d.mst.lock.raw, d.mst.lock.raw, none⟩ }
    ntc := noticedNtc .met d.ntc } := by
  rw [lockFollows, noticed_ntc]

theorem lockPositionChange_eq {nv : NvStore} {t0 : Nat} {d : Device} (hrun : running d = true) (hdeb : d.mst.lock.debounce = some t0) :
    lockPositionChange nv d = if d.mst.lock.raw = true then lockFollows t0 d else lockCloses nv (lockFollows t0 d) := by
  have hstate : (lockFollows t0 d).mst.lock.state = d.mst.lock.raw := by rw [lockFollows_eq]
  rw [← hstate]
  simp only [lockPositionChange, hdeb, hrun, if_true]
  rfl

/-- A discard: the run closes, MET is raised, and the audit is asked for or owed (R167). -/
def runClosed (d : Device) : Device := noticed .met { d with mst := { d.mst with run := none } }

theorem runClosed_eq (d : Device) : runClosed d = { d with mst := { d.mst with run := none }, ntc := noticedNtc .met d.ntc } := by
  rw [runClosed, noticed_ntc]

theorem discardRun_eq (nv : NvStore) (d : Device) : discardRun nv d = requestDiscard nv (runClosed d) := rfl

theorem requestStatus_frame (nv : NvStore) (rec : StatusRec) (forLong : Bool) (d : Device) : requestStatus nv rec forLong d = { d with
    mst := { d.mst with held := (requestStatus nv rec forLong d).mst.held }
    nvc := (requestStatus nv rec forLong d).nvc } := by
  unfold requestStatus
  split
  · rfl
  · rw [request_frame]

theorem appendRefused_frame (nv : NvStore) (d : Device) : appendRefused nv d = { d with
    mst := { d.mst with state := (appendRefused nv d).mst.state, held := (appendRefused nv d).mst.held }
    auu := (appendRefused nv d).auu
    nvc := (appendRefused nv d).nvc
    ntc := (appendRefused nv d).ntc } := by
  unfold appendRefused
  dsimp only
  split
  · rfl
  · generalize (if d.mst.state = .calibrated then MetState.suspect else d.mst.state) = st
    rw [raise_eq, noticed_ntc]
    split
    · rw [requestStatus_frame]
    · rfl

theorem append_frame (nv : NvStore) (src : Requester) (body : AuditBody) (counter : Option Nat) (d : Device) :
    append nv src body counter d = { d with
      mst := { d.mst with state := (append nv src body counter d).mst.state, held := (append nv src body counter d).mst.held }
      auu := (append nv src body counter d).auu
      nvc := (append nv src body counter d).nvc
      ntc := (append nv src body counter d).ntc } := by
  unfold append
  split
  · rw [appendRefused_frame]
  · rw [request_frame]

theorem requestDiscard_frame (nv : NvStore) (d : Device) : requestDiscard nv d = { d with
    mst := { d.mst with state := (requestDiscard nv d).mst.state, held := (requestDiscard nv d).mst.held }
    auu := (requestDiscard nv d).auu
    nvc := (requestDiscard nv d).nvc
    ntc := (requestDiscard nv d).ntc } := by
  unfold requestDiscard
  split
  · rfl
  · rw [append_frame]

/-- Settles O44: the position follows, and a lock that closes acts on the stage and the run. -/
theorem lockPosition : Obligations.LockPosition := by
  intro t0 s hrun hdeb moved
  have hmoved : lockFollows t0 s.dev = moved := rfl
  have hexec : exec .lockPositionChange s = .next (becomes s (lockPositionChange s.nv s.dev)) := rfl
  rw [lockPositionChange_eq hrun hdeb, hmoved] at hexec
  refine ⟨fun hraw => hexec.trans (by rw [if_pos hraw]), fun hraw => ?_⟩
  rw [if_neg (by rw [hraw]; decide)] at hexec
  have hexe : moved.exe = s.dev.exe := by rw [← hmoved, lockFollows_eq]
  have hrunM : moved.mst.run = s.dev.mst.run := by rw [← hmoved, lockFollows_eq]
  have go {x : Device} (h : lockCloses s.nv moved = x) : exec .lockPositionChange s = .next (becomes s x) := by rw [hexec, h]
  have openIff {w : WorkCopy} (hw : s.dev.mst.run = some w) : runOpen moved = true := by
    rw [runOpen, hrunM, hw]
    rfl
  refine ⟨fun hr hst => go ?_, fun items more count time b hst => go ?_, fun more count b hst => go ?_,
    fun w hw hst hq => ?_, fun w g c k win hw hst hg => ?_⟩
  · have hno : ¬ runOpen moved = true := by
      rw [runOpen, hrunM, hr]
      decide
    simp only [lockCloses, hexe, hst, hno]
    rfl
  · simp only [lockCloses, hexe, hst, setStage_eq]
  · simp only [lockCloses, hexe, hst, setStage_eq]
  · intro closed
    have hclosed : runClosed moved = closed := rfl
    have hcloses : lockCloses s.nv moved = requestDiscard s.nv closed := by
      simp only [lockCloses, hexe, hst, openIff hw, if_true, discardRun_eq, hclosed]
    have hfull : closed = { s.dev with
        now := max s.dev.now (t0 + 100)
        mst := { s.dev.mst with lock := ⟨s.dev.mst.lock.raw, s.dev.mst.lock.raw, none⟩, run := none }
        ntc := noticedNtc .met (noticedNtc .met s.dev.ntc) } := by
      rw [← hclosed, runClosed_eq, ← hmoved, lockFollows_eq]
    rw [hcloses] at go
    refine ⟨fun hb => go ?_, fun n hb hn hcap => go ?_⟩
    · have hbusy : statusBusy closed = true := by rw [hfull]; exact hb
      rw [requestDiscard, if_pos hbusy]
    · have hbusy : ¬ statusBusy closed = true := by rw [hfull]; exact fun h => Bool.false_ne_true (hb.symm.trans h)
      rw [requestDiscard, if_neg hbusy, hfull, append_requested (by exact hn) hcap (by exact hq)]
  · refine ⟨_, hexec, ?_⟩
    have hcloses : lockCloses s.nv moved = requestDiscard s.nv (runClosed (endedWith '#' g [['L', 'C', 'K']] moved)) := by
      have hfail : failWith .lck [] moved = endedWith '#' g [['L', 'C', 'K']] moved := failWith_eq .lck [] (by rw [hexe, hg])
      simp only [lockCloses, hexe, hst, openIff hw, if_true, discardRun_eq, hfail]
    rw [hcloses, becomes_lights, requestDiscard_frame, runClosed_eq, ← hmoved, lockFollows_eq]
    exact ⟨rfl, rfl, rfl⟩

/-! ### Deadlines (R51, R58, R141, R158) -/

theorem endAxleWait_eq {nv : NvStore} {x : Draft} {n k : Nat} {d : Device} (h : d.exe.stage = .axleWait x n k) (hq : QueueServed d) :
    endAxleWait nv d = ticketMade nv { x with summary := none, tailgate := currentTailgate d } d := by
  simp only [endAxleWait, h, makeRecord_eq hq]

theorem currentTailgate_congr {d e : Device} (h : d.lsv = e.lsv) : currentTailgate d = currentTailgate e := by
  simp only [currentTailgate, h]

/-- Of the part, the TAILGATE of a ticket without a summary depends on the Lane Supervisor alone (R138). -/
theorem currentTailgate_draft {d e : Device} (x : Draft) (h : d.lsv = e.lsv) :
    ({ x with summary := none, tailgate := currentTailgate d } : Draft) = { x with summary := none, tailgate := currentTailgate e } := by
  rw [currentTailgate_congr h]

/-- Settles O45: the three waits end MOT, the axle wait in its ticket. -/
theorem waitsEnd : Obligations.WaitsEnd := by
  intro k g s hg late
  have fail : failWith .mot [] (advance k s.dev) = endedWith '#' g [['M', 'O', 'T']] late := failWith_eq .mot [] hg
  have go {f : NvStore → Device → Device} {x : Device} (h : f s.nv s.dev = x) : s.act f = .next (becomes s x) := by rw [act_eq, h]
  have ticket {x : Draft} {n : Nat} {y : Device → Device} (hst : s.dev.exe.stage = .axleWait x n k) (hq : QueueServed s.dev)
      (h : ∀ d : Device, d.exe = s.dev.exe → d.txu = s.dev.txu → d.nvc = s.dev.nvc → d.mst = s.dev.mst → d.lsv = s.dev.lsv →
        ticketMade s.nv { x with summary := none, tailgate := currentTailgate d } d = y d) :
      exec .axleWaitExpires s = .next (becomes s (y late)) ∧
      (TakesCommands s.dev → exec (.abt []) s = .next (becomes s (y (answered .abt [tagText g] s.dev)))) := by
    refine ⟨go ?_, fun hc => act_command hc (.inl rfl) ?_⟩
    · simp only [axleWaitExpires, hst]
      rw [endAxleWait_eq (by exact hst) (by exact hq)]
      exact h late rfl rfl rfl rfl rfl
    · have hans := answered_tx .abt [tagText g] s.dev
      have hstA : (answered .abt [tagText g] s.dev).exe.stage = .axleWait x n k := by rw [hans]; exact hst
      have hqA : QueueServed (answered .abt [tagText g] s.dev) := by rw [hans]; exact hq
      simp only [doAbt, noFields, hg, answer_eq, abort, hstA]
      rw [endAxleWait_eq hstA hqA]
      refine h _ ?_ ?_ ?_ ?_ ?_ <;> rw [hans]
  refine ⟨fun hst => go ?_, fun c hst => go ?_, fun c w hst => go ?_, fun x n hst hno hq => ?_, fun x n m hst hm hq => ?_,
    fun hst => ⟨go ?_, go ?_, go ?_, go ?_⟩⟩
  · simp only [zerDeadline, hst, fail]
  · simp only [captureDeadline, hst, fail]
  · simp only [runCaptureDeadline, hst, fail]
  · intro x' rec' issued
    refine ticket hst hq fun d hexe htxu hnvc hmst hlsv => ?_
    have hdraft : ({ x with summary := none, tailgate := currentTailgate d } : Draft) = x' := currentTailgate_draft x hlsv
    rw [hdraft]
    simp only [ticketMade, htxu, hno, hnvc, hmst, ← suspect_beq]
    rfl
  · intro x' torn issued
    refine ticket hst hq fun d hexe htxu hnvc hmst hlsv => ?_
    have hdraft : ({ x with summary := none, tailgate := currentTailgate d } : Draft) = x' := currentTailgate_draft x hlsv
    rw [hdraft]
    simp only [ticketMade, htxu, hm, hnvc, hmst]
    rfl
  · simp only [zerDeadline, hst]
  · simp only [captureDeadline, hst]
  · simp only [runCaptureDeadline, hst]
  · simp only [axleWaitExpires, hst]

end Sys2Proof.Machine
end

section
/-! PROOF. The message port: characters received, assembled and sent, and records and notices placed. -/

namespace Sys2Proof.Machine

open Sys2Proof.Safety

/-! ### Reception (R190, R196 to R198) -/

theorem parityError_eq (p : Parity) (b : Byte) (parityBit : Bool) : parityError p b parityBit =
    (p == .even && ((List.range 8).countP (fun i => b.getLsbD i) + (if parityBit then 1 else 0)) % 2 == 1) := by
  cases p with
  | none => rfl
  | even =>
    have hones : onesOf b = (List.range 8).countP fun i => b.getLsbD i := (List.countP_eq_length_filter ..).symm
    simp only [parityError, hones]
    generalize (List.range 8).countP (fun i => b.getLsbD i) + (if parityBit then 1 else 0) = n
    obtain h | h := Nat.mod_two_eq_zero_or_one n <;> rw [h] <;> rfl

/-- A character that is no CAN without error enters the FIFO, or is an overrun. -/
theorem enterFifo_eq (c : RxChar) (rx : Rx) : enterFifo c rx = if rx.fifo.length < 64
    then { rx with fifo := rx.fifo ++ [c], rts := if rx.fifo.length + 1 = 48 then false else rx.rts } else overrun rx := by
  have hlen : (rx.fifo ++ [c]).length = rx.fifo.length + 1 := List.length_append
  have hfull : rx.fifo.length ≥ Config.fifoCap ↔ ¬ rx.fifo.length < 64 := Nat.not_lt.symm
  unfold enterFifo
  by_cases h : rx.fifo.length < 64
  · rw [if_neg fun hf => hfull.1 hf h, if_pos h]
    simp only [hlen]
    rfl
  · rw [if_pos (hfull.2 h), if_neg h]

theorem takeReceived_can (d : Device) (h : d.rx.spoilt = false) :
    takeReceived canByte false d = stopStream { d with rx := { d.rx with spoilt := false } } := by
  have hno : (false || d.rx.spoilt) = false := h
  simp only [takeReceived, hno, and_self, if_true]
  rfl

theorem takeReceived_enters {b : Byte} {e : Bool} {d : Device} (h : b ≠ canByte ∨ (e || d.rx.spoilt) = true) :
    takeReceived b e d = { d with rx := enterFifo ⟨Char.ofNat b.toNat, e || d.rx.spoilt⟩ { d.rx with spoilt := false } } := by
  have hno : ¬ (b = canByte ∧ (e || d.rx.spoilt) = false) := by
    rintro ⟨hb, he⟩
    obtain h | h := h
    · exact h hb
    · exact Bool.false_ne_true (he.symm.trans h)
  exact if_neg hno

/-- Settles O51: a CAN that is right, and a character that enters the FIFO or overruns it. -/
theorem characterReceived : Obligations.CharacterReceived := by
  intro c parityBit stopBit s hu odd err taken enters overruns
  have can : exec .canCharacter s = .next (becomes s (takeReceived canByte false s.dev)) :=
    congrArg (fun d => Host.Outcome.next (becomes s d)) (if_pos hu)
  have rx : exec (.rxCharacter c parityBit stopBit) s =
      .next (becomes s (takeReceived c (parityError s.dev.tx.par c parityBit || !stopBit) s.dev)) :=
    congrArg (fun d => Host.Outcome.next (becomes s d)) (if_pos hu)
  have herr : (parityError s.dev.tx.par c parityBit || !stopBit || s.dev.rx.spoilt) = err := by rw [parityError_eq]
  have fifo (ch : Char) (e : Bool) : { s.dev with rx := enterFifo ⟨ch, e⟩ { s.dev.rx with spoilt := false } } =
      if s.dev.rx.fifo.length < 64 then enters ch e else overruns := by
    rw [enterFifo_eq]
    split
    · rfl
    · simp only [overruns, overrun]
      rfl
  refine ⟨fun x hs hst => ?_, fun hs hst => ?_, fun hs => ?_, fun hc he => ?_, fun h => ?_⟩
  · rw [can, takeReceived_can _ hs]
    simp only [stopStream, hst, setStage_eq]
    rfl
  · rw [can, takeReceived_can _ hs]
    unfold stopStream
    split
    next x hx => exact absurd hx (hst x)
    next => rfl
  · rw [can, takeReceived_enters (.inr (by rw [hs]; rfl)), fifo, hs]
    rfl
  · rw [he] at herr
    obtain ⟨hp, hs⟩ := Bool.or_eq_false_iff.1 herr
    rw [rx, can, hp, hc]
    rfl
  · rw [rx, takeReceived_enters, herr, fifo]
    rw [herr]
    exact h

/-! ### Assembly and transmission (R196, R197, R199, R204) -/

theorem startTx_eq {d : Device} (hu : uartOn d = true) :
    startTx d = { d with tx := { d.tx with sending := d.tx.sending || (d.tx.cts && !d.tx.queue.isEmpty) } } := by
  rw [startTx, hu, Bool.true_and]

/-- Settles O52: one character into the record, and one character out of the queue. -/
theorem assemblyAndTransmission : Obligations.AssemblyAndTransmission := by
  have go {s : State} {f : NvStore → Device → Device} {x : Device} (h : f s.nv s.dev = x) : s.act f = .next (becomes s x) := by
    rw [act_eq, h]
  refine ⟨fun s hu => ⟨fun h => go ?_, fun c rest hc hf => ?_, fun ha hg => go ?_, fun ha => go ?_⟩,
    fun level s hu => ⟨go ?_, fun c rest hs hq => ?_, fun hs => go ?_⟩⟩
  · cases hc : s.dev.rx.complete with
    | true => simp only [recordAssembly, hc, Bool.not_true, Bool.and_false, Bool.false_eq_true, if_false]
    | false =>
      have hf : s.dev.rx.fifo = [] := h.resolve_right (by rw [hc]; decide)
      simp only [recordAssembly, hu, hc, Bool.not_false, Bool.and_self, if_true, takeChar, hf]
  · intro rx
    have hon : (uartOn s.dev && !s.dev.rx.complete) = true := by
      rw [hu, hc]
      rfl
    refine go ?_
    rw [recordAssembly, if_pos hon, takeChar, hf]
    rfl
  · simp only [gapTimeout, hu, ha, hg, Bool.and_self, if_true]
    rfl
  · simp only [gapTimeout, ha, Bool.and_false, Bool.false_and, Bool.false_eq_true, if_false]
  · exact startTx_eq (d := { s.dev with tx := { s.dev.tx with cts := level } }) hu
  · intro queue nearer due sent d
    have hrate : (due.map (·.rate)).getD s.dev.tx.rate = sent.rate := by
      simp only [sent]
      cases due <;> rfl
    have hpar : (due.map (·.par)).getD s.dev.tx.par = sent.par := by
      simp only [sent]
      cases due <;> rfl
    have hraw : charSent s.dev.tx = { sent with
        sending := false
        rate := (due.map (·.rate)).getD s.dev.tx.rate
        par := (due.map (·.par)).getD s.dev.tx.par } := by
      rw [charSent, hq]
      rfl
    have hsent : charSent s.dev.tx = { sent with sending := false } := by rw [hraw, hrate, hpar]
    have hon : (uartOn s.dev && s.dev.tx.sending) = true := by
      rw [hu, hs]
      rfl
    have hswitch : rateChanged s.dev.tx { s.dev with tx := { sent with sending := false } } =
        { d with tx := { sent with sending := false } } := by
      unfold rateChanged
      simp only [d]
      split <;> rfl
    refine go ?_
    rw [txCharacterSent, if_pos hon, hsent, hswitch, freeSlot]
    by_cases h : s.dev.exe.stage = .ended ∧ s.dev.tx.longs = [] ∧ sent.placing = []
    · rw [if_pos h, if_pos (by exact h), startTx_eq (by exact hu)]
      rfl
    · rw [if_neg h, if_neg (by exact h), startTx_eq (by exact hu)]
      rfl
  · simp only [txCharacterSent, hs, Bool.and_false, Bool.false_eq_true, if_false]

/-! ### What notices carry (section 11.5) -/

theorem sysNotice_eq (d : Device) : sysNotice d = readyShown d.nvc.ready := by
  unfold sysNotice readyShown
  dsimp only
  generalize d.nvc.ready = r
  obtain ⟨cause, clock, valid, cal, counter, state, jr, ar, openVisits, dropped, freed, tares, fail⟩ := r
  cases cause <;> cases clock <;> cases cal <;> cases jr <;> cases ar <;> rfl

theorem lneNotice_eq (d : Device) : lneNotice d = laneShown d := by
  unfold lneNotice laneShown lightFields
  cases d.lsv.current <;> cases d.lsv.beamIn.state <;> cases d.lsv.beamOut.state <;> cases d.lsv.greenIn <;> cases d.lsv.greenOut <;> rfl

theorem axlNotice_eq (d : Device) : axlNotice d = axlesShown d := by
  unfold axlNotice axlesShown
  cases d.lsv.history.getLast? <;> rfl

theorem noticeFields_eq (nv : NvStore) (d : Device) (c : Notice) : noticeFields nv d c = noticeShown nv d c := by
  cases c with
  | sys => exact sysNotice_eq d
  | met => exact mstFields_eq d
  | cel => rfl
  | lne => exact lneNotice_eq d
  | axl => exact axlNotice_eq d
  | jrn => exact jstFields_eq nv d

/-! ### Placement (R202, R204, R205) -/

theorem streaming_iff (d : Device) : streaming d = true ↔ ∃ x, d.exe.stage = .stream x := by
  unfold streaming
  split
  next x h => exact ⟨fun _ => ⟨x, h⟩, fun _ => rfl⟩
  next h => exact ⟨fun hf => (nomatch hf), fun ⟨x, hx⟩ => absurd hx (h x)⟩

/-- A class that may be emitted: pending, enabled, and after READY but for SYS. -/
def mayEmit (n : Ntc) (c : Notice) : Prop := n.pending.get c = true ∧ n.enabled.get c = true ∧ (n.readySent = true ∨ c = .sys)

theorem mayEmit_iff (n : Ntc) (c : Notice) :
    (n.pending.get c && n.enabled.get c && (n.readySent || c == .sys)) = true ↔ mayEmit n c := by
  simp only [mayEmit, Bool.and_eq_true, Bool.or_eq_true, beq_iff_eq, and_assoc]

theorem topNotice_isSome (n : Ntc) : (topNotice n).isSome = true ↔ ∃ c, mayEmit n c := by
  have hall (c : Notice) : c ∈ Notice.byPriority := by cases c <;> decide
  rw [topNotice, List.find?_isSome]
  exact ⟨fun ⟨c, _, h⟩ => ⟨c, (mayEmit_iff n c).1 h⟩, fun ⟨c, h⟩ => ⟨c, hall c, (mayEmit_iff n c).2 h⟩⟩

/-- The classes of higher priority than one. -/
def classesBefore : Notice → List Notice
  | .sys => []
  | .met => [.sys]
  | .cel => [.sys, .met]
  | .lne => [.sys, .met, .cel]
  | .axl => [.sys, .met, .cel, .lne]
  | .jrn => [.sys, .met, .cel, .lne, .axl]

theorem byPriority_split (c : Notice) : ∃ after, Notice.byPriority = classesBefore c ++ c :: after := by
  cases c <;> exact ⟨_, rfl⟩

theorem topNotice_eq {n : Ntc} {c : Notice} (hc : mayEmit n c) (hb : ∀ b ∈ classesBefore c, ¬ mayEmit n b) : topNotice n = some c := by
  obtain ⟨after, hsplit⟩ := byPriority_split c
  refine List.find?_eq_some_iff_append.2 ⟨(mayEmit_iff n c).2 hc, _, after, hsplit, fun b hmem => ?_⟩
  rw [Bool.not_eq_true', ← Bool.not_eq_true, mayEmit_iff]
  exact hb b hmem

theorem noticeTurn_iff {d : Device} (hu : uartOn d = true) : noticeTurn d = true ↔
    ¬ RepliesWait d ∧ d.tx.placing = [] ∧ d.tx.queue = [] ∧ (∃ c, mayEmit d.ntc c) ∧
      (d.tx.lastNotice = false ∨ (d.tx.longs = [] ∧ ∀ x, d.exe.stage ≠ .stream x)) := by
  have hlong : (!(d.tx.lastNotice && (!d.tx.longs.isEmpty || streaming d))) = true ↔
      d.tx.lastNotice = false ∨ (d.tx.longs = [] ∧ ∀ x, d.exe.stage ≠ .stream x) := by
    have hstream : streaming d = false ↔ ∀ x, d.exe.stage ≠ .stream x := by
      rw [← Bool.not_eq_true, streaming_iff, not_exists]
    rw [Bool.not_eq_true', Bool.and_eq_false_iff, Bool.or_eq_false_iff, Bool.not_eq_false', List.isEmpty_iff, hstream]
  have hreply : (!repliesWait d) = true ↔ ¬ RepliesWait d := by
    rw [Bool.not_eq_true', ← Bool.not_eq_true, repliesWait_iff]
  rw [noticeTurn, hu, Bool.true_and, Bool.and_eq_true, Bool.and_eq_true, Bool.and_eq_true, Bool.and_eq_true, hlong, hreply,
    List.isEmpty_iff, List.isEmpty_iff, topNotice_isSome]
  simp only [and_assoc]

theorem placeText_eq {r : Text} {notice : Bool} {d : Device} (hu : uartOn d = true) : placeText r notice d = { d with tx := { d.tx with
    queue := d.tx.queue ++ r.take (2048 - d.tx.queue.length)
    placing := r.drop (2048 - d.tx.queue.length)
    lastNotice := notice
    sending := d.tx.sending || (d.tx.cts && !(d.tx.queue ++ r.take (2048 - d.tx.queue.length)).isEmpty) } } :=
  startTx_eq (d := { d with tx := { d.tx with
    queue := d.tx.queue ++ r.take (2048 - d.tx.queue.length)
    placing := r.drop (2048 - d.tx.queue.length)
    lastNotice := notice } }) hu

theorem placed_length (q r : Text) (n : Nat) : (q ++ r.take n).length + (r.drop n).length = q.length + r.length := by
  rw [List.length_append, List.length_take, List.length_drop]
  omega

/-- Settles O53: a reply, a record of the long operation, a notice in its turn. -/
theorem placementOfRecords : Obligations.PlacementOfRecords := by
  intro s hu room fitting placed may turn before
  have hfit (r : Text) : fits s.dev.tx.queue r = true ↔ fitting r := (fits_iff _ _).trans or_comm
  have hturn : noticeTurn s.dev = true ↔ turn := noticeTurn_iff hu
  have go {f : NvStore → Device → Device} {x : Device} (h : f s.nv s.dev = x) : s.act f = .next (becomes s x) := by rw [act_eq, h]
  refine ⟨fun hp => go ?_, fun r rest hp hr => ⟨fun hf => go ?_, fun hf => go ?_⟩,
    fun r rest hp hr hl => ⟨fun hf hw ht => ?_, fun h => go ?_⟩, fun hr hl => go ?_, fun c ht hc hb => go ?_, fun ht => go ?_⟩
  · refine if_neg fun h => hp ?_
    rw [Bool.and_eq_true, List.isEmpty_iff] at h
    exact h.2
  · have hon : (uartOn s.dev && s.dev.tx.placing.isEmpty) = true := by
      rw [hu, hp]
      rfl
    have hf : fits s.dev.tx.queue r = true := (hfit r).2 hf
    rw [recordPlacement, if_pos hon]
    simp only [hr, hf, if_true]
    exact placeText_eq (d := { s.dev with tx := { s.dev.tx with replies := rest } }) hu
  · have hon : (uartOn s.dev && s.dev.tx.placing.isEmpty) = true := by
      rw [hu, hp]
      rfl
    have hf : ¬ fits s.dev.tx.queue r = true := fun h => hf ((hfit r).1 h)
    rw [recordPlacement, if_pos hon]
    simp only [hr, hf]
    rfl
  · intro tx d
    have hon : (uartOn s.dev && s.dev.tx.placing.isEmpty) = true := by
      rw [hu, hp]
      rfl
    have hyes : (!repliesWait s.dev && fits s.dev.tx.queue r && !noticeTurn s.dev) = true := by
      rw [Bool.and_eq_true, Bool.and_eq_true, hfit, Bool.not_eq_true', Bool.not_eq_true', ← Bool.not_eq_true, ← Bool.not_eq_true,
        repliesWait_iff, hturn]
      exact ⟨⟨hw, hf⟩, ht⟩
    have hplace : placeText r false { s.dev with tx := { s.dev.tx with longs := rest } } = { s.dev with tx := tx } :=
      placeText_eq (d := { s.dev with tx := { s.dev.tx with longs := rest } }) hu
    have hnote : noteRateChange r { s.dev with tx := tx } = d := by
      have hleft : tx.queue.length + tx.placing.length = s.dev.tx.queue.length + r.length := placed_length _ _ _
      unfold noteRateChange
      simp only [d, hleft]
      split <;> rfl
    have hexe : d.exe = s.dev.exe := rfl
    have hlongs : d.tx.longs = rest := by
      simp only [d]
      split <;> rfl
    have hplacing : d.tx.placing = tx.placing := by
      simp only [d]
      split <;> rfl
    have hstep : recordPlacement s.nv s.dev =
        freeSlot (noteRateChange r (placeText r false { s.dev with tx := { s.dev.tx with longs := rest } })) := by
      rw [recordPlacement, if_pos hon]
      split
      next r' rest' h => rw [hr] at h; cases h
      next r' rest' _ h =>
        rw [hl] at h
        cases h
        exact if_pos hyes
      next _ h => rw [hl] at h; cases h
    refine go ?_
    rw [hstep, hplace, hnote, freeSlot, hexe, hlongs, hplacing]
  · have hon : (uartOn s.dev && s.dev.tx.placing.isEmpty) = true := by
      rw [hu, hp]
      rfl
    have hno : ¬ (!repliesWait s.dev && fits s.dev.tx.queue r && !noticeTurn s.dev) = true := by
      rw [Bool.and_eq_true, Bool.and_eq_true, hfit, Bool.not_eq_true', Bool.not_eq_true', ← Bool.not_eq_true, ← Bool.not_eq_true,
        repliesWait_iff, hturn]
      rintro ⟨⟨hw, hf⟩, ht⟩
      obtain h | h | h := h
      · exact h hf
      · exact hw h
      · exact ht h
    rw [recordPlacement, if_pos hon]
    simp only [hr, hl, hno]
    rfl
  · simp only [recordPlacement, hr, hl]
    exact ite_self _
  · have htop : topNotice s.dev.ntc = some c := topNotice_eq hc fun b hmem => hb b (by cases c <;> exact hmem)
    simp only [noticeEmission, htop, hturn.2 ht, if_true, emitNotice, placeText_eq hu, noticeFields_eq]
    rfl
  · have hno : ¬ noticeTurn s.dev = true := fun h => ht (hturn.1 h)
    unfold noticeEmission
    split
    · exact if_neg hno
    · rfl

end Sys2Proof.Machine
end

section
/-! PROOF. The axle unit: what strip hits and weight records build (R87 to R96), and the verdicts (R103 to R106). -/

namespace Sys2Proof.Machine

open Sys2Proof.Safety

/-! ### Verdict and result (R103 to R105) -/

theorem grossOver_iff (s : Settings) (d : Nat) (gross : Option Int) : grossOver s d gross = true ↔
    ∃ w, gross = some w ∧ s.lgrs ≠ 0 ∧ (s.lgrs : Int) < roundToDivision d w := by
  cases gross with
  | none => simp [grossOver]
  | some g => simp [grossOver]

/-- Settles O60: the verdict of each load, and the conditions of R105 in order. -/
theorem axleJudgement : Obligations.AxleJudgement := by
  refine ⟨fun _ => ⟨rfl, rfl⟩, fun _ _ => rfl, fun st d p => ?_⟩
  intro tooHeavy incomplete
  have hvoid (h : p.flags.reversed = true) : judgeResult st d p = .void := if_pos h
  have habsent : (p.axles.isEmpty || p.axles.all fun a => a.load == .absent) = true ↔ ∀ a ∈ p.axles, a.load = .absent := by
    cases p.axles with
    | nil => simp
    | cons a l => simp
  have hheavy : (p.groups.any (fun g => g.verdict == .over) || grossOver st d p.axleGross) = true ↔ tooHeavy := by
    simp only [Bool.or_eq_true, List.any_eq_true, beq_iff_eq, grossOver_iff, tooHeavy]
  have hopen : (p.groups.any (fun g => g.verdict == .unresolved) || p.flags.axlesFull || p.flags.intervalsFull ||
      p.flags.groupsFull || (st.lgrs != 0 && p.axles.any fun a => a.load == .unresolved)) = true ↔ incomplete := by
    simp only [Bool.or_eq_true, Bool.and_eq_true, List.any_eq_true, beq_iff_eq, bne_iff_ne, or_assoc, incomplete]
  refine ⟨hvoid, fun hrev => ?_⟩
  have hjudge : judgeResult st d p = if (∀ a ∈ p.axles, a.load = .absent) then .absent
      else if tooHeavy then .over else if incomplete then .incomplete else .pass := by
    unfold judgeResult
    simp only [hrev, Bool.false_eq_true, if_false, habsent, hheavy, hopen]
  rw [hjudge]
  refine ⟨fun h => if_pos h, fun ⟨a, ha, hne⟩ => ?_⟩
  rw [if_neg fun h => hne (h a ha)]
  exact ⟨fun h => if_pos h, fun h h' => by rw [if_neg h, if_pos h'], fun h h' => by rw [if_neg h, if_neg h']⟩

/-! ### Intervals (R93 to R96) -/

theorem endedAt_eq (t : Nat) : (fun v : Interval => if v.stop.isNone then { v with stop := some t } else v) = endedAt t := by
  funext v
  simp only [Option.isNone_iff_eq_none, endedAt]

theorem endInterval_eq (t : Nat) (p : Passage) : endInterval t p = { p with intervals := p.intervals.map (endedAt t) } := by
  rw [endInterval, endedAt_eq]

theorem occupancyChange_eq (t : Nat) (b : Build) : occupancyChange t b = ⟨b.ax, nextInterval t b.ax.onModule b.p⟩ := by
  rw [occupancyChange, endInterval_eq]
  rfl

theorem isComplete_eq (ax : Axu) (v : Interval) :
    isComplete ax v = v.stop.any fun e => ax.samples.any fun x => decide (e ≤ x.latch) := by
  unfold isComplete
  cases v.stop <;> rfl

/-- An interval after the fixing: as it was, fixed, or with the samples placed so far (R94). -/
def intervalNow (g nmin : Nat) (ax : Axu) (v : Interval) : Interval :=
  if v.usability ≠ .pending then v
  else if (v.stop.any fun e => ax.samples.any fun x => decide (e ≤ x.latch)) = true then fixInterval g nmin ax v
  else placeSamples (samplesOf ax v) v

theorem fixComplete_eq (g nmin : Nat) (b : Build) :
    fixComplete g nmin b = ⟨b.ax, { b.p with intervals := b.p.intervals.map (intervalNow g nmin b.ax) }⟩ := by
  have hnow : (fun v : Interval => if v.usability == .pending then
      (if isComplete b.ax v then fixInterval g nmin b.ax v else placeSamples (samplesOf b.ax v) v) else v) = intervalNow g nmin b.ax := by
    funext v
    simp only [intervalNow, isComplete_eq, beq_iff_eq, ite_not]
  rw [fixComplete, hnow]

theorem judgeUsability_eq (b1 : Option Int) (g nmin : Nat) (l used : List IvSample) (hu : usableSamples g l = used) :
    judgeUsability b1 g nmin l = (if b1 = none then .absent else if l.length - 2 * g < nmin then .short
      else if (∃ x ∈ used, x.allLive = false ∨ x.load = none ∨ x.clamped = true) then .slot else .usable : Usability) := by
  simp only [judgeUsability, hu, spoils, Option.isNone_iff_eq_none, List.any_eq_true, Bool.or_eq_true, Bool.not_eq_true', or_assoc]

/-- A mean stands in a USABLE interval alone. -/
theorem fixInterval_mean (g nmin : Nat) (ax : Axu) (v : Interval) :
    (fixInterval g nmin ax v).mean.isSome = true ↔ (fixInterval g nmin ax v).usability = .usable := by
  have hmean : (fixInterval g nmin ax v).mean = match judgeUsability ax.baseline g nmin (samplesOf ax v), ax.baseline with
    | .usable, some b1 => some (intervalMean b1 (usableSamples g (samplesOf ax v)))
    | _, _ => none := rfl
  have husable : (fixInterval g nmin ax v).usability = judgeUsability ax.baseline g nmin (samplesOf ax v) := rfl
  rw [hmean, husable]
  cases hb : ax.baseline with
  | none => simp [judgeUsability]
  | some b1 => cases judgeUsability (some b1) g nmin (samplesOf ax v) <;> simp

/-! ### Hits (R87 to R92) -/

theorem axuHitB_counting {dab t : Nat} {ax : Axu} {p : Passage} (h : ax.counting = true) :
    axuHitB dab t ⟨ax, p⟩ = ⟨{ ax with hitsB := ax.hitsB + 1 }, p⟩ := if_pos h

theorem axuHitB_reversed {dab t : Nat} {ax : Axu} {p : Passage} (h : ax.counting = false) (hp : ax.pendingA = []) :
    axuHitB dab t ⟨ax, p⟩ = ⟨{ ax with hitsB := ax.hitsB + 1, axles := ax.axles + 1, counting := true }, { p with
      counted := ax.axles + 1
      intervals := p.intervals.map (endedAt t)
      flags := { p.flags with reversed := true } }⟩ := by
  simp only [axuHitB, h, Bool.false_eq_true, if_false, hp, endInterval_eq]

theorem axuHitB_full {dab t tA : Nat} {rest : List Nat} {ax : Axu} {p : Passage} (h : ax.counting = false) (hp : ax.pendingA = tA :: rest)
    (hfull : 16 ≤ p.axles.length) :
    axuHitB dab t ⟨ax, p⟩ = ⟨{ ax with hitsB := ax.hitsB + 1, axles := ax.axles + 1, counting := true, pendingA := rest }, { p with
      counted := ax.axles + 1
      intervals := p.intervals.map (endedAt t)
      flags := { p.flags with axlesFull := true } }⟩ := by
  simp only [axuHitB, h, Bool.false_eq_true, if_false, hp, Config.axleCap, hfull, if_true, endInterval_eq]

theorem axuHitB_enters {dab t tA : Nat} {rest : List Nat} {ax : Axu} {p : Passage} (h : ax.counting = false) (hp : ax.pendingA = tA :: rest)
    (hroom : p.axles.length < 16) :
    axuHitB dab t ⟨ax, p⟩ = enterAxle dab tA t
      ⟨{ ax with hitsB := ax.hitsB + 1, axles := ax.axles + 1, pendingA := rest }, { p with counted := ax.axles + 1 }⟩ := by
  simp only [axuHitB, h, Bool.false_eq_true, if_false, hp, Config.axleCap, ge_iff_le, Nat.not_le.2 hroom]

/-- What a new axle takes from the axle before it (R92): its spacing, and whether the speeds are uneven. -/
def spacingAfter (l : List Axle) (speed : Option Speed) (t : Nat) : Spacing × Bool := match l.getLast? with
  | none => (.first, false)
  | some prev => (axleSpacing prev.speed speed (t - prev.tB), speedsUneven prev.speed speed)

theorem enterAxle_eq (dab tA t : Nat) (ax : Axu) (p : Passage) :
    let n := p.axles.length + 1
    let speed : Option Speed := if t - tA = 0 ∨ 20000 < t - tA then none else some ⟨dab, t - tA⟩
    enterAxle dab tA t ⟨ax, p⟩ = ⟨{ ax with onModule := ax.onModule ++ [n] }, nextInterval t (ax.onModule ++ [n]) { p with
      axles := p.axles ++ [⟨n, tA, t, speed, (spacingAfter p.axles speed t).1, none, .unset⟩]
      flags := { p.flags with uneven := p.flags.uneven || (spacingAfter p.axles speed t).2 } }⟩ := by
  intro n speed
  show occupancyChange t _ = _
  rw [occupancyChange_eq]
  rfl

theorem speedsUneven_iff (a b : Speed) : speedsUneven (some a) (some b) = true ↔
    max (a.cm * b.ms) (b.cm * a.ms) < 4 * ((a.cm * b.ms : Int) - b.cm * a.ms).natAbs := by
  have hcast : ((a.cm * b.ms : Int) - b.cm * a.ms) = ((a.cm * b.ms : Nat) : Int) - ((b.cm * a.ms : Nat) : Int) := by push_cast; rfl
  rw [hcast]
  simp only [speedsUneven, decide_eq_true_iff]
  generalize a.cm * b.ms = x
  generalize b.cm * a.ms = y
  omega

theorem axleSpacing_far (a b : Speed) {delta : Nat} (h : 10000 < delta) : axleSpacing (some a) (some b) delta = .unknown := if_pos h

theorem axleSpacing_near {a b : Speed} {delta : Nat} (ha : 0 < a.ms) (hb : 0 < b.ms) (h : delta ≤ 10000) :
    ∃ cm, axleSpacing (some a) (some b) delta = .cm cm ∧
      Nearest (((a.cm * b.ms + b.cm * a.ms) * delta : Nat) : Int) (2 * a.ms * b.ms) cm :=
  ⟨_, if_neg (Nat.not_lt.2 h), nearest_roundDiv _ (by positivity)⟩

/-! ### The records (R94) -/

theorem axuRecord_eq {wr : WeightRecord} {p : Passage} {d : Device} (hp : d.lsv.current = some p) :
    let b := axuSample d.nvc.settings (intervalSample wr d) ⟨d.axu, p⟩
    axuRecord wr d = { d with axu := b.ax, lsv := { d.lsv with current := some b.p } } := by
  intro b
  simp only [axuRecord, hp, b]

theorem intervalSample_eq (wr : WeightRecord) (d : Device) : intervalSample wr d = ⟨wr.index, wr.latch,
    (wr.modules.get .i0).bind (·.load), ((wr.modules.get .i0).map (·.clamped)).getD false,
    decide (∀ i ∈ SlotId.ofLine .i0, configured d i = true → wr.states.sel i = .live)⟩ := by
  have hload : ((wr.modules.get .i0).map (·.load)).getD none = (wr.modules.get .i0).bind (·.load) := by
    cases wr.modules.get .i0 <;> rfl
  have hlive : ((SlotId.ofLine .i0).all fun i => !configured d i || wr.states.sel i == .live) =
      decide (∀ i ∈ SlotId.ofLine .i0, configured d i = true → wr.states.sel i = .live) := by
    rw [Bool.eq_iff_iff, decide_eq_true_iff, List.all_eq_true]
    refine forall₂_congr fun i _ => ?_
    simp only [Bool.or_eq_true, Bool.not_eq_true', beq_iff_eq, or_iff_not_imp_left, Bool.not_eq_false]
  rw [intervalSample, hload, hlive]

/-! ### The event (R64) -/

/-- A hit that meets a passage and is no tailgate's reaches the AXU as it stands. -/
theorem laneHit_axu (nv : NvStore) {k : Strip} (t : Nat) {p : Passage} {d : Device} (hp : d.lsv.current = some p)
    (hl : d.lsv.lane = .entering ∨ d.lsv.lane = .onDeck ∨ (d.lsv.lane = .leaving ∧ k ≠ .a)) :
    (laneHit nv k t d).axu = (axuHit d.nvc.settings k t ⟨d.axu, p⟩).ax ∧
    (laneHit nv k t d).lsv.current = some (axuHit d.nvc.settings k t ⟨d.axu, p⟩).p := by
  have hi : d.lsv.lane ≠ .init := by obtain h | h | ⟨h, -⟩ := hl <;> rw [h] <;> decide
  have hc : d.lsv.lane ≠ .clear := by obtain h | h | ⟨h, -⟩ := hl <;> rw [h] <;> decide
  have hmoved : (hitMoved nv k t d).axu = d.axu ∧ (hitMoved nv k t d).nvc.settings = d.nvc.settings ∧
      (hitMoved nv k t d).lsv.current = d.lsv.current := by
    unfold hitMoved
    rw [if_neg hc]
    split_ifs with h1 h2
    · rw [setLane_eq]
      exact ⟨rfl, rfl, rfl⟩
    · obtain h | h | ⟨-, h⟩ := hl
      · exact absurd (h2.1.symm.trans h) (by decide)
      · exact absurd (h2.1.symm.trans h) (by decide)
      · exact absurd h2.2 h
    · exact ⟨rfl, rfl, rfl⟩
  obtain ⟨haxu, hset, hcur⟩ := hmoved
  rw [laneHit_acts nv t hi (.inl hc), handHit_eq (hcur.trans hp), haxu, hset]
  exact ⟨rfl, rfl⟩

theorem stripHit_accepted {k : Strip} {time : Nat} {s : State} (hrun : running s.dev = true) (hcycle : s.dev.clc.cycle ≠ none)
    (hok : ∀ last, lastHitOf s.dev k = some last → last + 40 ≤ time) :
    exec (.stripHit k time) s = .next (becomes s (laneHit s.nv k time (storeHit k time { s.dev with now := max s.dev.now time }))) := by
  have hon : (running s.dev && s.dev.clc.cycle.isSome) = true := by
    rw [hrun, Option.isSome_iff_ne_none.2 hcycle]
    rfl
  have hyes : accepted (lastHitOf s.dev k) time = true := by
    unfold accepted
    split
    next last hlast => exact decide_eq_true (hok last hlast)
    next => rfl
  refine congrArg (fun d => Host.Outcome.next (becomes s d)) (?_ : Machine.stripHit k time s.nv s.dev = _)
  simp only [Machine.stripHit, hon, if_true, hyes]
  rfl

/-- Settles O58: the hits by strip, the occupancy changes and the intervals. -/
theorem axleBuilding : Obligations.AxleBuilding := by
  refine ⟨fun k time p s hrun hcycle hok hp hl => ?_, fun t ax p => ?_, fun dab t ax p => ?_, fun t ax p => ?_, fun wr p d hp => ?_,
    fun g nmin b => fixComplete_eq g nmin b, fun g nmin ax v => ?_⟩
  · obtain ⟨a, b, c, hstore⟩ := storeHit_lsv k time { s.dev with now := max s.dev.now time }
    obtain ⟨haxu, hcur⟩ := laneHit_axu s.nv (k := k) time (d := storeHit k time { s.dev with now := max s.dev.now time })
      (by rw [hstore]; exact hp) (by rw [hstore]; exact hl)
    obtain ⟨gi, go, hlsv⟩ := becomes_lsv s (laneHit s.nv k time (storeHit k time { s.dev with now := max s.dev.now time }))
    refine ⟨_, stripHit_accepted hrun hcycle hok, ?_, ?_⟩
    · rw [becomes_lights]
      refine haxu.trans ?_
      rw [hstore]
      cases k <;> rfl
    · rw [hlsv]
      refine hcur.trans ?_
      rw [hstore]
      cases k <;> rfl
  · intro x
    simp only [axuHitA, Config.pendingACap, ge_iff_le]
    split_ifs with h1 h2 h3
    · rfl
    · omega
    · rw [List.drop_one]
    · rfl
    · omega
  · refine ⟨axuHitB_counting, axuHitB_reversed, fun tA rest h hp => ⟨axuHitB_full h hp, fun hroom => ?_⟩⟩
    intro n speed
    refine ⟨(spacingAfter p.axles speed t).1, (spacingAfter p.axles speed t).2, ?_, fun he => ?_, fun prev hprev => ?_⟩
    · rw [axuHitB_enters h hp hroom, enterAxle_eq]
    · rw [he]
      exact ⟨rfl, rfl⟩
    · simp only [spacingAfter, hprev]
      have hms (b : Speed) (hb : speed = some b) : 0 < b.ms := by
        simp only [speed] at hb
        split_ifs at hb with hb'
        obtain rfl := Option.some.inj hb
        exact Nat.pos_of_ne_zero fun h0 => hb' (.inl h0)
      cases prev.speed with
      | none => exact ⟨rfl, rfl⟩
      | some a =>
        cases hb : speed with
        | none => exact ⟨rfl, rfl⟩
        | some b => exact fun ha => ⟨speedsUneven_iff a b, axleSpacing_far a b, axleSpacing_near ha (hms b hb)⟩
  · refine ⟨fun h => if_pos h, fun h he => ?_, fun n rest h he => ?_⟩
    · simp only [axuHitC, h, he, Bool.false_eq_true, if_false]
    · simp only [axuHitC, h, he, Bool.false_eq_true, if_false, occupancyChange_eq]
  · intro load b
    rw [axuRecord_eq hp, intervalSample_eq]
    rfl
  · intro all used placed r
    refine ⟨rfl, rfl, judgeUsability_eq _ _ _ _ _ rfl, fun h => ?_, fun b1 hu hb hne => ?_⟩
    · rw [← Option.not_isSome_iff_eq_none, fixInterval_mean]
      exact h
    · have hmean : r.mean = some (intervalMean b1 used) := by
        have hj : judgeUsability ax.baseline g nmin (samplesOf ax v) = .usable := hu
        show (match judgeUsability ax.baseline g nmin (samplesOf ax v), ax.baseline with
          | .usable, some b1 => some (intervalMean b1 (usableSamples g (samplesOf ax v)))
          | _, _ => none) = _
        rw [hj, hb]
        rfl
      refine ⟨_, hmean, ?_⟩
      rw [intervalMean, sumInt_eq]
      exact nearest_roundDiv _ (List.length_pos_iff.2 hne)

end Sys2Proof.Machine
end

section
/-! PROOF. The solve of a passage: the substitution passes, the groups and the result (R97 to R106). -/

namespace Sys2Proof.Machine

open Sys2Proof.Safety

/-! ### What the passes find (R98) -/

theorem loadFound_append (found : List (Nat × Int × Nat)) (e : Nat × Int × Nat) (n : Nat) :
    loadFound (found ++ [e]) n = (loadFound found n).or (if e.1 = n then some e.2.1 else none) := by
  unfold loadFound
  rw [List.find?_append]
  cases found.find? (fun e => e.1 == n) with
  | some x => rfl
  | none =>
    by_cases h : e.1 = n
    · simp [h]
    · simp [h]

theorem loadFound_none (found : List (Nat × Int × Nat)) (n : Nat) : loadFound found n = none ↔ ∀ e ∈ found, e.1 ≠ n := by
  simp [loadFound]

/-- The axles of a set without a load found. -/
def unfound (found : List (Nat × Int × Nat)) (l : List Nat) : List Nat := l.filter fun n => (loadFound found n).isNone

theorem unfound_eq (found : List (Nat × Int × Nat)) (l : List Nat) :
    (l.filter fun n => found.all fun e => e.1 != n) = unfound found l := by
  refine List.filter_congr fun n _ => ?_
  rw [Bool.eq_iff_iff, Option.isNone_iff_eq_none, loadFound_none]
  simp

/-- The entry an interval adds, when it solves an axle. -/
def entryOf (found : List (Nat × Int × Nat)) (v : Interval) (m : Int) (n : Nat) : Nat × Int × Nat :=
  (n, m - (v.axles.filterMap (loadFound found)).sum, v.number)

theorem examined_solves {found : List (Nat × Int × Nat)} {v : Interval} {m : Int} {n : Nat} (hm : v.mean = some m)
    (hn : unfound found v.axles = [n]) : examined found v = found ++ [entryOf found v m n] := by
  simp only [examined, unfound_eq, hm, hn]
  rfl

theorem examined_idle {found : List (Nat × Int × Nat)} {v : Interval}
    (h : ∀ m n, ¬ (v.mean = some m ∧ unfound found v.axles = [n])) : examined found v = found := by
  unfold examined
  rw [unfound_eq]
  split
  next m n hm hn => exact absurd ⟨hm, hn⟩ (h m n)
  next => rfl

theorem examined_cases (found : List (Nat × Int × Nat)) (v : Interval) :
    (∃ m n, v.mean = some m ∧ unfound found v.axles = [n]) ∨ ∀ m n, ¬ (v.mean = some m ∧ unfound found v.axles = [n]) := by
  by_cases h : ∃ m n, v.mean = some m ∧ unfound found v.axles = [n]
  · exact .inl h
  · exact .inr fun m n hmn => h ⟨m, n, hmn⟩

/-- Examining intervals only adds entries. -/
theorem examined_prefix (l : List Interval) (found : List (Nat × Int × Nat)) : found <+: l.foldl examined found := by
  induction l generalizing found with
  | nil => exact List.prefix_refl _
  | cons v l ih =>
    refine List.IsPrefix.trans ?_ (ih (examined found v))
    obtain ⟨m, n, hm, hn⟩ | h := examined_cases found v
    · rw [examined_solves hm hn]
      exact List.prefix_append _ _
    · rw [examined_idle h]

/-! ### Axles and intervals by what is found -/

/-- The axles with the loads found. -/
def withLoads (found : List (Nat × Int × Nat)) (l : List Axle) : List Axle := l.map fun a => { a with
  load := match loadFound found a.number with
    | some w => .fine w
    | none => .unset }

/-- An interval with the axle it solved. -/
def solvedBy (found : List (Nat × Int × Nat)) (v : Interval) : Interval := { v with
  outcome := match found.find? fun e => e.2.2 == v.number with
    | some e => .solves e.1
    | none => .none }

theorem solvedBy_append {found : List (Nat × Int × Nat)} {e : Nat × Int × Nat} {u : Interval} (h : e.2.2 ≠ u.number) :
    solvedBy (found ++ [e]) u = solvedBy found u := by
  have hone : [e].find? (fun e => e.2.2 == u.number) = none := by simp [h]
  simp only [solvedBy, List.find?_append, hone, Option.or_none]

theorem solvedBy_examined {found : List (Nat × Int × Nat)} {v u : Interval} (h : v.number ≠ u.number) :
    solvedBy (examined found v) u = solvedBy found u := by
  obtain ⟨m, n, hm, hn⟩ | hno := examined_cases found v
  · rw [examined_solves hm hn, solvedBy_append h]
  · rw [examined_idle hno]

theorem solvedBy_foldl {l : List Interval} {u : Interval} (found : List (Nat × Int × Nat)) (h : ∀ v ∈ l, v.number ≠ u.number) :
    solvedBy (l.foldl examined found) u = solvedBy found u := by
  induction l generalizing found with
  | nil => rfl
  | cons v l ih =>
    rw [List.foldl_cons, ih _ fun w hw => h w (List.mem_cons_of_mem _ hw), solvedBy_examined (h v List.mem_cons_self)]

/-- What the found list keeps: its axles are the passage's, an interval that solved one has none left, and it solved one alone. -/
structure FoundOk (axles : List Axle) (ivs : List Interval) (found : List (Nat × Int × Nat)) : Prop where
  known : ∀ e ∈ found, ∃ a ∈ axles, a.number = e.1
  done : ∀ e ∈ found, ∀ v ∈ ivs, v.number = e.2.2 → ∀ n ∈ v.axles, loadFound found n ≠ none
  once : (found.map (·.2.2)).Nodup

section

variable {axles : List Axle} {ivs : List Interval} {found : List (Nat × Int × Nat)}

theorem FoundOk.nil : FoundOk axles ivs [] := ⟨fun _ h => (nomatch h), fun _ h => (nomatch h), List.nodup_nil⟩

theorem FoundOk.fresh (hok : FoundOk axles ivs found) {v : Interval} {n : Nat} (hv : v ∈ ivs) (hn : unfound found v.axles = [n]) :
    ∀ e ∈ found, e.2.2 ≠ v.number := by
  intro e he hnum
  have hmem : n ∈ unfound found v.axles := hn ▸ List.mem_singleton_self n
  obtain ⟨hax, hnone⟩ := List.mem_filter.1 hmem
  exact hok.done e he v hv hnum.symm n hax (Option.isNone_iff_eq_none.1 hnone)

theorem FoundOk.examined (hok : FoundOk axles ivs found) (hnum : (ivs.map (·.number)).Nodup)
    (hknown : ∀ v ∈ ivs, ∀ n ∈ v.axles, ∃ a ∈ axles, a.number = n) {v : Interval} (hv : v ∈ ivs) :
    FoundOk axles ivs (examined found v) := by
  obtain ⟨m, n, hm, hn⟩ | hno := examined_cases found v
  · have hmem : n ∈ unfound found v.axles := hn ▸ List.mem_singleton_self n
    have hfresh := hok.fresh hv hn
    rw [examined_solves hm hn]
    refine ⟨fun e he => ?_, fun e he u hu hue k hk => ?_, ?_⟩
    · obtain he | he := List.mem_append.1 he
      · exact hok.known e he
      · obtain rfl := List.mem_singleton.1 he
        exact hknown v hv n (List.mem_filter.1 hmem).1
    · rw [loadFound_append]
      obtain he | he := List.mem_append.1 he
      · obtain ⟨w, hw⟩ := Option.ne_none_iff_exists'.1 (hok.done e he u hu hue k hk)
        rw [hw]
        exact Option.some_ne_none _
      · obtain rfl := List.mem_singleton.1 he
        obtain rfl : u = v := List.inj_on_of_nodup_map hnum hu hv hue
        cases hload : loadFound found k with
        | some w => exact Option.some_ne_none _
        | none =>
          have hkn : k ∈ unfound found u.axles := List.mem_filter.2 ⟨hk, by rw [hload]; rfl⟩
          rw [hn, List.mem_singleton] at hkn
          rw [hkn, if_pos (show (entryOf found u m n).1 = n from rfl)]
          exact Option.some_ne_none _
    · rw [List.map_append, List.map_singleton, List.nodup_append]
      refine ⟨hok.once, List.nodup_singleton _, fun a ha b hb => ?_⟩
      obtain ⟨e, he, rfl⟩ := List.mem_map.1 ha
      rw [List.mem_singleton.1 hb]
      exact hfresh e he
  · rw [examined_idle hno]
    exact hok

theorem FoundOk.foldl (hnum : (ivs.map (·.number)).Nodup) (hknown : ∀ v ∈ ivs, ∀ n ∈ v.axles, ∃ a ∈ axles, a.number = n)
    {l : List Interval} (hl : ∀ v ∈ l, v ∈ ivs) (hok : FoundOk axles ivs found) : FoundOk axles ivs (l.foldl Safety.examined found) := by
  induction l generalizing found with
  | nil => exact hok
  | cons v l ih =>
    exact ih (fun w hw => hl w (List.mem_cons_of_mem _ hw)) (hok.examined hnum hknown (hl v List.mem_cons_self))

/-! ### The model's passes (R98) -/

theorem solvedLoad_withLoads (hok : FoundOk axles ivs found) (n : Nat) : solvedLoad (withLoads found axles) n = loadFound found n := by
  unfold solvedLoad withLoads
  rw [List.find?_map]
  cases hf : axles.find? ((fun a => a.number == n) ∘ fun a : Axle => { a with
      load := match loadFound found a.number with
        | some w => .fine w
        | none => .unset }) with
  | none =>
    refine Eq.symm ((loadFound_none _ _).2 fun e he hen => ?_)
    obtain ⟨a, ha, hnum⟩ := hok.known e he
    refine List.find?_eq_none.1 hf a ha ?_
    simp [hnum, hen]
  | some a =>
    have hnum : a.number = n := by simpa using List.find?_some hf
    rw [Option.map_some]
    dsimp only
    rw [hnum]
    cases loadFound found n <;> rfl

theorem unsolvedOf_withLoads (hok : FoundOk axles ivs found) (l : List Nat) : unsolvedOf (withLoads found axles) l = unfound found l := by
  simp only [unsolvedOf, solvedLoad_withLoads hok, unfound]

theorem solvedSum_withLoads (hok : FoundOk axles ivs found) (l : List Nat) :
    solvedSum (withLoads found axles) l = (l.filterMap (loadFound found)).sum := by
  rw [solvedSum, sumInt_eq, funext (solvedLoad_withLoads hok)]

theorem setLoad_withLoads {e : Nat × Int × Nat} (h : loadFound found e.1 = none) :
    setLoad (withLoads found axles) e.1 (.fine e.2.1) = withLoads (found ++ [e]) axles := by
  simp only [setLoad, withLoads, List.map_map]
  refine List.map_congr_left fun a _ => ?_
  simp only [Function.comp_apply, loadFound_append]
  by_cases hn : a.number = e.1
  · rw [if_pos hn, hn, h, if_pos rfl]
    rfl
  · rw [if_neg hn, if_neg fun h => hn h.symm, Option.or_none]

/-- One interval of the model's pass. -/
theorem solvePass_cons (hok : FoundOk axles ivs found) {v : Interval} (hv : v ∈ ivs) (done : List Interval) (progress : Bool)
    (rest : List Interval) : solvePass (withLoads found axles) done progress (solvedBy found v :: rest) =
      solvePass (withLoads (examined found v) axles) (solvedBy (examined found v) v :: done)
        (progress || decide (found.length < (examined found v).length)) rest := by
  have hunsolved : unsolvedOf (withLoads found axles) (solvedBy found v).axles = unfound found v.axles := unsolvedOf_withLoads hok _
  have hmean : (solvedBy found v).mean = v.mean := rfl
  obtain ⟨m, n, hm, hn⟩ | hno := examined_cases found v
  · have hfresh := hok.fresh hv hn
    have hnone : loadFound found n = none := by
      have hmem : n ∈ unfound found v.axles := hn ▸ List.mem_singleton_self n
      exact Option.isNone_iff_eq_none.1 (List.mem_filter.1 hmem).2
    have hsum : solvedSum (withLoads found axles) (solvedBy found v).axles = (v.axles.filterMap (loadFound found)).sum :=
      solvedSum_withLoads hok _
    have hset := setLoad_withLoads (axles := axles) (found := found) (e := entryOf found v m n) hnone
    have hby : solvedBy (found ++ [entryOf found v m n]) v = { solvedBy found v with outcome := .solves n } := by
      have hfind : found.find? (fun e => e.2.2 == v.number) = none := by simpa using hfresh
      simp only [solvedBy, List.find?_append, hfind, Option.none_or, List.find?_cons, entryOf, beq_self_eq_true]
    rw [examined_solves hm hn, hby, ← hset]
    simp only [solvePass, hunsolved, hmean, hm, hn, hsum, List.length_append, List.length_singleton, Nat.lt_succ_self, decide_true,
      Bool.or_true]
    rfl
  · rw [examined_idle hno, decide_eq_false (Nat.lt_irrefl _), Bool.or_false]
    rw [solvePass]
    split
    next m n hm hn => exact absurd ⟨hmean ▸ hm, hunsolved ▸ hn⟩ (hno m n)
    next => rfl

/-- One pass of the model finds what the examination of the intervals in order does. -/
theorem solvePass_eq (hnum : (ivs.map (·.number)).Nodup) (hknown : ∀ v ∈ ivs, ∀ n ∈ v.axles, ∃ a ∈ axles, a.number = n)
    {l : List Interval} (hl : ∀ v ∈ l, v ∈ ivs) (hnodup : (l.map (·.number)).Nodup) (hok : FoundOk axles ivs found)
    (done : List Interval) (progress : Bool) :
    solvePass (withLoads found axles) done progress (l.map (solvedBy found)) =
      (withLoads (l.foldl examined found) axles, done.reverse ++ l.map (solvedBy (l.foldl examined found)),
        progress || decide (found.length < (l.foldl examined found).length)) := by
  induction l generalizing found done progress with
  | nil => simp [solvePass]
  | cons v l ih =>
    rw [List.map_cons, List.nodup_cons] at hnodup
    obtain ⟨hvl, hnodup⟩ := hnodup
    have hother : ∀ u ∈ l, u.number ≠ v.number := fun u hu h => hvl (h ▸ List.mem_map_of_mem hu)
    have hrest : l.map (solvedBy found) = l.map (solvedBy (examined found v)) :=
      List.map_congr_left fun u hu => (solvedBy_examined (hother u hu).symm).symm
    have hlen := (examined_prefix [v] found).length_le
    have hlen' := (examined_prefix l (examined found v)).length_le
    rw [List.map_cons, solvePass_cons hok (hl v List.mem_cons_self), hrest,
      ih (fun u hu => hl u (List.mem_cons_of_mem _ hu)) hnodup (hok.examined hnum hknown (hl v List.mem_cons_self)),
      List.foldl_cons, List.reverse_cons, List.append_assoc, List.map_cons, solvedBy_foldl _ hother, Bool.or_assoc]
    refine congrArg (fun b => (_, _, progress || b)) ?_
    rw [Bool.eq_iff_iff, Bool.or_eq_true, decide_eq_true_iff, decide_eq_true_iff, decide_eq_true_iff]
    simp only [List.foldl_cons, List.foldl_nil] at hlen
    omega

/-- What passes over the intervals find. -/
def foundAfter (f : Nat) (l : List Interval) (found : List (Nat × Int × Nat)) : List (Nat × Int × Nat) :=
  (List.replicate f l).flatten.foldl examined found

theorem foundAfter_succ (f : Nat) (l : List Interval) (found : List (Nat × Int × Nat)) :
    foundAfter (f + 1) l found = foundAfter f l (l.foldl examined found) := by
  rw [foundAfter, List.replicate_succ, List.flatten_cons, List.foldl_append]
  rfl

/-- A pass that finds nothing leaves nothing to find. -/
theorem foundAfter_still {l : List Interval} (h : l.foldl examined found = found) (f : Nat) : foundAfter f l found = found := by
  induction f with
  | zero => rfl
  | succ f ih => rw [foundAfter_succ, h, ih]

theorem solvePasses_eq (hnum : (ivs.map (·.number)).Nodup) (hknown : ∀ v ∈ ivs, ∀ n ∈ v.axles, ∃ a ∈ axles, a.number = n)
    (hok : FoundOk axles ivs found) (f : Nat) : solvePasses f (withLoads found axles) (ivs.map (solvedBy found)) =
      (withLoads (foundAfter f ivs found) axles, ivs.map (solvedBy (foundAfter f ivs found))) := by
  induction f generalizing found with
  | zero => rfl
  | succ f ih =>
    rw [solvePasses, solvePass_eq hnum hknown (fun _ h => h) hnum hok, foundAfter_succ, Bool.false_or]
    by_cases hmore : found.length < (ivs.foldl examined found).length
    · rw [decide_eq_true hmore]
      exact ih (hok.foldl hnum hknown fun _ h => h)
    · have hsame : ivs.foldl examined found = found :=
        ((examined_prefix ivs found).eq_of_length_le (Nat.not_lt.1 hmore)).symm
      rw [decide_eq_false hmore, hsame, foundAfter_still hsame]
      rfl

end

/-! ### Loads and outcomes (R97 to R100) -/

/-- An axle without its load, and an interval without its outcome: what no solve changes. -/
def unloaded (a : Axle) : Axle := { a with load := .unset }

def unjudged (v : Interval) : Interval := { v with outcome := .none }

theorem setLoad_unloaded (axles : List Axle) (n : Nat) (l : AxleLoad) : (setLoad axles n l).map unloaded = axles.map unloaded := by
  rw [setLoad, List.map_map]
  refine List.map_congr_left fun a _ => ?_
  rw [Function.comp_apply]
  split <;> rfl

theorem solvePass_keeps (axles : List Axle) (done : List Interval) (progress : Bool) (l : List Interval) :
    (solvePass axles done progress l).1.map unloaded = axles.map unloaded ∧
    (solvePass axles done progress l).2.1.map unjudged = (done.reverse ++ l).map unjudged := by
  induction l generalizing axles done progress with
  | nil => simp [solvePass]
  | cons v l ih =>
    unfold solvePass
    split
    · obtain ⟨ha, hv⟩ := ih _ _ _
      refine ⟨ha.trans (setLoad_unloaded _ _ _), hv.trans ?_⟩
      simp [unjudged]
    · obtain ⟨ha, hv⟩ := ih axles (v :: done) progress
      refine ⟨ha, hv.trans ?_⟩
      simp

theorem solvePasses_keeps (f : Nat) (axles : List Axle) (l : List Interval) :
    (solvePasses f axles l).1.map unloaded = axles.map unloaded ∧ (solvePasses f axles l).2.map unjudged = l.map unjudged := by
  induction f generalizing axles l with
  | zero => exact ⟨rfl, rfl⟩
  | succ f ih =>
    obtain ⟨ha, hv⟩ := solvePass_keeps axles [] false l
    unfold solvePasses
    split
    next axles' l' heq =>
      rw [heq] at ha hv
      exact ⟨(ih axles' l').1.trans ha, (ih axles' l').2.trans hv⟩
    next axles' l' heq =>
      rw [heq] at ha hv
      exact ⟨ha, hv⟩

theorem markUnresolved_keeps (l : List Axle) : (markUnresolved l).map unloaded = l.map unloaded := by
  rw [markUnresolved, List.map_map]
  refine List.map_congr_left fun a _ => ?_
  rw [Function.comp_apply]
  split <;> rfl

/-- Judging an interval changes its outcome alone. -/
theorem judgeInterval_outcome (d : Nat) (axles : List Axle) (v : Interval) :
    judgeInterval d axles v = { v with outcome := (judgeInterval d axles v).outcome } := by
  unfold judgeInterval
  split
  · split
    · rfl
    · split <;> rfl
  · rfl

theorem judgeIntervals_keep (d : Nat) (axles : List Axle) (l : List Interval) :
    (l.map (judgeInterval d axles)).map unjudged = l.map unjudged := by
  rw [List.map_map]
  refine List.map_congr_left fun v _ => ?_
  rw [Function.comp_apply, judgeInterval_outcome]
  rfl

theorem residualFails_iff (d : Nat) (m r : Int) :
    residualFails d m r = true ↔ max (m.natAbs : Int) (200 * (100 * d)) < 100 * (r.natAbs : Int) := by
  simp only [residualFails, absInt, decide_eq_true_iff, gt_iff_lt]
  omega

theorem judgeInterval_unused {d : Nat} {axles : List Axle} {v : Interval} (h : v.mean = none) :
    (judgeInterval d axles v).outcome = .unused := by
  unfold judgeInterval
  rw [h]
  split
  next hm => exact absurd hm (by simp)
  next => rfl

theorem judgeInterval_solves {d n : Nat} {axles : List Axle} {v : Interval} {m : Int} (hu : v.usability = .usable) (hm : v.mean = some m)
    (ho : v.outcome = .solves n) : (judgeInterval d axles v).outcome = .solves n := by
  simp only [judgeInterval, hu, hm, ho]

theorem judgeInterval_checks {d : Nat} {axles : List Axle} {v : Interval} {m : Int} (hu : v.usability = .usable) (hm : v.mean = some m)
    (ho : v.outcome = .none) (hs : unsolvedOf axles v.axles = []) : (judgeInterval d axles v).outcome =
      if max (m.natAbs : Int) (200 * (100 * d)) < 100 * ((m - solvedSum axles v.axles).natAbs : Int)
      then .checkFail (m - solvedSum axles v.axles) else .checkOk (m - solvedSum axles v.axles) := by
  simp only [judgeInterval, hu, hm, ho, hs, List.isEmpty_nil, if_true, residualFails_iff]

theorem judgeInterval_open {d : Nat} {axles : List Axle} {v : Interval} {m : Int} (hu : v.usability = .usable) (hm : v.mean = some m)
    (ho : v.outcome = .none) (hs : unsolvedOf axles v.axles ≠ []) : (judgeInterval d axles v).outcome = .open := by
  simp only [judgeInterval, hu, hm, ho, List.isEmpty_iff, hs, if_false]

/-- An axle not found is UNRESOLVED (R100). -/
def unresolvedIfUnset (a : Axle) : Axle := match a.load with
  | .fine _ => a
  | _ => { a with load := .unresolved }

theorem markUnresolved_eq (axles : List Axle) : markUnresolved axles = axles.map unresolvedIfUnset := rfl

theorem solvedLoad_markUnresolved (axles : List Axle) (n : Nat) : solvedLoad (markUnresolved axles) n = solvedLoad axles n := by
  have hsame : (fun a : Axle => a.number == n) ∘ unresolvedIfUnset = fun a => a.number == n := by
    funext a
    rw [Function.comp_apply, unresolvedIfUnset]
    split <;> rfl
  rw [solvedLoad, solvedLoad, markUnresolved_eq, List.find?_map, hsame]
  cases axles.find? fun a => a.number == n with
  | none => rfl
  | some a => cases hl : a.load <;> simp [unresolvedIfUnset, hl]

theorem resolved_load {found : List (Nat × Int × Nat)} {l : List Axle} {a : Axle} (ha : a ∈ markUnresolved (withLoads found l)) :
    a.load = match loadFound found a.number with
      | some w => .fine w
      | none => .unresolved := by
  rw [markUnresolved_eq, withLoads, List.map_map] at ha
  obtain ⟨x, -, rfl⟩ := List.mem_map.1 ha
  rw [Function.comp_apply]
  cases h : loadFound found x.number with
  | none => simp [unresolvedIfUnset, h]
  | some w => simp [unresolvedIfUnset, h]

/-- What the loads' solve changes (R97 to R100). -/
theorem solveLoads_keeps {d : Nat} {p : Passage} (hrev : p.flags.reversed = false) :
    (solveLoads d p).axles.map unloaded = p.axles.map unloaded ∧ (solveLoads d p).intervals.map unjudged = p.intervals.map unjudged ∧
    solveLoads d p = { p with
      axles := (solveLoads d p).axles
      intervals := (solveLoads d p).intervals
      flags := { p.flags with inconsistent := p.flags.inconsistent || (solveLoads d p).intervals.any isCheckFail } } := by
  unfold solveLoads
  rw [if_neg (by rw [hrev]; exact Bool.false_ne_true)]
  split
  · refine ⟨?_, ?_, ?_⟩
    · rw [List.map_map]
      exact List.map_congr_left fun a _ => rfl
    · rw [List.map_map]
      exact List.map_congr_left fun v _ => rfl
    · have hno : (p.intervals.map fun v => { v with outcome := .unused }).any isCheckFail = false := by
        simp [isCheckFail]
      simp only [hno, Bool.or_false]
  · obtain ⟨ha, hv⟩ := solvePasses_keeps (Config.axleCap + 1) p.axles p.intervals
    exact ⟨(markUnresolved_keeps _).trans ha, (judgeIntervals_keep _ _ _).trans hv, rfl⟩

theorem solveLoads_absent {d : Nat} {p : Passage} (hrev : p.flags.reversed = false)
    (h : p.axles = [] ∨ ∀ v ∈ p.intervals, v.usability = .absent) :
    (∀ a ∈ (solveLoads d p).axles, a.load = .absent) ∧ ∀ v ∈ (solveLoads d p).intervals, v.outcome = .unused := by
  have hyes : (p.axles.isEmpty || p.intervals.all fun v => v.usability == .absent) = true := by
    simpa [List.isEmpty_iff] using h
  unfold solveLoads
  rw [if_neg (by rw [hrev]; exact Bool.false_ne_true), if_pos hyes]
  constructor
  · intro a ha
    obtain ⟨x, -, rfl⟩ := List.mem_map.1 ha
    rfl
  · intro v hv
    obtain ⟨x, -, rfl⟩ := List.mem_map.1 hv
    rfl

/-- The solve of a passage with fresh axles and intervals, by what the passes find. -/
theorem solveLoads_found {d : Nat} {p : Passage} (hrev : p.flags.reversed = false) (hax : p.axles ≠ [])
    (hsome : ∃ v ∈ p.intervals, v.usability ≠ .absent) (hunset : ∀ a ∈ p.axles, a.load = .unset)
    (hnum : (p.intervals.map (·.number)).Nodup) (hnone : ∀ v ∈ p.intervals, v.outcome = .none)
    (hknown : ∀ v ∈ p.intervals, ∀ n ∈ v.axles, ∃ a ∈ p.axles, a.number = n) :
    (solveLoads d p).axles = markUnresolved (withLoads (foundIn p.intervals) p.axles) ∧
    (solveLoads d p).intervals = p.intervals.map (fun v =>
      judgeInterval d (withLoads (foundIn p.intervals) p.axles) (solvedBy (foundIn p.intervals) v)) := by
  have hno : ¬ (p.axles.isEmpty || p.intervals.all fun v => v.usability == .absent) = true := by
    simpa [List.isEmpty_iff, hax] using hsome
  have haxles : withLoads [] p.axles = p.axles := by
    refine (List.map_congr_left fun a ha => ?_).trans (List.map_id _)
    have := hunset a ha
    cases a
    cases this
    rfl
  have hivs : p.intervals.map (solvedBy []) = p.intervals := by
    refine (List.map_congr_left fun v hv => ?_).trans (List.map_id _)
    have := hnone v hv
    cases v
    cases this
    rfl
  have hpasses : solvePasses (Config.axleCap + 1) p.axles p.intervals =
      (withLoads (foundIn p.intervals) p.axles, p.intervals.map (solvedBy (foundIn p.intervals))) := by
    have := solvePasses_eq hnum hknown FoundOk.nil (Config.axleCap + 1)
    rw [haxles, hivs] at this
    exact this
  unfold solveLoads
  rw [if_neg (by rw [hrev]; exact Bool.false_ne_true), if_neg hno, hpasses]
  exact ⟨rfl, List.map_map⟩

theorem foundIn_ok {p : Passage} (hnum : (p.intervals.map (·.number)).Nodup)
    (hknown : ∀ v ∈ p.intervals, ∀ n ∈ v.axles, ∃ a ∈ p.axles, a.number = n) : FoundOk p.axles p.intervals (foundIn p.intervals) := by
  refine FoundOk.foldl hnum hknown (fun v hv => ?_) FoundOk.nil
  obtain ⟨l, hl, hvl⟩ := List.mem_flatten.1 hv
  exact List.eq_of_mem_replicate hl ▸ hvl

theorem solvedBy_of_mem {axles : List Axle} {ivs : List Interval} {found : List (Nat × Int × Nat)} (hok : FoundOk axles ivs found)
    {e : Nat × Int × Nat} (he : e ∈ found) {v : Interval} (h : e.2.2 = v.number) : (solvedBy found v).outcome = .solves e.1 := by
  have hfind : found.find? (fun e => e.2.2 == v.number) = some e := by
    cases hf : found.find? fun e => e.2.2 == v.number with
    | none => exact absurd (beq_iff_eq.2 h) (List.find?_eq_none.1 hf e he)
    | some e' =>
      have hnum : e'.2.2 = v.number := by simpa using List.find?_some hf
      rw [List.inj_on_of_nodup_map hok.once (List.mem_of_find?_eq_some hf) he (hnum.trans h.symm)]
  simp only [solvedBy, hfind]

theorem solvedBy_of_none {found : List (Nat × Int × Nat)} {v : Interval} (h : ∀ e ∈ found, e.2.2 ≠ v.number) :
    (solvedBy found v).outcome = .none := by
  have hfind : found.find? (fun e => e.2.2 == v.number) = none := by simpa using h
  simp only [solvedBy, hfind]

/-! ### Groups (R101 to R104) -/

/-- `splitBy` puts the groups of the rest after those it holds. -/
theorem splitBy_loop_append {α : Type} (r : α → α → Bool) (l : List α) (a : α) (g : List α) (gs : List (List α)) :
    ∃ tail, tail ≠ [] ∧ List.splitBy.loop r l a g gs = gs.reverse ++ tail := by
  induction l generalizing a g gs with
  | nil => exact ⟨[(a :: g).reverse], List.cons_ne_nil _ _, List.reverse_cons⟩
  | cons b l ih =>
    unfold List.splitBy.loop
    split
    · exact ih b (a :: g) gs
    · obtain ⟨tail, hne, h⟩ := ih b [] ((a :: g).reverse :: gs)
      refine ⟨(a :: g).reverse :: tail, List.cons_ne_nil _ _, ?_⟩
      rw [h, List.reverse_cons, List.append_assoc]
      rfl

/-- The numbers of the axles of each group. -/
def groupNumbers (gs : List (List Axle)) : List (List Nat) := gs.map fun g => g.map (·.number)

theorem formGroups_loop (gsp : Nat) (l : List Axle) (a : Axle) (g : List Axle) (gs : List (List Axle)) (hlen : gs.length < 8) :
    formGroups gsp l (groupNumbers (gs.reverse ++ [(a :: g).reverse])) =
      ((groupNumbers (List.splitBy.loop (fun _ b => joins gsp b) l a g gs)).take 8,
        decide (8 < (groupNumbers (List.splitBy.loop (fun _ b => joins gsp b) l a g gs)).length)) := by
  induction l generalizing a g gs with
  | nil =>
    have hle : (groupNumbers (gs.reverse ++ [(a :: g).reverse])).length ≤ 8 := by simpa [groupNumbers] using hlen
    have hloop : List.splitBy.loop (fun _ b => joins gsp b) [] a g gs = gs.reverse ++ [(a :: g).reverse] := List.reverse_cons
    rw [hloop, List.take_of_length_le hle, decide_eq_false (Nat.not_lt.2 hle)]
    rfl
  | cons b l ih =>
    have hlast : (groupNumbers (gs.reverse ++ [(a :: g).reverse])).getLast? = some ((a :: g).reverse.map (·.number)) := by
      simp [groupNumbers]
    have hlength : (groupNumbers (gs.reverse ++ [(a :: g).reverse])).length = gs.length + 1 := by simp [groupNumbers]
    unfold formGroups List.splitBy.loop
    rw [hlast]
    dsimp only
    cases hj : joins gsp b with
    | true =>
      refine Eq.trans (congrArg (formGroups gsp l) ?_) (ih b (a :: g) gs hlen)
      simp [groupNumbers]
    | false =>
      rw [if_neg Bool.false_ne_true, hlength]
      split
      next hfull =>
        obtain ⟨tail, hne, htail⟩ := splitBy_loop_append (fun _ b => joins gsp b) l b [] ((a :: g).reverse :: gs)
        have heq : groupNumbers ((a :: g).reverse :: gs).reverse = groupNumbers (gs.reverse ++ [(a :: g).reverse]) := by
          rw [List.reverse_cons]
        have hsplit : groupNumbers (((a :: g).reverse :: gs).reverse ++ tail) =
            groupNumbers (gs.reverse ++ [(a :: g).reverse]) ++ groupNumbers tail := by
          rw [← heq, groupNumbers, List.map_append]
          rfl
        have height : (groupNumbers (gs.reverse ++ [(a :: g).reverse])).length = 8 := hlength.trans (Nat.le_antisymm hlen hfull)
        have htaillen : 0 < (groupNumbers tail).length := by
          rw [groupNumbers, List.length_map]
          exact List.length_pos_iff.2 hne
        rw [htail, hsplit, List.take_left' height, decide_eq_true (by rw [List.length_append]; omega)]
      next hroom =>
        refine Eq.trans (congrArg (formGroups gsp l) ?_) (ih b [] ((a :: g).reverse :: gs) (Nat.lt_of_not_le hroom))
        simp [groupNumbers]

/-- The groups are the runs of axles that join, at most eight (R101). -/
theorem formGroups_eq (gsp : Nat) (l : List Axle) : formGroups gsp l [] =
    ((groupNumbers (l.splitBy fun _ b => joins gsp b)).take 8, decide (8 < (groupNumbers (l.splitBy fun _ b => joins gsp b)).length)) := by
  cases l with
  | nil => rfl
  | cons a l => exact formGroups_loop gsp l a [] [] (by decide)

theorem makeGroups_axles (s : Settings) (d : Nat) (absent : Bool) (axles : List Axle) (ivs : List Interval) (n : Nat) (l : List (List Nat)) :
    (makeGroups s d absent axles ivs n l).map (·.axles) = l := by
  induction l generalizing n with
  | nil => rfl
  | cons g l ih => exact congrArg (g :: ·) (ih (n + 1))

theorem makeGroups_get (s : Settings) (d : Nat) (absent : Bool) (axles : List Axle) (ivs : List Interval) (n : Nat) (l : List (List Nat))
    (k : Nat) : (makeGroups s d absent axles ivs n l)[k]? = l[k]?.map (makeGroup s d absent axles ivs (n + k)) := by
  induction l generalizing n k with
  | nil => rfl
  | cons g l ih =>
    cases k with
    | zero => rfl
    | succ k => exact (ih (n + 1) k).trans (by rw [Nat.add_assoc, Nat.add_comm 1]; rfl)

theorem groupKind_eq (n size : Nat) : groupKind (n == 1) size = kindOf n size := match size with
  | 0 => rfl
  | 1 => by simp only [groupKind, kindOf, if_true, beq_iff_eq]
  | 2 => rfl
  | 3 => rfl
  | _ + 4 => rfl

theorem groupLimit_eq (s : Settings) (k : GroupKind) : groupLimit s k = limitOf s k := by cases k <;> rfl

/-- The load of a group (R102). -/
theorem makeGroup_load (s : Settings) (d : Nat) (absent : Bool) (axles : List Axle) (ivs : List Interval) (n : Nat) (g : List Nat) :
    (makeGroup s d absent axles ivs n g).load = if absent = true then .absent else match groupFine axles ivs g with
      | some f => .kg (roundToDivision d f)
      | none => .unresolved := rfl

theorem groupFine_solved {axles : List Axle} {ivs : List Interval} {g : List Nat} (h : unsolvedOf axles g = []) :
    groupFine axles ivs g = some (solvedSum axles g) := by
  simp only [groupFine, h, List.isEmpty_nil, if_true]

theorem groupFine_one {axles : List Axle} {ivs : List Interval} {g : List Nat} (h : (unsolvedOf axles g).length = 1) :
    groupFine axles ivs g = none := by
  have hne : ¬ (unsolvedOf axles g).isEmpty = true := fun he => by rw [List.isEmpty_iff.1 he] at h; exact absurd h (by decide)
  simp only [groupFine, hne, h]
  rfl

theorem groupFine_more {axles : List Axle} {ivs : List Interval} {g : List Nat} (h : 2 ≤ (unsolvedOf axles g).length) :
    groupFine axles ivs g = (ivs.find? fun v => v.outcome = .open && unsolvedOf axles v.axles = unsolvedOf axles g).bind
      fun v => v.mean.map fun m => m - solvedSum axles v.axles + solvedSum axles g := by
  have hne : ¬ (unsolvedOf axles g).isEmpty = true := fun he => by rw [List.isEmpty_iff.1 he] at h; exact absurd h (by decide)
  have hfind : (fun v : Interval => v.outcome == .open && unsolvedOf axles v.axles == unsolvedOf axles g) =
      fun v => v.outcome = .open && unsolvedOf axles v.axles = unsolvedOf axles g := by
    funext v
    simp only [beq_eq_decide]
  simp only [groupFine, hne, ge_iff_le, h, if_true, hfind]
  cases ivs.find? fun v => v.outcome = .open && unsolvedOf axles v.axles = unsolvedOf axles g <;> rfl

theorem axleGrossFlag_eq (d : Nat) (result : AxleResult) (p : Passage) : axleGrossFlag d result p = match p.ring.getLast?, p.axleGross with
    | some w, some g => decide (some result ≠ some .void ∧ some result ≠ some .absent ∧ p.flags.axlesFull = false ∧
        p.axles.all isSolved = true ∧ max (3 * w.weight) (5 * (100 * d)) < ((100 * w.weight - g).natAbs : Int))
    | _, _ => false := by
  unfold axleGrossFlag
  cases p.ring.getLast? with
  | none => rfl
  | some w =>
    cases p.axleGross with
    | none => rfl
    | some g =>
      have hdiffers : grossDiffers d w.weight g = true ↔
          max (3 * w.weight) (5 * (100 * d)) < ((100 * w.weight - g).natAbs : Int) := by
        simp only [grossDiffers, absInt, decide_eq_true_iff, gt_iff_lt]
        omega
      rw [Bool.eq_iff_iff, decide_eq_true_iff, ← hdiffers]
      simp only [Bool.and_eq_true, bne_iff_ne, ne_eq, Bool.not_eq_true', Option.some.injEq]
      tauto

/-! ### The solve at a close (R76, R97) -/

/-- An interval ended and fixed, unless it was fixed before (R94). -/
def fixedInterval (st : Settings) (t : Nat) (ax : Axu) (v : Interval) : Interval :=
  if v.usability = .pending then fixInterval st.grd st.nmin ax (endedAt t v) else endedAt t v

theorem endedAt_eq_stop (t : Nat) (v : Interval) : ∃ e, endedAt t v = { v with stop := e } := by
  unfold endedAt
  split
  · exact ⟨_, rfl⟩
  · exact ⟨v.stop, rfl⟩

theorem fixedInterval_same (st : Settings) (t : Nat) (ax : Axu) (v : Interval) :
    (fixedInterval st t ax v).number = v.number ∧ (fixedInterval st t ax v).axles = v.axles ∧
    (fixedInterval st t ax v).outcome = v.outcome := by
  obtain ⟨e, he⟩ := endedAt_eq_stop t v
  rw [fixedInterval, he]
  split <;> exact ⟨rfl, rfl, rfl⟩

theorem fixedInterval_mean {st : Settings} {t : Nat} {ax : Axu} {v : Interval}
    (h : v.usability ≠ .pending → (v.mean.isSome = true ↔ v.usability = .usable)) :
    (fixedInterval st t ax v).mean.isSome = true ↔ (fixedInterval st t ax v).usability = .usable := by
  obtain ⟨e, he⟩ := endedAt_eq_stop t v
  unfold fixedInterval
  split
  next => exact fixInterval_mean _ _ _ _
  next hp => rw [he]; exact h hp

/-- The passage as the solve takes it: its intervals ended and fixed, and the counts compared (R94, R97). -/
def endedPassage (st : Settings) (t : Nat) (ax : Axu) (p : Passage) : Passage := { p with
  intervals := p.intervals.map (fixedInterval st t ax)
  flags := { p.flags with order := p.flags.order || decide (¬ (ax.hitsA = ax.hitsB ∧ ax.hitsB = ax.hitsC)) } }

theorem axuSolve_eq (st : Settings) (t : Nat) (ax : Axu) (p : Passage) : axuSolve st t ⟨ax, p⟩ =
    solveResult st (ax.division.getD 1) (solveGroups st (ax.division.getD 1) (solveLoads (ax.division.getD 1) (endedPassage st t ax p))) := by
  have horder : (!(ax.hitsA == ax.hitsB && ax.hitsB == ax.hitsC)) = decide (¬ (ax.hitsA = ax.hitsB ∧ ax.hitsB = ax.hitsC)) := by
    rw [Bool.eq_iff_iff, decide_eq_true_iff]
    simp [imp_iff_not_or]
  have hfix : (p.intervals.map (endedAt t)).map (fun v => if v.usability == .pending then fixInterval st.grd st.nmin ax v else v) =
      p.intervals.map (fixedInterval st t ax) := by
    rw [List.map_map]
    refine List.map_congr_left fun v _ => ?_
    obtain ⟨e, he⟩ := endedAt_eq_stop t v
    simp only [Function.comp_apply, fixedInterval, he, beq_iff_eq]
  rw [axuSolve, endInterval_eq]
  simp only [fixAll, horder, hfix]
  rfl

/-- Of a REVERSED passage nothing is solved (R97). -/
theorem axuSolve_reversed {st : Settings} {t : Nat} {ax : Axu} {p : Passage} (hrev : p.flags.reversed = true) :
    axuSolve st t ⟨ax, p⟩ = { endedPassage st t ax p with result := some .void } := by
  have hrev' : (endedPassage st t ax p).flags.reversed = true := hrev
  have hvoid : judgeResult st (ax.division.getD 1) (endedPassage st t ax p) = .void := if_pos hrev'
  have hflag : axleGrossFlag (ax.division.getD 1) .void (endedPassage st t ax p) = false := by
    rw [axleGrossFlag_eq]
    split
    · exact decide_eq_false fun h => h.1 rfl
    · rfl
  rw [axuSolve_eq, solveLoads, if_pos hrev', solveGroups, if_pos hrev', solveResult, hvoid, hflag]
  simp only [Bool.or_false]

/-- The passage solved, by its loads: the groups, the axle gross, the result. -/
def judgedPassage (st : Settings) (d : Nat) (p : Passage) : Passage :=
  let g : Passage := { p with
    groups := makeGroups st d (p.axles.all fun a => a.load == .absent) p.axles p.intervals 1 (formGroups st.gsp p.axles []).1
    axleGross := axleGrossOf p.axles
    flags := { p.flags with groupsFull := p.flags.groupsFull || (formGroups st.gsp p.axles []).2 } }
  solveResult st d g

theorem axuSolve_open {st : Settings} {t : Nat} {ax : Axu} {p : Passage} (hrev : p.flags.reversed = false) :
    axuSolve st t ⟨ax, p⟩ = judgedPassage st (ax.division.getD 1) (solveLoads (ax.division.getD 1) (endedPassage st t ax p)) := by
  have hrev' : (endedPassage st t ax p).flags.reversed = false := hrev
  have hstill : (solveLoads (ax.division.getD 1) (endedPassage st t ax p)).flags.reversed = false := by
    rw [(solveLoads_keeps hrev').2.2]
    exact hrev
  rw [axuSolve_eq, solveGroups, if_neg (by rw [hstill]; exact Bool.false_ne_true)]
  rfl

/-- What the judgement shows of a passage solved. -/
theorem judgedPassage_spec (st : Settings) (d : Nat) (p : Passage) :
    let q := judgedPassage st d p
    q.axles = p.axles ∧ q.intervals = p.intervals ∧ q.result = some (judgeResult st d q) ∧
    q.axleGross = axleGrossOf p.axles ∧
    q.groups = makeGroups st d (p.axles.all fun a => a.load == .absent) p.axles p.intervals 1 (formGroups st.gsp p.axles []).1 ∧
    q.flags.axleGross = (p.flags.axleGross || axleGrossFlag d (judgeResult st d q) q) ∧
    q = { p with
      groups := q.groups, axleGross := q.axleGross, result := q.result
      flags := { p.flags with
        groupsFull := p.flags.groupsFull || (formGroups st.gsp p.axles []).2
        axleGross := q.flags.axleGross } } := ⟨rfl, rfl, rfl, rfl, rfl, rfl, rfl⟩

/-- The load of one group: ABSENT, a weight or UNRESOLVED (R102). -/
theorem makeGroup_spec (st : Settings) {d : Nat} (hd : 0 < d) (axles : List Axle) (ivs : List Interval) (n : Nat) (l : List Nat) :
    let g := makeGroup st d (axles.all fun a => a.load == .absent) axles ivs n l
    ((∀ a ∈ axles, a.load = .absent) → g.load = .absent) ∧
    ((∃ a ∈ axles, a.load ≠ .absent) →
      (unsolvedOf axles l = [] → ∃ kg, g.load = .kg kg ∧ ∃ r : Int, kg = d * r ∧ Nearest (solvedSum axles l) (100 * d) r) ∧
      ((unsolvedOf axles l).length = 1 → g.load = .unresolved) ∧
      (2 ≤ (unsolvedOf axles l).length →
        (∀ v m, ivs.find? (fun v => v.outcome = .open && unsolvedOf axles v.axles = unsolvedOf axles l) = some v → v.mean = some m →
          ∃ kg, g.load = .kg kg ∧ ∃ r : Int, kg = d * r ∧
            Nearest (m - solvedSum axles v.axles + solvedSum axles l) (100 * d) r) ∧
        (ivs.find? (fun v => v.outcome = .open && unsolvedOf axles v.axles = unsolvedOf axles l) = none → g.load = .unresolved))) := by
  intro g
  have hload : g.load = _ := makeGroup_load st d _ axles ivs n l
  have rounds (f : Int) : ∃ kg, GroupLoad.kg (roundToDivision d f) = .kg kg ∧ ∃ r : Int, kg = d * r ∧ Nearest f (100 * d) r :=
    ⟨_, rfl, _, rfl, nearest_roundDiv _ (by omega)⟩
  refine ⟨fun h => ?_, fun ⟨a, ha, hne⟩ => ?_⟩
  · rw [hload, if_pos (List.all_eq_true.2 fun a ha => beq_iff_eq.2 (h a ha))]
  · rw [if_neg fun h => hne (beq_iff_eq.1 (List.all_eq_true.1 h a ha))] at hload
    rw [hload]
    refine ⟨fun h => ?_, fun h => ?_, fun h => ⟨fun v m hv hm => ?_, fun hv => ?_⟩⟩
    · rw [groupFine_solved h]
      exact rounds _
    · rw [groupFine_one h]
    · rw [groupFine_more h, hv, Option.bind_some, hm, Option.map_some]
      exact rounds _
    · rw [groupFine_more h, hv, Option.bind_none]

/-- What each interval's outcome is after the solve (R98 to R100). -/
theorem solvedInterval_spec {d : Nat} {axles : List Axle} {ivs : List Interval} {found : List (Nat × Int × Nat)} (hok : FoundOk axles ivs found)
    {v : Interval} (hmean : v.mean.isSome = true ↔ v.usability = .usable) :
    let o := (judgeInterval d (withLoads found axles) (solvedBy found v)).outcome
    (v.mean = none → o = .unused) ∧
    (∀ m, v.mean = some m →
      (∀ e ∈ found, e.2.2 = v.number → o = .solves e.1) ∧
      ((∀ e ∈ found, e.2.2 ≠ v.number) → unsolvedOf (withLoads found axles) v.axles = [] →
        o = if max (m.natAbs : Int) (200 * (100 * d)) < 100 * ((m - solvedSum (withLoads found axles) v.axles).natAbs : Int)
          then .checkFail (m - solvedSum (withLoads found axles) v.axles)
          else .checkOk (m - solvedSum (withLoads found axles) v.axles)) ∧
      ((∀ e ∈ found, e.2.2 ≠ v.number) → unsolvedOf (withLoads found axles) v.axles ≠ [] → o = .open)) := by
  intro o
  have husable (m : Int) (hm : v.mean = some m) : (solvedBy found v).usability = .usable := hmean.1 (by rw [hm]; rfl)
  exact ⟨fun h => judgeInterval_unused h, fun m hm =>
    ⟨fun e he hnum => judgeInterval_solves (husable m hm) hm (solvedBy_of_mem hok he hnum),
      fun h hs => judgeInterval_checks (husable m hm) hm (solvedBy_of_none h) hs,
      fun h hs => judgeInterval_open (husable m hm) hm (solvedBy_of_none h) hs⟩⟩

/-- Settles O59: the close by the clear timer, and the solve of a REVERSED and of any other passage. -/
theorem axleSolve : Obligations.AxleSolve := by
  refine ⟨fun t0 p s hrun hp ht hl => ?_, fun st t ax p => ?_⟩
  · intro due
    have hexec : exec .clearTimerExpires s = .next (becomes s (clearTimerExpires s.nv s.dev)) := rfl
    have hpa : (advance due s.dev).lsv.current = some p := hp
    obtain ⟨-, ⟨owes, hhist⟩, -⟩ := closePassage_frame s.nv .clear due hpa
    obtain ⟨x, y, hlsv⟩ := becomes_lsv s (clearTimerExpires s.nv s.dev)
    have hlast : (clearTimerExpires s.nv s.dev).lsv.history.getLast? =
        some { closedRecord .clear due p (advance due s.dev) with owedMark := owes (closedRecord .clear due p (advance due s.dev)).number } := by
      rw [clearTimerExpires_eq hrun ht hl, setLane_eq]
      show (closePassage s.nv .clear due (advance due s.dev)).lsv.history.getLast? = _
      rw [hhist, List.map_append, List.map_singleton, List.getLast?_append_cons, List.getLast?_singleton]
    refine ⟨_, _, hexec, by rw [hlsv]; exact hlast, ?_⟩
    have hflags : p.flags = { p.flags with tailgateOut := p.flags.tailgateOut || CloseCause.clear == .tailgate } := by
      have : (CloseCause.clear == CloseCause.tailgate) = false := rfl
      rw [this, Bool.or_false]
    show { closedRecord .clear due p (advance due s.dev) with owedMark := false } = _
    rw [closedRecord, ← hflags]
    rfl
  · intro d q
    have hrev' : p.flags.reversed = false → (endedPassage st t ax p).flags.reversed = false := fun h => h
    intro fixed order
    refine ⟨fun hrev => axuSolve_reversed hrev, fun hrev => ?_⟩
    intro failed chains load solved sum open' rounded
    obtain ⟨hax, hiv, hresult, hgross, hgroups, hflag, hall⟩ := judgedPassage_spec st d (solveLoads d (endedPassage st t ax p))
    have hq : judgedPassage st d (solveLoads d (endedPassage st t ax p)) = q := (axuSolve_open hrev).symm
    obtain ⟨hkeepA, hkeepV, hkeep⟩ := solveLoads_keeps (d := d) (hrev' hrev)
    rw [hq] at hax hiv hresult hgross hgroups hflag hall
    have hload : load = solvedLoad q.axles := by
      funext n
      show ((q.axles.find? fun a => a.number == n).bind _) = _
      unfold solvedLoad
      cases q.axles.find? fun a => a.number == n with
      | none => rfl
      | some a => rfl
    have hsum : sum = solvedSum q.axles := by
      funext l
      show (l.filterMap load).sum = _
      rw [hload, solvedSum, sumInt_eq]
    have hopen : open' = unsolvedOf q.axles := by
      funext l
      show (l.filter fun n => (load n).isNone) = _
      rw [hload]
      rfl
    have hchains : chains = groupNumbers (q.axles.splitBy fun _ b => joins st.gsp b) := rfl
    have hform := formGroups_eq st.gsp q.axles
    rw [← hchains] at hform
    have hfailed : failed = isCheckFail := rfl
    have hsolved : solved = isSolved := rfl
    rw [← hax] at hgross hgroups hkeepA hkeep
    rw [← hiv] at hgroups hkeepV hkeep
    rw [hfailed, hsolved, hsum, hopen]
    clear_value chains
    have hwhole : q = _ := hall
    rw [← hax, hform, hkeep] at hwhole
    have hring : q.ring = p.ring := by rw [hwhole]; rfl
    have hfull : q.flags.axlesFull = p.flags.axlesFull := by rw [hwhole]; rfl
    have hgrossFlag : (solveLoads d (endedPassage st t ax p)).flags.axleGross = p.flags.axleGross := by rw [hkeep]; rfl
    refine ⟨hkeepV, hkeepA, hwhole, fun h => ?_, fun hne hsome _ hnodup hunset hnum hivs => ?_, ?_, fun k g hg hd => ?_, hgross, hresult, ?_⟩
    · rw [hax, hiv]
      exact solveLoads_absent (hrev' hrev) h
    · have hmem {v : Interval} (hv : v ∈ (endedPassage st t ax p).intervals) : ∃ u ∈ p.intervals, fixedInterval st t ax u = v :=
        List.mem_map.1 hv
      have hnum' : ((endedPassage st t ax p).intervals.map (·.number)).Nodup := by
        refine Eq.mpr (congrArg List.Nodup ?_) hnum
        rw [endedPassage, List.map_map]
        exact List.map_congr_left fun v _ => (fixedInterval_same st t ax v).1
      have hnone' : ∀ v ∈ (endedPassage st t ax p).intervals, v.outcome = .none := fun v hv => by
        obtain ⟨u, hu, rfl⟩ := hmem hv
        exact (fixedInterval_same st t ax u).2.2.trans (hivs u hu).1
      have hknown' : ∀ v ∈ (endedPassage st t ax p).intervals, ∀ n ∈ v.axles, ∃ a ∈ p.axles, a.number = n := fun v hv => by
        obtain ⟨u, hu, rfl⟩ := hmem hv
        rw [(fixedInterval_same st t ax u).2.1]
        exact (hivs u hu).2.2.1
      obtain ⟨hloads, houts⟩ := solveLoads_found (d := d) (hrev' hrev) hne hsome hunset hnum' hnone' hknown'
      have hok := foundIn_ok (p := endedPassage st t ax p) hnum' hknown'
      rw [← hax] at hloads
      rw [← hiv] at houts
      intro found
      have hunsolved : unsolvedOf q.axles = unsolvedOf (withLoads found p.axles) := by
        funext l
        rw [hloads]
        exact List.filter_congr fun n _ => by rw [solvedLoad_markUnresolved]; rfl
      have hsolvedSum : solvedSum q.axles = solvedSum (withLoads found p.axles) := by
        funext l
        rw [hloads, solvedSum, solvedSum, funext (solvedLoad_markUnresolved _)]
        rfl
      refine ⟨fun a ha => ?_, fun v hv => ?_⟩
      · rw [hloads] at ha
        exact resolved_load ha
      · rw [houts] at hv
        obtain ⟨u, hu, rfl⟩ := List.mem_map.1 hv
        obtain ⟨w, hw, rfl⟩ := hmem hu
        have hspec := solvedInterval_spec (d := d) hok (fixedInterval_mean (st := st) (t := t) (ax := ax) (hivs w hw).2.2.2)
        rw [judgeInterval_outcome, hunsolved, hsolvedSum]
        exact hspec
    · rw [hgroups, makeGroups_axles, hform]
    · rw [hgroups, makeGroups_get, Option.map_eq_some_iff] at hg
      obtain ⟨l, -, rfl⟩ := hg
      obtain ⟨habs, hload⟩ := makeGroup_spec st hd q.axles q.intervals (1 + k) l
      exact ⟨Nat.add_comm 1 k, (by rw [Nat.add_comm k 1]; exact groupKind_eq _ _), groupLimit_eq _ _, rfl, habs, hload⟩
    · rw [hgrossFlag, axleGrossFlag_eq, hring, hfull] at hflag
      rw [hresult]
      refine hflag.trans ?_
      cases p.ring.getLast? with
      | none => rfl
      | some w => cases q.axleGross <;> rfl

end Sys2Proof.Machine
end

section
/-! PROOF. What a journal record is made of, and the ticket that waits for the close of a passage (R131 to R142). -/

namespace Sys2Proof.Machine

open Sys2Proof.Safety

/-! ### The check and the text of a record (R131, R207) -/

/-- The sum of the running sums: each character counts once for itself and once for each character after it. -/
def runningSum : Text → Nat
  | [] => 0
  | c :: l => (l.length + 1) * c.toNat + runningSum l

theorem runningSum_zipIdx (l : Text) (k n : Nat) (hn : n = k + l.length) :
    ((l.zipIdx k).map fun x => (n - x.2) * x.1.toNat).sum = runningSum l := by
  induction l generalizing k with
  | nil => rfl
  | cons c l ih =>
    rw [List.length_cons] at hn
    rw [List.zipIdx_cons, List.map_cons, List.sum_cons, ih (k + 1) (by omega), runningSum]
    have : n - k = l.length + 1 := by omega
    rw [this]

theorem checkSums_eq (l : Text) (s1 s2 : Nat) (h1 : s1 < 255) (h2 : s2 < 255) :
    checkSums (s1, s2) l = ((s1 + (l.map (·.toNat)).sum) % 255, (s2 + l.length * s1 + runningSum l) % 255) := by
  induction l generalizing s1 s2 with
  | nil => simp [checkSums, runningSum, Nat.mod_eq_of_lt h1, Nat.mod_eq_of_lt h2]
  | cons c l ih =>
    rw [checkSums, ih _ _ (Nat.mod_lt _ (by decide)) (Nat.mod_lt _ (by decide))]
    refine Prod.ext ?_ ?_
    · show ((s1 + c.toNat) % 255 + _) % 255 = _
      rw [Nat.mod_add_mod, List.map_cons, List.sum_cons, Nat.add_assoc]
    · have hmod : ((s2 + (s1 + c.toNat) % 255) % 255 + l.length * ((s1 + c.toNat) % 255) + runningSum l) ≡
          (s2 + (s1 + c.toNat)) + l.length * (s1 + c.toNat) + runningSum l [MOD 255] := by
        have hs : (s1 + c.toNat) % 255 ≡ s1 + c.toNat [MOD 255] := Nat.mod_modEq _ _
        exact (((Nat.mod_modEq _ _).trans (hs.add_left s2)).add (hs.mul_left l.length)).add_right _
      refine Eq.trans hmod (congrArg (· % 255) ?_)
      rw [runningSum, List.length_cons]
      ring

theorem textCheck_eq (t : Text) : textCheck t = checkOf t := by
  rw [textCheck, checkSums_eq t 0 0 (by decide) (by decide)]
  simp only [checkOf, runningSum_zipIdx t 0 t.length (Nat.zero_add _).symm, Nat.zero_add, Nat.mul_zero]

theorem journalText_eq (number : Nat) (body : JournalBody) (time counter : Option Nat) :
    journalText number body time counter = recordLine number body time counter := by
  have hsource (x : Source) : x.text = (match x with
      | .static => ['S']
      | .keyed => ['K']) := by cases x <;> rfl
  have hweigh (w : Weighing) : w.text = joinWith '/' [tInt w.weight, tNat w.d, tOpt tTime w.time, tOpt tNat w.counter,
      tOpt tNat w.passage, match w.source with
        | .static => ['S']
        | .keyed => ['K']] := by
    rw [← hsource]
    rfl
  cases body with
  | ticket n ref dir a b net x flags =>
    simp only [journalText, JournalBody.fields, recordLine, hweigh]
    cases x <;> rfl
  | onepass ref a b net x flags =>
    simp only [journalText, JournalBody.fields, recordLine, hweigh]
    cases x <;> rfl
  | gross ref a x flags =>
    simp only [journalText, JournalBody.fields, recordLine, hweigh]
    cases x <;> rfl
  | void n => rfl
  | cancel n ref => rfl
  | torn => rfl

/-- The five digits of a number below 100000. -/
theorem tPad_five {n : Nat} (h : n < 100000) :
    tPad 5 n = [n / 10000, n / 1000 % 10, n / 100 % 10, n / 10 % 10, n % 10].map fun k => Char.ofNat (48 + k) := by
  have hd (a b : Nat) (hab : a = b) : Char.ofNat (48 + a) = Char.ofNat (48 + b) := by rw [hab]
  unfold tPad tNat
  by_cases h1 : n < 10
  · simp only [digitsAux, h1, if_true]
    simp only [List.map_cons, List.map_nil, List.length_cons, List.length_nil, List.replicate, List.cons_append, List.nil_append]
    rw [hd (n / 10000) 0 (by omega), hd (n / 1000 % 10) 0 (by omega), hd (n / 100 % 10) 0 (by omega), hd (n / 10 % 10) 0 (by omega)]
  by_cases h2 : n < 100
  · simp only [digitsAux, h1, if_false, show n / 10 < 10 by omega, if_true]
    simp only [List.map_cons, List.map_nil, List.length_cons, List.length_nil, List.replicate, List.cons_append, List.nil_append]
    rw [hd (n / 10000) 0 (by omega), hd (n / 1000 % 10) 0 (by omega), hd (n / 100 % 10) 0 (by omega)]
  by_cases h3 : n < 1000
  · simp only [digitsAux, h1, if_false, show ¬ n / 10 < 10 by omega, show n / 10 / 10 < 10 by omega, if_true]
    simp only [List.map_cons, List.map_nil, List.length_cons, List.length_nil, List.replicate, List.cons_append, List.nil_append]
    rw [hd (n / 10000) 0 (by omega), hd (n / 1000 % 10) 0 (by omega), hd (n / 100 % 10) (n / 10 / 10 % 10) (by omega)]
  by_cases h4 : n < 10000
  · simp only [digitsAux, h1, if_false, show ¬ n / 10 < 10 by omega, show ¬ n / 10 / 10 < 10 by omega,
      show n / 10 / 10 / 10 < 10 by omega, if_true]
    simp only [List.map_cons, List.map_nil, List.length_cons, List.length_nil, List.replicate, List.cons_append, List.nil_append]
    rw [hd (n / 10000) 0 (by omega), hd (n / 1000 % 10) (n / 10 / 10 / 10 % 10) (by omega), hd (n / 100 % 10) (n / 10 / 10 % 10) (by omega)]
  · simp only [digitsAux, h1, if_false, show ¬ n / 10 < 10 by omega, show ¬ n / 10 / 10 < 10 by omega,
      show ¬ n / 10 / 10 / 10 < 10 by omega, show n / 10 / 10 / 10 / 10 < 10 by omega, if_true]
    simp only [List.map_cons, List.map_nil, List.length_cons, List.length_nil]
    rw [hd (n / 10000) (n / 10 / 10 / 10 / 10 % 10) (by omega), hd (n / 1000 % 10) (n / 10 / 10 / 10 % 10) (by omega),
      hd (n / 100 % 10) (n / 10 / 10 % 10) (by omega)]
    rfl

/-! ### Number and room (R133, R134) -/

theorem nextTicket_first {nv : NvStore} (h : nv.tickets = []) : nv.nextTicket none = 1 := by
  simp [NvStore.nextTicket, NvStore.newest, h, maxNat]

theorem le_foldl_max (l : List Nat) (a : Nat) : ∀ n ∈ a :: l, n ≤ l.foldl max a := by
  induction l generalizing a with
  | nil => exact fun n hn => Nat.le_of_eq (List.mem_singleton.1 hn)
  | cons b l ih =>
    intro n hn
    have hmax := ih (max a b) (max a b) List.mem_cons_self
    obtain rfl | rfl | hn := (List.mem_cons.1 hn).imp_right List.mem_cons.1
    · exact (Nat.le_max_left _ _).trans hmax
    · exact (Nat.le_max_right _ _).trans hmax
    · exact ih (max a b) n (List.mem_cons_of_mem _ hn)

theorem foldl_max_mem (l : List Nat) (a : Nat) : l.foldl max a ∈ a :: l := by
  induction l generalizing a with
  | nil => exact List.mem_cons_self
  | cons b l ih =>
    obtain h | h := List.mem_cons.1 (ih (max a b))
    · rw [List.foldl_cons, h]
      obtain h | h := max_choice a b <;> rw [h] <;> simp
    · exact List.mem_cons_of_mem _ (List.mem_cons_of_mem _ h)

theorem maxNat_of_max {l : List Nat} {m : Nat} (hm : m ∈ l) (hmax : ∀ n ∈ l, n ≤ m) : maxNat l = some m := by
  cases l with
  | nil => exact absurd hm (List.not_mem_nil)
  | cons a l =>
    refine congrArg some (Nat.le_antisymm ?_ ?_)
    · exact hmax _ (foldl_max_mem l a)
    · exact le_foldl_max l a m hm

theorem nextTicket_after {nv : NvStore} {r : JournalRec} (hr : r ∈ nv.tickets) (hmax : ∀ q ∈ nv.tickets, q.number ≤ r.number) :
    nv.nextTicket none = r.number + 1 := by
  have hnew : nv.newest = some r.number := maxNat_of_max (List.mem_map_of_mem hr) fun n hn => by
    obtain ⟨q, hq, rfl⟩ := List.mem_map.1 hn
    exact hmax q hq
  rw [NvStore.nextTicket, hnew]
  rfl

theorem slotFree_iff (nv : NvStore) (e slot : Nat) : nv.slotFree e slot = false ↔ ∃ r, nv.journalCell slot = .valid r ∧ e < r.number := by
  unfold NvStore.slotFree
  split
  next r hr => simp [hr]
  next hno =>
    refine ⟨fun h => (nomatch h), fun ⟨r, hr, _⟩ => absurd hr (hno r)⟩

theorem freeRun_iff (nv : NvStore) (e n : Nat) {slot : Nat} (h1 : 1 ≤ slot) (h2 : slot ≤ 4096) : nv.freeRun e n slot = false ↔
    ∃ k r, k < n ∧ nv.journalCell ((slot - 1 + k) % 4096 + 1) = .valid r ∧ e < r.number := by
  induction n generalizing slot with
  | zero => simp [NvStore.freeRun]
  | succ n ih =>
    have hnext : nextPlace Config.journalSlots slot = slot % 4096 + 1 := by
      obtain h | h := Nat.lt_or_ge slot 4096
      · rw [Nat.mod_eq_of_lt h]
        exact if_neg (Nat.not_le.2 h)
      · obtain rfl := Nat.le_antisymm h2 h
        rfl
    have hfirst : (slot - 1 + 0) % 4096 + 1 = slot := by omega
    have hmove (k : Nat) : (slot % 4096 + 1 - 1 + k) % 4096 = (slot - 1 + (k + 1)) % 4096 := by omega
    rw [NvStore.freeRun, Bool.and_eq_false_iff, slotFree_iff, hnext, ih (by omega) (by omega)]
    constructor
    · rintro (⟨r, hr, he⟩ | ⟨k, r, hk, hr, he⟩)
      · exact ⟨0, r, Nat.succ_pos n, by rw [hfirst]; exact hr, he⟩
      · exact ⟨k + 1, r, Nat.succ_lt_succ hk, by rw [← hmove]; exact hr, he⟩
    · rintro ⟨k, r, hk, hr, he⟩
      cases k with
      | zero =>
        rw [hfirst] at hr
        exact .inl ⟨r, hr, he⟩
      | succ k => exact .inr ⟨k, r, Nat.lt_of_succ_lt_succ hk, by rw [hmove]; exact hr, he⟩

/-! ### The body of a record (R136 to R138) -/

theorem netOf_eq (a b : Weighing) : netOf a b = ((a.weight - b.weight).natAbs : Int) := by
  unfold netOf
  omega

theorem calSplit_eq (a b : Weighing) : calSplit a b = decide (a.counter ≠ none ∧ b.counter ≠ none ∧ a.counter ≠ b.counter) := by
  unfold calSplit
  cases a.counter <;> cases b.counter <;> simp [bne_eq_decide_ne]

theorem heavyIsA_expected (a b : Weighing) : (!heavyIsA true a b) = decide (a.weight < b.weight) := by
  unfold heavyIsA
  split_ifs <;> simp <;> omega

theorem heavyIsA_unexpected (a b : Weighing) : heavyIsA false a b = decide (b.weight < a.weight) := by
  unfold heavyIsA
  split_ifs <;> simp <;> omega

theorem summaryFlags_eq (suspect tailgate : Bool) (x : Option Summary) (f : TicketFlags) : summaryFlags suspect x tailgate f = match x with
    | some y => { f with
        unverified := suspect
        axleOver := decide (y.result = .over)
        axleIncomplete := decide (y.result = .incomplete ∨ y.result = .void)
        axleAbsent := decide (y.result = .absent)
        tailgate := y.flags.tailgateIn || y.flags.tailgateOut }
    | none => { f with unverified := suspect, axleAbsent := true, tailgate := tailgate } := by
  cases x with
  | none => rfl
  | some y => simp only [summaryFlags, beq_eq_decide, Bool.decide_or]

/-! ### The close that a ticket waits for (R141, R142) -/

/-- The TXU's requests leave the clock, and of its own state all but the lists they take from. -/
theorem requestAttachments_keeps (nv : NvStore) (d : Device) : (requestAttachments nv d).nvc.clock = d.nvc.clock ∧
    (requestAttachments nv d).txu = { d.txu with
      freeHeld := (requestAttachments nv d).txu.freeHeld
      owed := (requestAttachments nv d).txu.owed
      copies := (requestAttachments nv d).txu.copies } := by
  have hfree (n : Nat) (e : Device) : (requestFreeing nv n e).nvc.clock = e.nvc.clock := by
    induction n generalizing e with
    | zero => rfl
    | succ n ih =>
      unfold requestFreeing
      split
      · rfl
      · split
        · dsimp only
          rw [ih]
          split <;> exact (request_cells _ _).2.2.2.2.2.2.1
        · rfl
  have howed (n : Nat) (e : Device) : (requestOwed nv n e).nvc.clock = e.nvc.clock := by
    induction n generalizing e with
    | zero => rfl
    | succ n ih =>
      unfold requestOwed
      split
      · split
        · rfl
        · split
          · rfl
          · dsimp only
            rw [ih]
            exact (request_cells _ _).2.2.2.2.2.2.1
      · rfl
  refine ⟨(howed _ _).trans (hfree _ _), ?_⟩
  unfold requestAttachments
  rw [requestOwed_frame, requestFreeing_frame]
  rfl

/-- The attachments owed as a passage closes (R116). -/
def attachmentsOwed (n : Nat) (d : Device) : Device := { d with txu := { d.txu with
  awaiting := d.txu.awaiting.filter (·.passage != n)
  owed := d.txu.owed ++ sortBy (fun a b => decide (a.visit < b.visit)) (d.txu.awaiting.filter (·.passage == n)) } }

theorem requestAttachments_exe (nv : NvStore) (d : Device) : (requestAttachments nv d).exe = d.exe := by
  rw [(requestAttachments_frame nv d).1]

theorem passageClosed_releases (nv : NvStore) {n k : Nat} {x : Draft} {d : Device} (hst : d.exe.stage = .axleWait x n k) :
    passageClosed nv n d = makeRecord nv { x with summary := summaryOfPassage (requestAttachments nv (attachmentsOwed n d)) n }
      (requestAttachments nv (attachmentsOwed n d)) := by
  have hst' : (requestAttachments nv (attachmentsOwed n d)).exe.stage = .axleWait x n k := by
    rw [requestAttachments_exe]
    exact hst
  unfold passageClosed
  dsimp only
  rw [attachmentsOwed] at hst' ⊢
  simp only [hst', if_true]

theorem passageClosed_waits (nv : NvStore) {n m k : Nat} {x : Draft} {d : Device} (hst : d.exe.stage = .axleWait x m k) (hm : m ≠ n) :
    passageClosed nv n d = requestAttachments nv (attachmentsOwed n d) := by
  have hst' : (requestAttachments nv (attachmentsOwed n d)).exe.stage = .axleWait x m k := by
    rw [requestAttachments_exe]
    exact hst
  unfold passageClosed
  dsimp only
  rw [attachmentsOwed] at hst' ⊢
  simp only [hst', hm, if_false]

/-- What the making of a record leaves behind: its stage and its request. -/
theorem makeRecord_stage (nv : NvStore) (x : Draft) (d : Device) :
    let made (n : Nat) (body : JournalBody) : JournalRec := JournalRec.make n body d.nvc.clock (d.mst.active.map (·.counter))
    (d.txu.owedTorn = none →
      let r := made (nv.nextTicket none) (recordBody (decide (d.mst.state = .suspect)) x)
      (makeRecord nv x d).exe.stage = .record x r ∧ (makeRecord nv x d).nvc.Asks ⟨.longOp, .journal d.txu.writePos r⟩) ∧
    (∀ n, d.txu.owedTorn = some n → (makeRecord nv x d).exe.stage = .owedTorn x ∧
      (makeRecord nv x d).nvc.Asks ⟨.longOp, .journal d.txu.writePos (made n .torn)⟩) := by
  intro made
  refine ⟨fun h => ?_, fun n h => ?_⟩
  · have hmade : makeRecord nv x d = makeOwn nv x d := by simp only [makeRecord, h]
    rw [hmade, ← suspect_beq, makeOwn, h]
    exact ⟨rfl, request_asks_self _ d⟩
  · have hmade : makeRecord nv x d = setStage (.owedTorn x) (requestJournal (tornRecord n d) d) := by simp only [makeRecord, h]
    rw [hmade]
    exact ⟨rfl, request_asks_self _ d⟩

/-- The newest record of the history, by its number. -/
theorem find_newest {l : List Passage} {q : Passage} {n : Nat} (owes : Nat → Bool) (hl : ∀ p ∈ l, p.number ≠ n) (hq : q.number = n) :
    (((l ++ [q]).map fun p => { p with owedMark := owes p.number }).find? fun p => decide (p.number = n)) =
      some { q with owedMark := owes q.number } := by
  rw [List.map_append, List.find?_append, List.find?_eq_none.2, Option.none_or, List.map_singleton, List.find?_singleton]
  · rw [if_pos (decide_eq_true hq)]
  · intro p hp
    obtain ⟨x, hx, rfl⟩ := List.mem_map.1 hp
    exact fun h => hl x hx (of_decide_eq_true h)

/-- The passage's close by the clear timer, as far as a waiting ticket goes. -/
theorem clearTimer_closes {t0 : Nat} {p : Passage} {s : State} (hrun : running s.dev = true) (hp : s.dev.lsv.current = some p)
    (ht : s.dev.lsv.clear = some t0) (hl : s.dev.lsv.lane = .entering ∨ s.dev.lsv.lane = .onDeck ∨ s.dev.lsv.lane = .leaving)
    {x : Draft} {m k : Nat} (hst : s.dev.exe.stage = .axleWait x m k) :
    ∃ t a q, exec .clearTimerExpires s = .next t ∧ q.number = p.number ∧
      a.lsv.history = (if s.dev.lsv.history.length ≥ 4 then s.dev.lsv.history.drop 1 else s.dev.lsv.history) ++ [q] ∧
      a.exe = s.dev.exe ∧ a.nvc.clock = s.dev.nvc.clock ∧ a.mst = s.dev.mst ∧ a.txu.owedTorn = s.dev.txu.owedTorn ∧
      a.txu.writePos = s.dev.txu.writePos ∧
      t.dev.lsv.history = (passageClosed s.nv p.number a).lsv.history ∧ t.dev.exe = (passageClosed s.nv p.number a).exe ∧
      t.dev.nvc = (passageClosed s.nv p.number a).nvc := by
  obtain ⟨d, hd⟩ : ∃ d, d = advance (t0 + 1000 * s.dev.nvc.settings.clrt) s.dev := ⟨_, rfl⟩
  obtain ⟨q, hq⟩ : ∃ q, q = closedRecord .clear (t0 + 1000 * s.dev.nvc.settings.clrt) p d := ⟨_, rfl⟩
  have hpd : d.lsv.current = some p := hd ▸ hp
  have hnum : q.number = p.number := by
    rw [hq]
    exact (congrArg Passage.number (axuSolve_head _ _ _) :)
  obtain ⟨a, ha⟩ : ∃ a, a = raise .axl { pushHistory q d with axu := Axu.reset } := ⟨_, rfl⟩
  have hclose : closePassage s.nv .clear (t0 + 1000 * s.dev.nvc.settings.clrt) d = passageClosed s.nv p.number a := by
    rw [← hnum, ha, hq]
    simp only [closePassage, hpd]
    rfl
  have hexec : exec .clearTimerExpires s = .next (becomes s (clearTimerExpires s.nv s.dev)) := rfl
  rw [clearTimerExpires_eq hrun ht hl, ← hd, hclose] at hexec
  rw [raise_eq, noticed_ntc] at ha
  have hstage (b : Device) (hb : b.exe.stage = s.dev.exe.stage ∨ (∃ y r, b.exe.stage = .record y r) ∨ ∃ y, b.exe.stage = .owedTorn y) :
      endsLan .clear b.exe.stage = false := by
    obtain h | ⟨y, r, h⟩ | ⟨y, h⟩ := hb <;> rw [h]
    · rw [hst]
      rfl
    · rfl
    · rfl
  have haexe : a.exe = s.dev.exe := by
    rw [ha, hd]
    rfl
  have hclosed : endsLan .clear (timersStopped (passageClosed s.nv p.number a)).exe.stage = false := by
    refine hstage (passageClosed s.nv p.number a) ?_
    by_cases hm : m = p.number
    · have hst' : a.exe.stage = .axleWait x p.number k := by rw [haexe, ← hm]; exact hst
      rw [passageClosed_releases s.nv hst']
      obtain ⟨hnone, hsome⟩ := makeRecord_stage s.nv
        { x with summary := summaryOfPassage (requestAttachments s.nv (attachmentsOwed p.number a)) p.number }
        (requestAttachments s.nv (attachmentsOwed p.number a))
      cases ho : (requestAttachments s.nv (attachmentsOwed p.number a)).txu.owedTorn with
      | none => exact .inr (.inl ⟨_, _, (hnone ho).1⟩)
      | some n => exact .inr (.inr ⟨_, (hsome n ho).1⟩)
    · have hst' : a.exe.stage = .axleWait x m k := by rw [haexe]; exact hst
      rw [passageClosed_waits s.nv hst' hm, requestAttachments_exe]
      exact .inl (congrArg _ haexe)
  refine ⟨_, a, q, hexec, hnum, ?_, haexe, ?_, ?_, ?_, ?_, ?_, ?_, ?_⟩
  · rw [ha, hd]
    rfl
  · rw [ha, hd]
    rfl
  · rw [ha, hd]
    rfl
  · rw [ha, hd]
    rfl
  · rw [ha, hd]
    rfl
  · obtain ⟨x, y, hlsv⟩ := becomes_lsv s (setLane .clear (timersStopped (passageClosed s.nv p.number a)))
    rw [hlsv, setLane_eq]
    rfl
  · rw [becomes_lights, setLane_eq]
    exact if_neg fun h => absurd (hclosed.symm.trans h.2) Bool.false_ne_true
  · rw [becomes_lights, setLane_eq]
    rfl

/-- Settles O57: the check and text, number and room, the body, and the ticket that waits for a close. -/
theorem ticketRecords : Obligations.TicketRecords := by
  refine ⟨fun n body time counter => ?_, fun r hr => ?_, fun nv => ⟨fun _ => rfl, nextTicket_first, fun r => nextTicket_after⟩,
    fun nv d h1 h2 => ?_, fun suspect x => ?_, fun t0 k p x g s hrun hp ht hl hno hexe => ?_, fun t0 k m p x g s hrun hp ht hl hm hexe => ?_⟩
  · rw [JournalRec.make, textCheck_eq, journalText_eq]
  · rw [JournalRec.item, journalText_eq, tPad_five hr]
  · intro needed
    have hneeded : (if d.txu.owedTorn.isSome then 1 else 0) + 2 = needed := by
      simp only [needed]
      cases d.txu.owedTorn <;> rfl
    rw [journalFull, Bool.or_eq_true, Bool.not_eq_true', hneeded, freeRun_iff _ _ _ h1 h2]
  · intro plain given split net
    have hgiven (f : TicketFlags) : given f = summaryFlags suspect x.summary x.tailgate f := (summaryFlags_eq _ _ _ _).symm
    simp only [hgiven]
    unfold recordBody
    cases x.body with
    | ticket n ref dir a b =>
      have hdir : (heavyIsA (expectA dir) a b != expectA dir) = (match dir with
          | .receival => decide (a.weight < b.weight)
          | .outload => decide (b.weight < a.weight)) := by
        cases dir with
        | receival => exact (Bool.bne_true _).trans (heavyIsA_expected a b)
        | outload => exact (Bool.bne_false _).trans (heavyIsA_unexpected a b)
      simp only [netOf_eq, calSplit_eq, hdir]
      rfl
    | onepass ref a b =>
      simp only [netOf_eq, calSplit_eq, heavyIsA_expected, beq_eq_decide]
      rfl
    | gross ref a => rfl
    | void n => rfl
    | cancel n ref => rfl
  · obtain ⟨t, a, q, hexec, hnum, hhist, haexe, hclock, hmst, htorn, hpos, hthist, htexe, htnvc⟩ :=
      clearTimer_closes (m := p.number) hrun hp ht hl (by rw [hexe])
    have hst : a.exe.stage = .axleWait x p.number k := by rw [haexe, hexe]
    obtain ⟨hkclock, hktxu⟩ := requestAttachments_keeps s.nv (attachmentsOwed p.number a)
    obtain ⟨hframe, owes, hkhist⟩ := requestAttachments_frame s.nv (attachmentsOwed p.number a)
    rw [passageClosed_releases s.nv hst] at hthist htexe htnvc
    have hsum : summaryOfPassage (requestAttachments s.nv (attachmentsOwed p.number a)) p.number =
        some ⟨q.groups.map fun v => ⟨v.kind, v.load, v.limit, v.excess⟩, q.result.getD .absent, q.flags⟩ := by
      have hold : ∀ r ∈ (if s.dev.lsv.history.length ≥ 4 then s.dev.lsv.history.drop 1 else s.dev.lsv.history), r.number ≠ p.number := by
        intro r hr
        split at hr
        · exact hno r (List.mem_of_mem_drop hr)
        · exact hno r hr
      have hhist' : (attachmentsOwed p.number a).lsv.history = _ := hhist
      rw [summaryOfPassage_eq, hkhist, hhist', find_newest owes hold hnum]
    rw [hsum] at hthist htexe htnvc
    obtain ⟨hnone, hsome⟩ := makeRecord_stage s.nv
      { x with summary := some ⟨q.groups.map fun v => ⟨v.kind, v.load, v.limit, v.excess⟩, q.result.getD .absent, q.flags⟩ }
      (requestAttachments s.nv (attachmentsOwed p.number a))
    have hmframe := makeRecord_frame s.nv
      { x with summary := some ⟨q.groups.map fun v => ⟨v.kind, v.load, v.limit, v.excess⟩, q.result.getD .absent, q.flags⟩ }
      (requestAttachments s.nv (attachmentsOwed p.number a))
    generalize hb : requestAttachments s.nv (attachmentsOwed p.number a) = b at *
    have hbclock : b.nvc.clock = s.dev.nvc.clock := hkclock.trans hclock
    have hbmst : b.mst = s.dev.mst := by
      rw [hframe]
      exact hmst
    have hbtorn : b.txu.owedTorn = s.dev.txu.owedTorn := by
      rw [hktxu]
      exact htorn
    have hbpos : b.txu.writePos = s.dev.txu.writePos := by
      rw [hktxu]
      exact hpos
    have hbexe : b.exe.slot = some g := by
      rw [hframe]
      exact (congrArg Exe.slot (haexe.trans hexe) :)
    rw [hbclock, hbmst, hbtorn, hbpos] at hnone hsome
    have hslot : t.dev.exe = ⟨some g, t.dev.exe.stage⟩ := by
      rw [htexe, hmframe]
      exact congrArg (fun o => Exe.mk o _) hbexe
    have houts (r : WriteReq) (h : (makeRecord s.nv { x with summary := some ⟨q.groups.map fun v => ⟨v.kind, v.load, v.limit, v.excess⟩,
        q.result.getD .absent, q.flags⟩ } b).nvc.Asks r) : r ∈ outstanding t.dev := by
      rw [← asks_iff, htnvc]
      exact h
    refine ⟨t, { q with owedMark := owes q.number }, hexec, ?_, hnum, fun h => ?_, fun n h => ?_⟩
    · have hhist' : (attachmentsOwed p.number a).lsv.history = _ := hhist
      rw [hthist, hmframe]
      show b.lsv.history.getLast? = _
      rw [hkhist, hhist', List.map_append, List.map_singleton, List.getLast?_append_cons, List.getLast?_singleton]
    · obtain ⟨hs, ha⟩ := hnone h
      refine ⟨?_, houts _ ha⟩
      rw [hslot, htexe, hs]
    · obtain ⟨hs, ha⟩ := hsome n h
      refine ⟨?_, houts _ ha⟩
      rw [hslot, htexe, hs]
  · obtain ⟨t, a, q, hexec, -, -, haexe, -, -, -, -, -, htexe, -⟩ := clearTimer_closes hrun hp ht hl (by rw [hexe])
    refine ⟨t, hexec, ?_⟩
    rw [htexe, passageClosed_waits s.nv (by rw [haexe, hexe]) hm, requestAttachments_exe]
    exact haexe

end Sys2Proof.Machine
end

section
/-! PROOF. What a weight record does to stability, zero and captures (R45 to R60). -/

namespace Sys2Proof.Machine

open Sys2Proof.Safety

/-! ### The window and the judgement (R45, R46) -/

theorem windowAfter_eq (r : CalRecord) (wr : WeightRecord) (w : List WinEntry) : windowAfter (windowLength r) wr w = windowThen r wr w := by
  have hload : ((wr.modules.get .i0).map (·.load)).getD none = (match wr.modules.get .i0 with
      | some m => m.load
      | none => none) := by cases wr.modules.get .i0 <;> rfl
  have hqual : qualifies wr = true ↔ ¬ (wr.total = none ∨ wr.clamped = true ∨ wr.held = true) := by
    rw [qualifies, Bool.and_eq_true, Bool.and_eq_true, Option.isSome_iff_ne_none, Bool.not_eq_true', Bool.not_eq_true',
      not_or, not_or, Bool.not_eq_true, Bool.not_eq_true, and_assoc]
  unfold windowAfter windowThen
  cases wr.f with
  | none => rfl
  | some f =>
    simp only [hload, hqual, ite_not]
    rfl

theorem isStable_iff (r : CalRecord) (w : List WinEntry) : isStable r w = true ↔ StillThen r w := by
  rw [isStable, Bool.and_eq_true, beq_iff_eq]
  refine and_congr_right fun hlen => ?_
  have hne : w.map (·.f) ≠ [] := by
    rw [ne_eq, List.map_eq_nil_iff]
    rintro rfl
    have : 2 ≤ windowLength r := Nat.le_max_left _ _
    rw [← hlen] at this
    exact absurd this (by decide)
  obtain ⟨s, hs, hiff⟩ := spread_le_iff hne (((r.band * (100 * r.d) : Nat) : Int) / 2)
  rw [hs, decide_eq_true_iff]
  have hhalf (x : Int) : 2 * x ≤ ((r.band * (100 * r.d) : Nat) : Int) ↔ x ≤ ((r.band * (100 * r.d) : Nat) : Int) / 2 := by omega
  rw [hhalf, hiff]
  simp only [List.forall_mem_map, hhalf]

/-- A record that does not qualify empties the window, which is then not STABLE. -/
theorem filtered_of_still {r : CalRecord} {wr : WeightRecord} {w : List WinEntry} (h : StillThen r (windowThen r wr w)) :
    ∃ f, wr.f = some f := by
  cases hf : wr.f with
  | some f => exact ⟨f, rfl⟩
  | none =>
    have hlen := h.1
    have : 2 ≤ max 2 (r.window / r.p) := Nat.le_max_left _ _
    rw [← hlen] at this
    simp [windowThen, hf] at this

/-! ### The record taken, by what it meets (R45 to R59) -/

section

variable {nv : NvStore} {before : Option WeightRecord} {wr : WeightRecord} {r : CalRecord} {d : Device}

theorem zsuRecord_none (h : (captureSlots before wr d).mst.active = none) : zsuRecord nv before wr d =
    judgedAs [] false wr (captureSlots before wr d) := by
  simp only [zsuRecord, h]
  rfl

theorem zsuRecord_restless (h : (captureSlots before wr d).mst.active = some r)
    (hs : ¬ StillThen r (windowThen r wr (captureSlots before wr d).zsu.window)) :
    zsuRecord nv before wr d = judgedAs (windowThen r wr (captureSlots before wr d).zsu.window) false wr (captureSlots before wr d) := by
  have hstill : isStable r (windowThen r wr (captureSlots before wr d).zsu.window) = false :=
    Bool.eq_false_iff.2 fun h => hs ((isStable_iff _ _).1 h)
  simp only [zsuRecord, h, windowAfter_eq, hstill]
  rfl

/-- What a STABLE sample leaves, of the part with its window and judgement. -/
def stableActs (nv : NvStore) (r : CalRecord) (wr : WeightRecord) (f : Int) (d : Device) : Device :=
  if (captureStable nv r wr d).zsu.set then
    (if d.lsv.lane = .clear then stableClear r f wr.g (captureStable nv r wr d) else captureStable nv r wr d)
  else stableUnset r f (captureStable nv r wr d)

theorem zsuRecord_still {f : Int} (h : (captureSlots before wr d).mst.active = some r) (hf : wr.f = some f)
    (hs : StillThen r (windowThen r wr (captureSlots before wr d).zsu.window)) : zsuRecord nv before wr d =
      stableActs nv r wr f (judgedAs (windowThen r wr (captureSlots before wr d).zsu.window) true wr (captureSlots before wr d)) := by
  have hstill := (isStable_iff _ _).2 hs
  unfold zsuRecord
  dsimp only
  split
  next hn => exact absurd (h.symm.trans hn) (Option.some_ne_none _)
  next r' hr =>
    obtain rfl : r = r' := Option.some.inj (h.symm.trans hr)
    rw [windowAfter_eq, hstill]
    split
    next f' _ hf' =>
      obtain rfl : f = f' := Option.some.inj (hf.symm.trans hf')
      rfl
    next hno => exact absurd hf (hno f rfl)

theorem captureSlots_free (h : ∀ c k, d.exe.stage ≠ .capWait c k) : captureSlots before wr d = d := by
  unfold captureSlots
  split
  next hst => exact absurd hst (h _ _)
  next => rfl

theorem captureStable_free (h : ∀ c k, d.exe.stage ≠ .capWait c k) : captureStable nv r wr d = d := by
  unfold captureStable
  split
  next c k hst => exact absurd hst (h c k)
  next => rfl

/-! ### Zero (R49 to R55) -/

theorem zerWaiting_iff (d : Device) : zerWaiting d = true ↔ ∃ k, d.exe.stage = .zerWait k := by
  unfold zerWaiting
  split
  next k h => exact iff_of_true rfl ⟨k, h⟩
  next h => exact iff_of_false Bool.false_ne_true fun ⟨k, hk⟩ => h k hk

theorem zerWaiting_false (h : ∀ k, d.exe.stage ≠ .zerWait k) : zerWaiting d = false :=
  Bool.eq_false_iff.2 fun hw => by
    obtain ⟨k, hk⟩ := (zerWaiting_iff d).1 hw
    exact h k hk

theorem stableUnset_run {f : Int} (h : d.mst.run ≠ none) : stableUnset r f d = d :=
  if_pos ((runOpen_iff d).2 h)

theorem stableUnset_beyond {f : Int} (h : d.mst.run = none) (hf : 10 * r.max < (f - r.zcal).natAbs) :
    ((∀ k, d.exe.stage ≠ .zerWait k) → stableUnset r f d = d) ∧
    (∀ k, d.exe = ⟨some .zer, .zerWait k⟩ → stableUnset r f d = endedWith '#' .zer [['Z', 'R', 'G']] d) := by
  have hopen : ¬ runOpen d = true := fun ho => (runOpen_iff d).1 ho h
  have hout : ¬ within f r.zcal (10 * r.max) = true := fun hw => Nat.not_le.2 hf ((within_iff _ _ _).1 hw)
  unfold stableUnset
  rw [if_neg hopen, if_neg hout]
  refine ⟨fun hk => if_neg (by rw [zerWaiting_false hk]; exact Bool.false_ne_true), fun k hk => ?_⟩
  rw [if_pos ((zerWaiting_iff d).2 ⟨k, by rw [hk]⟩), failWith_eq (g := .zer) _ _ (by rw [hk])]
  rfl

/-- The part with its zero set in INIT (R49). -/
def zeroedAt (f : Int) (d : Device) : Device := { d with zsu := ⟨[], true, some f, some f, false, d.zsu.b1⟩ }

/-- The same told to a ZER that waits, which completes (R52). -/
def zeroTold (f z : Int) (d : Device) : Device := match d.exe.stage with
  | .zerWait _ => endedWith '=' .zer [tSetWord, tHundredths (f - z)] (zeroedAt f d)
  | _ => zeroedAt f d

theorem zeroTold_same (f z : Int) (d : Device) : (zeroTold f z d).lsv = d.lsv ∧ (zeroTold f z d).zsu = (zeroedAt f d).zsu ∧
    (zeroTold f z d).now = d.now ∧ ((∀ c k, d.exe.stage ≠ .capWait c k) → ∀ c k, (zeroTold f z d).exe.stage ≠ .capWait c k) ∧
    (∀ k, (zeroTold f z d).exe.stage ≠ .zerWait k) ∧
    ((∀ c k x, d.exe.stage ≠ .runWait c k x) → ∀ c k x, (zeroTold f z d).exe.stage ≠ .runWait c k x) := by
  unfold zeroTold
  split
  next => exact ⟨rfl, rfl, rfl, fun _ _ _ h => (nomatch h), fun _ h => (nomatch h), fun _ _ _ _ h => (nomatch h)⟩
  next hk => exact ⟨rfl, rfl, rfl, fun h => h, hk, fun h => h⟩

theorem emptyWindow_setLane (l : Lane) (d : Device) : emptyWindow (setLane l d) = setLane l (emptyWindow d) := by
  rw [setLane_eq, setLane_eq]
  rfl

theorem emptyWindow_enterPassage (c : OpenCause) (t : Nat) (d : Device) :
    emptyWindow (enterPassage c t d) = enterPassage c t (emptyWindow d) :=
  emptyWindow_setLane .entering (stopSettle (openPassage c t d))

theorem emptyWindow_laneZeroSet (d : Device) : emptyWindow (laneZeroSet d) = laneZeroSet (emptyWindow d) := by
  unfold laneZeroSet
  have hlane : (emptyWindow d).lsv.lane = d.lsv.lane := rfl
  have hbeam : (emptyWindow (setLane .clear d)).lsv.beamIn = (setLane .clear d).lsv.beamIn := rfl
  have hnow : (emptyWindow (setLane .clear d)).now = (setLane .clear d).now := rfl
  simp only [hlane, ← emptyWindow_setLane, hbeam, hnow, ← emptyWindow_enterPassage]
  split
  · split <;> rfl
  · rfl

/-- Zero becomes SET in INIT, and a waiting ZER completes (R49, R52). -/
theorem stableUnset_sets {f z : Int} (h : d.mst.run = none) (hf : (f - r.zcal).natAbs ≤ 10 * r.max) (hz : d.zsu.z = some z)
    (hslot : ∀ k, d.exe.stage = .zerWait k → d.exe.slot = some .zer) : stableUnset r f d = laneZeroSet (zeroTold f z d) := by
  have hopen : ¬ runOpen d = true := fun ho => (runOpen_iff d).1 ho h
  have hin : within f r.zcal (10 * r.max) = true := (within_iff _ _ _).2 hf
  have htold : emptyWindow (if zerWaiting d then complete (zerFields z f) (setInitialZero f d) else setInitialZero f d) =
      zeroTold f z d := by
    by_cases hw : ∃ k, d.exe.stage = .zerWait k
    · obtain ⟨k, hk⟩ := hw
      rw [if_pos ((zerWaiting_iff d).2 ⟨k, hk⟩), complete_eq (g := .zer) (d := setInitialZero f d) _ (hslot k hk)]
      simp only [zeroTold, hk]
      rfl
    · have hno : ∀ k, d.exe.stage ≠ .zerWait k := fun k hk => hw ⟨k, hk⟩
      rw [if_neg (by rw [zerWaiting_false hno]; exact Bool.false_ne_true)]
      unfold zeroTold
      split
      next k hk => exact absurd hk (hno k)
      next => rfl
  rw [← htold, ← emptyWindow_laneZeroSet]
  unfold stableUnset
  rw [if_neg hopen, if_pos hin, hz]
  rfl

theorem endsLan_clear {st : Stage} (h : ∀ c k, st ≠ .capWait c k) : endsLan .clear st = false := by
  cases st with
  | capWait c k => exact absurd rfl (h c k)
  | runWait c k w => cases c <;> rfl
  | _ => rfl

theorem setLane_clear (hl : d.lsv.lane = .init) (hst : ∀ c k, d.exe.stage ≠ .capWait c k) :
    setLane .clear d = { d with lsv := { d.lsv with lane := .clear }, ntc := noticedNtc .lne d.ntc } := by
  rw [setLane_eq]
  simp only [hl, endsLan_clear hst, reduceCtorEq, if_false, Bool.false_eq_true, and_false]

theorem laneZeroSet_clear (hl : d.lsv.lane = .init) (hst : ∀ c k, d.exe.stage ≠ .capWait c k) (hb : d.lsv.beamIn.state = false) :
    laneZeroSet d = noticed .lne { d with lsv := { d.lsv with lane := .clear } } := by
  have hset := setLane_clear hl hst
  unfold laneZeroSet
  rw [if_pos hl, hset, noticed_ntc]
  exact if_neg (by rw [hb]; exact Bool.false_ne_true)

theorem laneZeroSet_entering (hl : d.lsv.lane = .init) (hb : d.lsv.beamIn.state = true) (hcap : ∀ c k, d.exe.stage ≠ .capWait c k)
    (hzer : ∀ k, d.exe.stage ≠ .zerWait k) :
    (laneZeroSet d).zsu = d.zsu ∧ (laneZeroSet d).lsv.lane = .entering ∧
    (∃ p, (laneZeroSet d).lsv.current = some p ∧ p.number = d.lsv.nextPassage ∧ p.cause = .beamIn ∧ p.openAt = d.now) ∧
    ((∀ c k x, d.exe.stage ≠ .runWait c k x) → (laneZeroSet d).exe = d.exe ∧ (laneZeroSet d).tx = d.tx) := by
  have hset := setLane_clear hl hcap
  have hgo : laneZeroSet d = evalTimers d.now (enterPassage .beamIn d.now (setLane .clear d)) := by
    unfold laneZeroSet
    rw [if_pos hl, hset]
    exact if_pos hb
  have hne : (setLane .clear d).lsv.lane ≠ .entering := by
    rw [hset]
    exact Lane.noConfusion
  rw [hgo, enterPassage_eq hne, hset]
  refine ⟨rfl, rfl, ⟨_, rfl, rfl, rfl, rfl⟩, fun hrun => ?_⟩
  have hno : endsLan .entering d.exe.stage = false := by
    cases h : d.exe.stage with
    | zerWait k => exact absurd h (hzer k)
    | capWait c k => exact absurd h (hcap c k)
    | runWait c k x => exact absurd h (hrun c k x)
    | _ => rfl
  exact ⟨if_neg (by rw [hno]; exact Bool.false_ne_true), if_neg (by rw [hno]; exact Bool.false_ne_true)⟩

/-! ### Zero SET with the lane CLEAR (R52 to R55) -/

/-- The baseline taken of a window's module 1 loads, where the part e has module 1 (R55). -/
def basedOn (e : Device) (mean : Int) (d : Device) : Device :=
  if ∃ i ∈ SlotId.ofLine .i0, configured e i = true then { d with zsu := { d.zsu with b1 := some mean } } else d

theorem basedOn_eq (e : Device) (mean : Int) (d : Device) : basedOn e mean d = { d with zsu := { d.zsu with
    b1 := if ∃ i ∈ SlotId.ofLine .i0, configured e i = true then some mean else d.zsu.b1 } } := by
  unfold basedOn
  split <;> rfl

theorem updateBaseline_eq (w : List WinEntry) (d : Device) :
    updateBaseline w d = basedOn d (roundDiv ((w.map fun e => e.m1.getD 0).sum) w.length) d := by
  have hmod : moduleExists d .i0 = true ↔ ∃ i ∈ SlotId.ofLine .i0, configured d i = true := List.any_eq_true
  simp only [updateBaseline, basedOn, hmod, sumInt_eq]

theorem nearest_trackStep (r : CalRecord) : Nearest ((100 * r.d * r.p : Nat) : Int) 2000 (trackStep r) := by
  have hpos : 0 < 2000 := by norm_num
  rw [trackStep]
  exact nearest_roundDiv _ hpos

/-- Z moved toward F by a step, stopped at the edges (R53, R54). -/
def trackedTo (step f z zi span : Int) (d : Device) : Device :=
  let moved := if z < f then z + min step (f - z) else z - min step (z - f)
  { d with zsu := { d.zsu with
    z := some (if zi + span < moved then zi + span else if moved < zi - span then zi - span else moved)
    trackLimit := d.zsu.trackLimit || decide (zi + span < moved) || decide (moved < zi - span) } }

theorem trackedZ_eq (step z f zi : Int) (span : Nat) :
    let moved := if z < f then z + min step (f - z) else z - min step (z - f)
    trackedZ step z f zi span = (if zi + span < moved then zi + span else if moved < zi - span then zi - span else moved,
      decide (zi + span < moved) || decide (moved < zi - span)) := by
  intro moved
  show (if moved > zi + span then (zi + span, true) else if moved < zi - span then (zi - span, true) else (moved, false)) = _
  by_cases h1 : zi + span < moved
  · simp only [gt_iff_lt, h1, if_true, decide_true, Bool.true_or]
  · by_cases h2 : moved < zi - span
    · simp only [gt_iff_lt, h1, h2, if_true, if_false, decide_true, decide_false, Bool.or_true]
    · simp only [gt_iff_lt, h1, h2, if_false, decide_false, Bool.or_false]

theorem track_eq {f z zi g : Int} (hset : d.zsu.set = true) (hz : d.zsu.z = some z) (hzi : d.zsu.zInit = some zi) :
    track r f (some g) d = if d.mst.run = none ∧ 2 * g.natAbs ≤ 100 * r.d then trackedTo (trackStep r) f z zi (4 * r.max) d else d := by
  have hcond : (d.zsu.set = true ∧ runOpen d = false ∧ 2 * absInt g ≤ ((100 * r.d : Nat) : Int)) ↔
      (d.mst.run = none ∧ 2 * g.natAbs ≤ 100 * r.d) := by
    have hrun : runOpen d = false ↔ d.mst.run = none := by
      rw [← Bool.not_eq_true, runOpen_iff, not_not]
    have hg : 2 * absInt g ≤ ((100 * r.d : Nat) : Int) ↔ 2 * g.natAbs ≤ 100 * r.d := by
      unfold absInt
      omega
    rw [hrun, hg]
    exact and_iff_right hset
  unfold track
  split
  next z' zi' g' hz' hzi' hg =>
    obtain rfl : z = z' := Option.some.inj (hz.symm.trans hz')
    obtain rfl : zi = zi' := Option.some.inj (hzi.symm.trans hzi')
    obtain rfl : g = g' := Option.some.inj hg
    have hspan : ((4 * r.max : Nat) : Int) = 4 * r.max := Nat.cast_mul _ _
    simp only [hcond, trackedZ_eq, trackedTo, Bool.or_assoc, hspan]
  next hno => exact absurd rfl (hno z zi g hz hzi)

theorem stableClear_free {f : Int} {g : Option Int} (h : ∀ k, d.exe.stage ≠ .zerWait k) :
    stableClear r f g d = updateBaseline d.zsu.window (track r f g d) := by
  simp only [stableClear, zerWaiting_false h, Bool.false_eq_true, if_false]

theorem stableClear_sets {f z zi : Int} {g : Option Int} {k : Nat} (hexe : d.exe = ⟨some .zer, .zerWait k⟩) (hz : d.zsu.z = some z)
    (hzi : d.zsu.zInit = some zi) (hf : (f - zi).natAbs ≤ 4 * r.max) :
    stableClear r f g d = endedWith '=' .zer [tSetWord, tHundredths (f - z)] (updateBaseline d.zsu.window
      { d with zsu := { d.zsu with window := [], z := some f, trackLimit := false } }) := by
  have hw : zerWaiting d = true := (zerWaiting_iff d).2 ⟨k, by rw [hexe]⟩
  have hin : within f zi (4 * r.max) = true := (within_iff _ _ _).2 hf
  have hslot : (setOperatingZero f d).exe.slot = some .zer := congrArg Exe.slot hexe
  unfold stableClear
  rw [if_pos hw]
  split
  next zi' hzi' =>
    obtain rfl : zi = zi' := Option.some.inj (hzi.symm.trans hzi')
    rw [if_pos hin, complete_eq _ hslot, updateBaseline_eq, updateBaseline_eq, basedOn_eq, basedOn_eq, hz]
    rfl
  next hno => exact absurd (hzi.symm.trans hno) (Option.some_ne_none _)

theorem stableClear_beyond {f zi : Int} {g : Option Int} {k : Nat} (hexe : d.exe = ⟨some .zer, .zerWait k⟩)
    (hzi : d.zsu.zInit = some zi) (hf : 4 * r.max < (f - zi).natAbs) :
    stableClear r f g d = updateBaseline d.zsu.window (track r f g (endedWith '#' .zer [['Z', 'R', 'G']] d)) := by
  have hw : zerWaiting d = true := (zerWaiting_iff d).2 ⟨k, by rw [hexe]⟩
  have hout : ¬ within f zi (4 * r.max) = true := fun h => Nat.not_le.2 hf ((within_iff _ _ _).1 h)
  simp only [stableClear, hw, if_true, hzi, hout, failWith_eq (g := .zer) _ _ (by rw [hexe])]
  rfl

/-- With the lane CLEAR and zero SET a STABLE sample moves Z or ends a ZER, and takes the baseline (R52 to R55). -/
theorem stableClear_spec {f z zi g : Int} (hset : d.zsu.set = true) (hz : d.zsu.z = some z) (hzi : d.zsu.zInit = some zi)
    (based : Device → Device)
    (hbased : based = basedOn d (roundDiv ((d.zsu.window.map fun e => e.m1.getD 0).sum) d.zsu.window.length))
    (tracked : Device → Device) (htracked : tracked = trackedTo (trackStep r) f z zi (4 * r.max)) :
    ((∀ k, d.exe.stage ≠ .zerWait k) →
      ((d.mst.run = none ∧ 2 * g.natAbs ≤ 100 * r.d) → stableClear r f (some g) d = based (tracked d)) ∧
      (¬ (d.mst.run = none ∧ 2 * g.natAbs ≤ 100 * r.d) → stableClear r f (some g) d = based d)) ∧
    (∀ k, d.exe = ⟨some .zer, .zerWait k⟩ →
      ((f - zi).natAbs ≤ 4 * r.max → stableClear r f (some g) d = endedWith '=' .zer [tSetWord, tHundredths (f - z)]
        (based { d with zsu := { d.zsu with window := [], z := some f, trackLimit := false } })) ∧
      (4 * r.max < (f - zi).natAbs →
        ((d.mst.run = none ∧ 2 * g.natAbs ≤ 100 * r.d) →
          stableClear r f (some g) d = based (tracked (endedWith '#' .zer [['Z', 'R', 'G']] d))) ∧
        (¬ (d.mst.run = none ∧ 2 * g.natAbs ≤ 100 * r.d) →
          stableClear r f (some g) d = based (endedWith '#' .zer [['Z', 'R', 'G']] d)))) := by
  subst hbased htracked
  refine ⟨fun hk => ?_, fun k hk => ⟨fun hf => ?_, fun hf => ?_⟩⟩
  · rw [stableClear_free hk, updateBaseline_eq, track_eq hset hz hzi]
    exact ⟨fun h => (congrArg (fun x => basedOn x _ x) (if_pos h) :), fun h => (congrArg (fun x => basedOn x _ x) (if_neg h) :)⟩
  · rw [stableClear_sets hk hz hzi hf, updateBaseline_eq]
    rfl
  · rw [stableClear_beyond hk hzi hf, updateBaseline_eq, track_eq (d := endedWith '#' .zer [['Z', 'R', 'G']] d) hset hz hzi]
    exact ⟨fun h => (congrArg (fun x => basedOn x _ x) (if_pos h) :), fun h => (congrArg (fun x => basedOn x _ x) (if_neg h) :)⟩

end

/-! ### The hand-over of the sample (R12, R40) -/

/-- The last quiet wait's end completes the cycle, and its record goes to its readers (R12). -/
theorem quietWaitEnd_hands {l : Ix} {c : Cycle} {s : State} (hrun : running s.dev = true) (hq : (lineOf s.dev l).phase = .quiet)
    (hc : s.dev.clc.cycle = some c) (hh : c.handed = false) (hun : ∀ k, unpolled s.dev k = [])
    (hother : ∀ k, k ≠ l → (lineOf s.dev k).phase ≠ .quiet) :
    let d0 := { s.dev with clc := { s.dev.clc with
      lines := s.dev.clc.lines.set l { lineOf s.dev l with phase := .idle }, cycle := some { c with handed := true } } }
    let sr : SampleRecord := ⟨c.index, c.latch, Slots.tab (slotSample s.dev)⟩
    Machine.quietWaitEnd l s.nv s.dev = mstRecord sr (weightRecord s.nv sr d0) := by
  intro d0 sr
  have hon : (running s.dev && (lineOf s.dev l).phase == .quiet) = true := by
    rw [hrun, hq]
    rfl
  have hidle : nextPhase s.dev l = .idle := by
    rw [nextPhase, hun l]
    rfl
  have hcomplete : cycleComplete (storeLine l { lineOf s.dev l with phase := .idle } s.dev) = true := by
    refine List.all_eq_true.2 fun k _ => ?_
    have hunk : unpolled (storeLine l { lineOf s.dev l with phase := .idle } s.dev) k = [] := hun k
    rw [hunk, lineOf_storeLine]
    by_cases hk : k = l
    · rw [if_pos hk]
      rfl
    · rw [if_neg hk, Bool.and_eq_true]
      exact ⟨rfl, bne_iff_ne.2 (hother k hk)⟩
  have hcycle : (storeLine l { lineOf s.dev l with phase := .idle } s.dev).clc.cycle = some c := hc
  unfold Machine.quietWaitEnd
  rw [if_pos hon, lineGoesOn, hidle, handSample]
  simp only [hcycle, hh, hcomplete, Bool.not_false, Bool.and_self, if_true]
  rfl

/-- Settles O55: the hand-over, and what the record does by the state of zero, the lane and ZER. -/
theorem stableSample : Obligations.StableSample := by
  refine ⟨fun l c s hrun hq hc hh hun hother => ?_, fun nv before wr d hcap => ?_⟩
  · intro d0
    refine ⟨⟨c.index, c.latch, Slots.tab (slotSample s.dev)⟩, rfl, rfl, fun i => ?_, ?_⟩
    · exact Slots.sel_tab _ _
    · exact congrArg (fun d => Host.Outcome.next (becomes s d)) (quietWaitEnd_hands hrun hq hc hh hun hother)
  · have hslots : captureSlots before wr d = d := captureSlots_free hcap
    refine ⟨fun h => ?_, fun r h => ?_⟩
    · rw [zsuRecord_none (by rw [hslots]; exact h), hslots]
    · intro w still
      refine ⟨fun hs => ?_, fun f z hf hs hz => ?_⟩
      · rw [zsuRecord_restless (r := r) (by rw [hslots]; exact h) (by rw [hslots]; exact hs), hslots]
      · have hcaps : captureStable nv r wr still = still := captureStable_free hcap
        have hzsu : zsuRecord nv before wr d = stableActs nv r wr f still := by
          rw [zsuRecord_still (r := r) (by rw [hslots]; exact h) hf (by rw [hslots]; exact hs), hslots]
        rw [hzsu, stableActs, hcaps]
        have hzs : still.zsu.z = some z := hz
        refine ⟨fun hset hl => ?_, fun hset hl => ?_, fun zi g hset hl hzi hg => ?_⟩
        · have hno : ¬ still.zsu.set = true := by
            show ¬ d.zsu.set = true
            rw [hset]
            exact Bool.false_ne_true
          rw [if_neg hno]
          refine ⟨fun hr => stableUnset_run (d := still) hr, fun hr hf => stableUnset_beyond (d := still) hr hf, fun hr hf => ?_⟩
          intro zeroed told
          have htold : told = zeroTold f z still := by
            show (match d.exe.stage with
              | .zerWait _ => endedWith '=' .zer [tSetWord, tHundredths (f - z)] zeroed
              | _ => zeroed) = match d.exe.stage with
              | .zerWait _ => endedWith '=' .zer [tSetWord, tHundredths (f - z)] (zeroedAt f still)
              | _ => zeroedAt f still
            cases d.exe.stage <;> rfl
          obtain ⟨hlsv, hzsuT, hnow, hcapT, hzerT, hrunT⟩ := zeroTold_same f z still
          have hlane : (zeroTold f z still).lsv.lane = .init := (congrArg Lsv.lane hlsv).trans hl
          rw [htold]
          refine ⟨fun hslot hb => ?_, fun hslot hb => ?_⟩
          · rw [stableUnset_sets (d := still) hr hf hzs hslot]
            exact laneZeroSet_clear hlane (hcapT hcap) ((congrArg (fun x : Lsv => x.beamIn.state) hlsv).trans hb)
          · rw [stableUnset_sets (d := still) hr hf hzs hslot]
            obtain ⟨h1, h2, ⟨p, hp, hnum, hcause, hat⟩, h4⟩ := laneZeroSet_entering hlane
              ((congrArg (fun x : Lsv => x.beamIn.state) hlsv).trans hb) (hcapT hcap) hzerT
            exact ⟨h1.trans hzsuT, h2, ⟨p, hp, hnum.trans (congrArg Lsv.nextPassage hlsv), hcause, hat.trans hnow⟩,
              fun hno => h4 (hrunT hno)⟩
        · exact (if_pos hset).trans (if_neg hl)
        · have hpos : 0 < w.length := by
            have hlen : (windowThen r wr d.zsu.window).length = max 2 (r.window / r.p) := hs.1
            have : 2 ≤ max 2 (r.window / r.p) := Nat.le_max_left _ _
            show 0 < (windowThen r wr d.zsu.window).length
            omega
          have hstep : Nearest ((100 * r.d * r.p : Nat) : Int) 2000 (trackStep r) := nearest_trackStep r
          have hmean : Nearest ((w.map fun e => e.m1.getD 0).sum) w.length (roundDiv ((w.map fun e => e.m1.getD 0).sum) w.length) :=
            nearest_roundDiv _ hpos
          refine ⟨trackStep r, roundDiv ((w.map fun e => e.m1.getD 0).sum) w.length, hstep, ?_, ?_⟩
          · exact hmean
          intro lo hi moved tracks based tracked
          have hgo : (if still.zsu.set = true then (if still.lsv.lane = .clear then stableClear r f wr.g still else still)
              else stableUnset r f still) = stableClear r f (some g) still := by
            rw [if_pos (show still.zsu.set = true from hset), if_pos (show still.lsv.lane = .clear from hl), hg]
          rw [hgo]
          exact stableClear_spec (d := still) hset hzs hzi based rfl tracked rfl

end Sys2Proof.Machine
end

section
/-! PROOF. How a weight record ends a capture wait (R57 to R60), and what its weighing begins. -/

namespace Sys2Proof.Machine

open Sys2Proof.Safety

section

variable {nv : NvStore} {before : Option WeightRecord} {wr : WeightRecord} {r : CalRecord} {d : Device} {g : Tag}

/-! ### Slots that leave (R58) -/

/-- A configured slot that was LIVE or HOLDING in the record before is neither now (R58). -/
def SlotLeaves (before : Option WeightRecord) (wr : WeightRecord) (d : Device) : Prop :=
  ∃ b, before = some b ∧ ∃ i, configured d i = true ∧ (b.states.sel i = .live ∨ b.states.sel i = .holding) ∧
    ¬ (wr.states.sel i = .live ∨ wr.states.sel i = .holding)

theorem slotLeft_iff (b : WeightRecord) : slotLeft d b wr = true ↔ ∃ i, configured d i = true ∧
    (b.states.sel i = .live ∨ b.states.sel i = .holding) ∧ ¬ (wr.states.sel i = .live ∨ wr.states.sel i = .holding) := by
  simp only [slotLeft, List.any_eq_true, SlotId.mem_all, true_and, Bool.and_eq_true, Bool.not_eq_true', Bool.or_eq_false_iff,
    Bool.or_eq_true, beq_iff_eq, beq_eq_false_iff_ne, not_or, and_assoc]

theorem captureSlots_left {c : CapCmd} {k : Nat} (hexe : d.exe = ⟨some g, .capWait c k⟩) (h : SlotLeaves before wr d) :
    captureSlots before wr d = endedWith '#' g [['C', 'E', 'L']] d := by
  obtain ⟨b, hb, hi⟩ := h
  have hst : d.exe.stage = .capWait c k := congrArg Exe.stage hexe
  unfold captureSlots
  rw [hst, hb]
  dsimp only
  rw [if_pos ((slotLeft_iff b).2 hi), failWith_eq (g := g) _ _ (congrArg Exe.slot hexe)]
  rfl

theorem captureSlots_stays (h : ¬ SlotLeaves before wr d) : captureSlots before wr d = d := by
  unfold captureSlots
  split
  next b _ => exact if_neg fun hl => h ⟨b, rfl, (slotLeft_iff b).1 hl⟩
  next => rfl

/-- Tracking and the baseline change the ZSU alone. -/
theorem stableClear_zsu {f : Int} {x : Option Int} (h : ∀ k, d.exe.stage ≠ .zerWait k) :
    stableClear r f x d = { d with zsu := (stableClear r f x d).zsu } := by
  rw [stableClear_free h, updateBaseline_eq, basedOn_eq]
  have htrack : track r f x d = { d with zsu := (track r f x d).zsu } := by
    unfold track
    split
    · split <;> rfl
    · rfl
  rw [htrack]

/-- A record that finds no wait, as far as the command in flight and the tables go. -/
theorem zsuRecord_ended (hst : d.exe.stage = .ended) (hslots : captureSlots before wr d = d) (hr : d.mst.active = some r)
    (hset : d.zsu.set = true) : (zsuRecord nv before wr d).exe = d.exe ∧ (zsuRecord nv before wr d).tx = d.tx ∧
      (zsuRecord nv before wr d).lsv = d.lsv ∧ (zsuRecord nv before wr d).txu = d.txu ∧ (zsuRecord nv before wr d).mst = d.mst ∧
      (zsuRecord nv before wr d).nvc = d.nvc := by
  by_cases hs : StillThen r (windowThen r wr d.zsu.window)
  · obtain ⟨f, hf⟩ := filtered_of_still hs
    rw [zsuRecord_still (r := r) (by rw [hslots]; exact hr) hf (by rw [hslots]; exact hs), hslots]
    have hcap : captureStable nv r wr (judgedAs (windowThen r wr d.zsu.window) true wr d) = judgedAs (windowThen r wr d.zsu.window) true wr d :=
      captureStable_free fun c k hk => absurd (hst.symm.trans hk) Stage.noConfusion
    rw [stableActs, hcap]
    split
    · split
      · rw [stableClear_zsu (d := judgedAs (windowThen r wr d.zsu.window) true wr d) fun k hk => absurd (hst.symm.trans hk) Stage.noConfusion]
        exact ⟨rfl, rfl, rfl, rfl, rfl, rfl⟩
      · exact ⟨rfl, rfl, rfl, rfl, rfl, rfl⟩
    next hno => exact absurd hset hno
  · rw [zsuRecord_restless (r := r) (by rw [hslots]; exact hr) (by rw [hslots]; exact hs), hslots]
    exact ⟨rfl, rfl, rfl, rfl, rfl, rfl⟩

theorem captureSlots_ended (b : Option WeightRecord) (x : WeightRecord) (hst : d.exe.stage = .ended) : captureSlots b x d = d :=
  captureSlots_free fun _ _ hk => absurd (hst.symm.trans hk) Stage.noConfusion

/-- A record whose capture ended CEL acts on as if no wait were in flight. -/
theorem zsuRecord_left (hslots : captureSlots before wr (captureSlots before wr d) = captureSlots before wr d) :
    zsuRecord nv before wr d = zsuRecord nv before wr (captureSlots before wr d) := by
  unfold zsuRecord
  rw [hslots]

/-! ### The weighing (R59, R60) -/

theorem visitSummary_eq (d : Device) (v : VisitRec) : visitSummary d v = visitGives d v := by
  have hgiven : visitSummary d v = (visitGiven d v).2 := rfl
  rw [hgiven, visitGiven_eq]
  simp only [visitGives, beq_eq_decide]
  cases v.summary with
  | some x => rfl
  | none =>
    dsimp only
    split_ifs with h
    · rfl
    · cases d.txu.owed.find? fun e => decide (e.visit = v.number) with
      | some e => rfl
      | none =>
        refine Eq.trans (b := attachmentInWrite d v.number) ?_ rfl
        cases attachmentInWrite d v.number <;> rfl

theorem attachmentOf_awaiting (d : Device) (v : VisitRec) : attachmentOf d v = .awaiting ↔
    v.summary = none ∧ ∃ e ∈ d.txu.awaiting, e.visit = v.number := by
  have hany : d.txu.awaiting.any (·.visit == v.number) = true ↔ ∃ e ∈ d.txu.awaiting, e.visit = v.number := by
    simp only [List.any_eq_true, beq_iff_eq]
  unfold attachmentOf
  cases v.summary with
  | some x => exact iff_of_false Attachment.noConfusion fun h => Option.some_ne_none _ h.1
  | none =>
    rw [if_neg (by decide)]
    by_cases h : ∃ e ∈ d.txu.awaiting, e.visit = v.number
    · rw [if_pos (hany.2 h)]
      exact iff_of_true rfl ⟨rfl, h⟩
    · rw [if_neg fun ha => h (hany.1 ha)]
      refine iff_of_false ?_ fun h' => h h'.2
      split <;> exact Attachment.noConfusion

/-- The record of a weight taken of the current passage (R59). -/
theorem captureStable_normal {c : CapCmd} {k : Nat} {kg : Int} (hst : d.exe.stage = .capWait c k) (hn : wr.wstate = .normal)
    (hw : wr.w = some kg) : captureStable nv r wr d =
      captureYields nv c (weighingOf r kg d) (if c.isTrade then pushRing (weighingOf r kg d) d else d) := by
  unfold captureStable
  rw [hst, hn, hw]

theorem captureStable_over {c : CapCmd} {k : Nat} (hexe : d.exe = ⟨some g, .capWait c k⟩) (hn : wr.wstate = .over) :
    captureStable nv r wr d = endedWith '#' g [['O', 'V', 'R']] d := by
  unfold captureStable
  rw [hexe, hn]
  exact failWith_eq (g := g) .ovr [] (congrArg Exe.slot hexe)

theorem captureStable_under {c : CapCmd} {k : Nat} (hexe : d.exe = ⟨some g, .capWait c k⟩) (hn : wr.wstate = .under) :
    captureStable nv r wr d = endedWith '#' g [['U', 'N', 'D']] d := by
  unfold captureStable
  rw [hexe, hn]
  exact failWith_eq (g := g) .und [] (congrArg Exe.slot hexe)

theorem pushRing_eq {w : Weighing} {p : Passage} (hp : d.lsv.current = some p) : pushRing w d = { d with lsv := { d.lsv with
    current := some { p with ring := (p.ring ++ [w]).drop ((p.ring ++ [w]).length - 4) } } } := by
  simp only [pushRing, hp]
  rfl

/-- A STABLE record with the vehicle on the deck ends the wait. -/
theorem zsuRecord_ends {w : List WinEntry} (hstays : ¬ SlotLeaves before wr d) (hr : d.mst.active = some r) (hset : d.zsu.set = true)
    (hw : w = windowThen r wr d.zsu.window) (hs : StillThen r w) (hl : d.lsv.lane = .onDeck) :
    zsuRecord nv before wr d = captureStable nv r wr (judgedAs w true wr d) := by
  subst hw
  have hslots := captureSlots_stays hstays
  obtain ⟨f, hf⟩ := filtered_of_still hs
  rw [zsuRecord_still (r := r) (by rw [hslots]; exact hr) hf (by rw [hslots]; exact hs), hslots, stableActs]
  have hzero := (captureStable_zero nv r wr (judgedAs (windowThen r wr d.zsu.window) true wr d)).1
  rw [if_pos (by rw [hzero]; exact hset), if_neg (by show ¬ d.lsv.lane = .clear; rw [hl]; decide)]

/-! ### What the weighing begins (R115, R125, R136 to R142, R173) -/

theorem makePoint_eq (load : Nat) (w : Weighing) : makePoint load w = ⟨load, w, w.weight - load,
    if load ≤ 500 * w.d then w.d else if load ≤ 2000 * w.d then 2 * w.d else 3 * w.d,
    decide ((w.weight - load).natAbs ≤ if load ≤ 500 * w.d then w.d else if load ≤ 2000 * w.d then 2 * w.d else 3 * w.d)⟩ := by
  have hpass : decide (absInt (w.weight - load) ≤ (permissibleError load w.d : Int)) = decide ((w.weight - load).natAbs ≤ permissibleError load w.d) := by
    rw [decide_eq_decide, absInt, Int.ofNat_le]
  simp only [makePoint, hpass]
  rfl

theorem addPoint_eq {load : Nat} {w : Weighing} {points : List Point} (hv : d.mst.verif = some points) (hg : d.exe.slot = some g) :
    let mpe := if load ≤ 500 * w.d then w.d else if load ≤ 2000 * w.d then 2 * w.d else 3 * w.d
    let pass := decide ((w.weight - load).natAbs ≤ mpe)
    addPoint load w d = endedWith '=' g [tNat (points.length + 1), tNat load, tInt w.weight, tInt (w.weight - load), tNat mpe,
      if pass then tPass else tFail] { d with mst := { d.mst with verif := some (points ++ [⟨load, w, w.weight - load, mpe, pass⟩]) } } := by
  intro mpe pass
  simp only [addPoint, hv, makePoint_eq]
  exact complete_eq (g := g) _ hg

theorem openVisit_writes {ref : Text} {dir : Direction} {w : Weighing} {slot n : Nat} (hn : findVisit d d.txu.nextVisit = none)
    (hslot : firstPlace (visitSlotFree d) 48 = some slot) (hq : QueueServed d) (hp : w.passage = some n) : openVisit nv ref dir w d =
      atStage (.wg1Write slot ⟨d.txu.nextVisit, ref, dir, w.time, w, none⟩)
        (requested ⟨.longOp, visitWrite nv slot (some ⟨d.txu.nextVisit, ref, dir, w.time, w, none⟩)⟩ { d with txu := { d.txu with
          nextVisit := if d.txu.nextVisit ≥ 65535 then 1 else d.txu.nextVisit + 1
          awaiting := d.txu.awaiting ++ [⟨d.txu.nextVisit, n⟩] } }) := by
  have hnum : freeVisitNumber d (Config.visitSlots + 1) d.txu.nextVisit = d.txu.nextVisit := by
    rw [freeVisitNumber, hn]
    rfl
  have hslot' : firstPlace (visitSlotFree d) Config.visitSlots = some slot := hslot
  simp only [openVisit, hnum, hslot', hp, Option.getD_some, nextNumber_eq, setStage_eq]
  rw [request_eq]
  exact hq

theorem openVisit_full {ref : Text} {dir : Direction} {w : Weighing} (hn : findVisit d d.txu.nextVisit = none)
    (hslot : firstPlace (visitSlotFree d) 48 = none) (hg : d.exe.slot = some g) : openVisit nv ref dir w d =
      endedWith '#' g [['T', 'B', 'L']] { d with txu := { d.txu with
        nextVisit := if d.txu.nextVisit ≥ 65535 then 1 else d.txu.nextVisit + 1 } } := by
  have hnum : freeVisitNumber d (Config.visitSlots + 1) d.txu.nextVisit = d.txu.nextVisit := by
    rw [freeVisitNumber, hn]
    rfl
  have hslot' : firstPlace (visitSlotFree d) Config.visitSlots = none := hslot
  simp only [openVisit, hnum, hslot', nextNumber_eq]
  exact failWith_eq (g := g) _ _ hg

theorem storeStaticTare_negative {ref : Text} {days : Nat} {w : Weighing} (h : w.weight < 0) (hg : d.exe.slot = some g) :
    storeStaticTare nv ref days w d = endedWith '#' g [['R', 'N', 'G']] d := by
  rw [storeStaticTare, if_pos h]
  exact failWith_eq (g := g) _ _ hg

theorem storeStaticTare_writes {ref : Text} {days slot : Nat} {w : Weighing} (h : 0 ≤ w.weight) (hq : QueueServed d)
    (hslot : (∃ old, findTare d ref = some (slot, old)) ∨ (findTare d ref = none ∧ firstPlace (tareSlotFree d) 64 = some slot)) :
    storeStaticTare nv ref days w d = atStage (.tareWrite .trs slot
      (some ⟨ref, w.weight, .static, w.d, w.counter, w.time, d.nvc.clock, days⟩) ref (findTare d ref).isSome)
      (requested ⟨.longOp, tareWrite nv slot (some ⟨ref, w.weight, .static, w.d, w.counter, w.time, d.nvc.clock, days⟩)⟩ d) := by
  have hfor : tareSlotFor d ref = some slot := by
    obtain ⟨old, hold⟩ | ⟨hnone, hfree⟩ := hslot
    · exact tareSlotFor_held hold
    · rw [tareSlotFor_free hnone, hfree]
  rw [storeStaticTare, if_neg (not_lt.2 h), storeTare_write hfor hq]

theorem beginAxleWait_eq (x : Draft) (n : Nat) (d : Device) :
    beginAxleWait x n d = atStage (.axleWait x n (d.now + 1000 * d.nvc.settings.axw)) d := by
  rw [beginAxleWait, setStage_eq, Nat.mul_comm 1000]

theorem heavyIsA_true {a b : Weighing} {e : Bool} (h : b.weight < a.weight ∨ (a.weight = b.weight ∧ e = true)) : heavyIsA e a b = true := by
  unfold heavyIsA
  obtain h | ⟨h, he⟩ := h
  · rw [if_pos h]
  · rw [h, if_neg (lt_irrefl _), if_neg (lt_irrefl _), he]

theorem heavyIsA_false {a b : Weighing} {e : Bool} (h : a.weight < b.weight ∨ (a.weight = b.weight ∧ e = false)) : heavyIsA e a b = false := by
  unfold heavyIsA
  obtain h | ⟨h, he⟩ := h
  · rw [if_neg (not_lt.2 h.le), if_pos h]
  · rw [h, if_neg (lt_irrefl _), if_neg (lt_irrefl _), he]

end

/-- Settles O56: a slot that leaves, OVR and UND, and what the weighing of each command begins. -/
theorem captureEnds : Obligations.CaptureEnds := by
  intro nv before wr c k g r d hexe hr hset t w there left
  have hleft : left ↔ SlotLeaves before wr d := Iff.rfl
  have hst : d.exe.stage = .capWait c k := congrArg Exe.stage hexe
  have hslot : d.exe.slot = some g := congrArg Exe.slot hexe
  refine ⟨fun h => ?_, fun h hs => ?_, fun h hs hl => ?_⟩
  · have hcel := captureSlots_left hexe (hleft.1 h)
    have hended : (captureSlots before wr d).exe.stage = .ended := by rw [hcel]; rfl
    have hsame := captureSlots_ended before wr hended
    obtain ⟨h1, h2, h3, h4, h5, h6⟩ := zsuRecord_ended (nv := nv) (r := r) hended hsame (by rw [hcel]; exact hr) (by rw [hcel]; exact hset)
    rw [← zsuRecord_left hsame] at h1 h2 h3 h4 h5 h6
    rw [hcel] at h1 h2 h3 h4 h5 h6
    refine ⟨h1.trans ?_, (congrArg Tx.longs h2 :), h3, h4, h5, h6⟩
    exact congrArg (fun o => Exe.mk o .ended) hslot
  · have hslots := captureSlots_stays (fun hl => h (hleft.2 hl))
    show zsuRecord nv before wr d = _
    rw [zsuRecord_restless (r := r) (by rw [hslots]; exact hr) (by rw [hslots]; exact hs), hslots]
  · intro still
    have hends : t = captureStable nv r wr still := zsuRecord_ends (fun hl => h (hleft.2 hl)) hr hset rfl hs hl
    refine ⟨fun hn => hends.trans (captureStable_over hexe hn), fun hn => hends.trans (captureStable_under hexe hn),
      fun kg p hn hw hp => ?_⟩
    intro x ring taken until'
    have hx : weighingOf r kg still = x := by
      show Weighing.mk kg r.d (some r.counter) d.nvc.clock (d.lsv.current.map (·.number)) .static = x
      rw [hp]
      rfl
    have hpush : pushRing x still = taken := pushRing_eq (d := still) hp
    have hyield : t = captureYields nv c x (if c.isTrade then taken else still) := by
      rw [hends, captureStable_normal (d := still) hst hn hw, hx, hpush]
    have hwait (y : Draft) : issue nv y x.passage taken = atStage (.axleWait y p.number until') taken :=
      beginAxleWait_eq y p.number taken
    refine ⟨fun load points hc hv => ?_, fun ref dir slot hc hno hfree hq => ?_, fun ref dir hc hno hfull => ?_, fun ref days hc hneg => ?_,
      fun ref days slot hc hpos hq hs' => ?_, fun ref hc => ?_, fun ref e hc hle => ?_, fun n slot v hc hv hlight => ?_,
      fun ref e hc hlt hq => ?_, fun n slot v hc hv hheavy => ?_⟩
    all_goals subst hc
    · intro mpe pass
      exact hyield.trans (addPoint_eq (d := still) (w := x) hv hslot)
    · exact hyield.trans (openVisit_writes (d := taken) (w := x) hno hfree hq rfl)
    · exact hyield.trans (openVisit_full (d := taken) hno hfull hslot)
    · exact hyield.trans (storeStaticTare_negative (d := taken) (w := x) hneg hslot)
    · exact hyield.trans (storeStaticTare_writes (d := taken) (w := x) hpos hq hs')
    · exact hyield.trans (hwait _)
    · refine hyield.trans ?_
      have hheavy : heavyIsA true x (tareWeighing e) = true :=
        heavyIsA_true ((lt_or_eq_of_le hle).imp id fun h => ⟨h.symm, rfl⟩)
      show issueOnePass nv ref e x taken = _
      rw [issueOnePass, hheavy]
      exact hwait _
    · refine hyield.trans ?_
      have hheavy : heavyIsA (expectA v.dir) v.first x = false :=
        heavyIsA_false (hlight.imp id fun ⟨h, hd⟩ => ⟨h, by rw [hd]; rfl⟩)
      have hv' : findVisit taken n = some (slot, v) := hv
      show (match findVisit taken n with
        | some (_, v) => issueTicket nv v x taken
        | none => failWith .vnf [] taken) = _
      rw [hv']
      show issueTicket nv v x taken = _
      rw [issueTicket, hheavy]
      exact hwait _
    · refine hyield.trans ?_
      have hlight : heavyIsA true x (tareWeighing e) = false := heavyIsA_false (.inl hlt)
      show issueOnePass nv ref e x taken = _
      rw [issueOnePass, hlight]
      exact makeRecord_eq (d := taken) hq
    · intro awaits
      have hheavy' : heavyIsA (expectA v.dir) v.first x = true :=
        heavyIsA_true (hheavy.imp id fun ⟨h, hd⟩ => ⟨h, by rw [hd]; rfl⟩)
      have hv' : findVisit taken n = some (slot, v) := hv
      have htaken : t = issueTicket nv v x taken := by
        rw [hyield]
        show (match findVisit taken n with
          | some (_, v) => issueTicket nv v x taken
          | none => failWith .vnf [] taken) = _
        rw [hv']
      have hawait : attachmentOf taken v = .awaiting ↔ awaits := attachmentOf_awaiting taken v
      rw [issueTicket, hheavy', if_pos rfl] at htaken
      refine ⟨fun hno hq => ?_, fun q ha hq => ?_⟩
      · rw [if_neg fun h => hno (hawait.1 h), visitSummary_eq] at htaken
        exact htaken.trans (makeRecord_eq (d := taken) hq)
      · rw [if_pos (hawait.2 ha), hq] at htaken
        exact htaken.trans (beginAxleWait_eq _ q taken)

end Sys2Proof.Machine
end

section
/-! PROOF. The end of a write (R185, R188): its one target, the counts of the error report, and what every report leaves alone. -/

namespace Sys2Proof.Machine

open Sys2Proof.Safety

/-! ### What a report leaves alone -/

/-- The sample time and the counts of writes passed and failed are the same. -/
abbrev CountSame (a b : Device) : Prop :=
  a.now = b.now ∧ a.nvc.report.passed = b.nvc.report.passed ∧ a.nvc.report.nvf = b.nvc.report.nvf

theorem CountSame.trans {a b c : Device} (h : CountSame a b) (k : CountSame b c) : CountSame a c :=
  ⟨h.1.trans k.1, h.2.1.trans k.2.1, h.2.2.trans k.2.2⟩

theorem CountSame.foldl {α : Type} {f : Device → α → Device} (h : ∀ d x, CountSame (f d x) d) (l : List α) (d : Device) :
    CountSame (l.foldl f d) d := by
  induction l generalizing d with
  | nil => exact ⟨rfl, rfl, rfl⟩
  | cons x l ih => exact (ih (f d x)).trans (h d x)

@[simp] theorem joinReplies_counts (r : Text) (d : Device) : CountSame (joinReplies r d) d := by
  unfold joinReplies; split <;> simp [CountSame]

@[simp] theorem reply_counts (lead : Char) (tag : Text) (fields : List Text) (d : Device) :
    CountSame (reply lead tag fields d) d := joinReplies_counts _ d

@[simp] theorem answer_counts (t : Tag) (fields : List Text) (d : Device) : CountSame (answer t fields d) d := reply_counts _ _ _ d

@[simp] theorem sendLong_counts (lead : Char) (tag : Text) (fields : List Text) (d : Device) :
    CountSame (sendLong lead tag fields d) d := ⟨rfl, rfl, rfl⟩

@[simp] theorem setStage_counts (st : Stage) (d : Device) : CountSame (setStage st d) d := ⟨rfl, rfl, rfl⟩

@[simp] theorem complete_counts (fields : List Text) (d : Device) : CountSame (complete fields d) d := ⟨rfl, rfl, rfl⟩

@[simp] theorem failWith_counts (c : Code) (detail : List Text) (d : Device) : CountSame (failWith c detail d) d := ⟨rfl, rfl, rfl⟩

@[simp] theorem raise_counts (c : Notice) (d : Device) : CountSame (raise c d) d := by
  unfold raise; split <;> simp [CountSame]

@[simp] theorem startWrite_counts (d : Device) : CountSame (startWrite d) d := by
  unfold startWrite; repeat' split
  all_goals simp [CountSame]

@[simp] theorem request_counts (r : WriteReq) (d : Device) : CountSame (request r d) d := by simp [request, CountSame]

@[simp] theorem requestStatus_counts (nv : NvStore) (rec : StatusRec) (forLong : Bool) (d : Device) :
    CountSame (requestStatus nv rec forLong d) d := by
  unfold requestStatus; split <;> simp [CountSame]

@[simp] theorem appendRefused_counts (nv : NvStore) (d : Device) : CountSame (appendRefused nv d) d := by
  unfold appendRefused; dsimp only; repeat' split
  all_goals simp [CountSame]

@[simp] theorem append_counts (nv : NvStore) (src : Requester) (body : AuditBody) (counter : Option Nat) (d : Device) :
    CountSame (append nv src body counter d) d := by
  unfold append; split <;> simp [CountSame]

@[simp] theorem requestDiscard_counts (nv : NvStore) (d : Device) : CountSame (requestDiscard nv d) d := by
  unfold requestDiscard; split <;> simp [CountSame]

@[simp] theorem submitHeld_counts (nv : NvStore) (d : Device) (x2 : HeldReq) : CountSame (submitHeld nv d x2) d := by
  unfold submitHeld; split <;> simp [CountSame]

@[simp] theorem releaseHeld_counts (nv : NvStore) (d : Device) : CountSame (releaseHeld nv d) d := by
  unfold releaseHeld
  exact .foldl (fun d x => by simp [CountSame]) _ _

@[simp] theorem syncOwed_counts (d : Device) : CountSame (syncOwed d) d := ⟨rfl, rfl, rfl⟩

@[simp] theorem requestFreeing_counts (nv : NvStore) (x1 : Nat) (x2 : Device) : CountSame (requestFreeing nv x1 x2) x2 := by
  induction x1 generalizing x2 with
  | zero => exact ⟨rfl, rfl, rfl⟩
  | succ n ih =>
    unfold requestFreeing; repeat' split
    all_goals simp [ih, CountSame]

@[simp] theorem requestOwed_counts (nv : NvStore) (x1 : Nat) (x2 : Device) : CountSame (requestOwed nv x1 x2) x2 := by
  induction x1 generalizing x2 with
  | zero => exact ⟨rfl, rfl, rfl⟩
  | succ n ih =>
    unfold requestOwed; repeat' split
    all_goals simp [ih, CountSame]

@[simp] theorem requestAttachments_counts (nv : NvStore) (d : Device) :
    CountSame (requestAttachments nv d) d := by simp [requestAttachments, CountSame]

@[simp] theorem dropAttachment_counts (visit : Nat) (d : Device) : CountSame (dropAttachment visit d) d := ⟨rfl, rfl, rfl⟩

@[simp] theorem requestJournal_counts (rec : JournalRec) (d : Device) :
    CountSame (requestJournal rec d) d := by simp [requestJournal, CountSame]

@[simp] theorem makeOwn_counts (nv : NvStore) (x1 : Draft) (d : Device) : CountSame (makeOwn nv x1 d) d := by simp [makeOwn, CountSame]

@[simp] theorem makeRecord_counts (nv : NvStore) (x1 : Draft) (d : Device) : CountSame (makeRecord nv x1 d) d := by
  unfold makeRecord; split <;> simp [CountSame]

@[simp] theorem passageClosed_counts (nv : NvStore) (n : Nat) (d : Device) : CountSame (passageClosed nv n d) d := by
  unfold passageClosed; dsimp only; repeat' split
  all_goals simp [CountSame]

@[simp] theorem requestFree_counts (nv : NvStore) (x1 : Draft) (rec : JournalRec) (slot : Nat) (second : Bool) (d : Device) :
    CountSame (requestFree nv x1 rec slot second d) d := by
  unfold requestFree; split <;> simp [CountSame]

@[simp] theorem releaseFree_counts (nv : NvStore) (d : Device) : CountSame (releaseFree nv d) d := by
  unfold releaseFree; split <;> simp [CountSame]

@[simp] theorem freeVisitOf_counts (nv : NvStore) (x1 : Draft) (rec : JournalRec) (d : Device) : CountSame (freeVisitOf nv x1 rec d) d := by
  unfold freeVisitOf; dsimp only; repeat' split
  all_goals simp [CountSame]

@[simp] theorem raiseJournal_counts (nv x1 : NvStore) (d : Device) : CountSame (raiseJournal nv x1 d) d := by
  unfold raiseJournal; dsimp only; repeat' split
  all_goals simp [CountSame]

@[simp] theorem laneWaits_counts (d : Device) : CountSame (laneWaits d) d := by
  unfold laneWaits; dsimp only; repeat' split
  all_goals simp [CountSame]

@[simp] theorem setLane_counts (l : Lane) (d : Device) : CountSame (setLane l d) d := by
  unfold setLane; split <;> simp [CountSame]

@[simp] theorem evalTimers_counts (t : Nat) (d : Device) : CountSame (evalTimers t d) d := ⟨rfl, rfl, rfl⟩

@[simp] theorem stopSettle_counts (d : Device) : CountSame (stopSettle d) d := ⟨rfl, rfl, rfl⟩

@[simp] theorem openPassage_counts (cause : OpenCause) (t : Nat) (d : Device) :
    CountSame (openPassage cause t d) d := ⟨rfl, rfl, rfl⟩

@[simp] theorem pushHistory_counts (p : Passage) (d : Device) : CountSame (pushHistory p d) d := ⟨rfl, rfl, rfl⟩

@[simp] theorem closePassage_counts (nv : NvStore) (cause : CloseCause) (t : Nat) (d : Device) : CountSame (closePassage nv cause t d) d := by
  unfold closePassage; split <;> simp [CountSame]

@[simp] theorem enterPassage_counts (cause : OpenCause) (t : Nat) (d : Device) :
    CountSame (enterPassage cause t d) d := by simp [enterPassage, CountSame]

@[simp] theorem tailgate_counts (nv : NvStore) (t : Nat) (d : Device) : CountSame (tailgate nv t d) d := by
  simp [tailgate, CountSame]

@[simp] theorem settleExpires_counts (d : Device) : CountSame (settleExpires d) d := by simp [settleExpires, CountSame]

@[simp] theorem clearExpires_counts (nv : NvStore) (t : Nat) (d : Device) :
    CountSame (clearExpires nv t d) d := by simp [clearExpires, CountSame]

@[simp] theorem laneCommit_counts (nv : NvStore) (d : Device) : CountSame (laneCommit nv d) d := by simp [laneCommit, CountSame]

@[simp] theorem timersUnderNewSettings_counts (nv : NvStore) (d : Device) : CountSame (timersUnderNewSettings nv d) d := by
  unfold timersUnderNewSettings; dsimp only; repeat' split
  all_goals simp [CountSame]

@[simp] theorem csuCommit_counts (d : Device) : CountSame (csuCommit d) d := ⟨rfl, rfl, rfl⟩

@[simp] theorem zsuCommit_counts (d : Device) : CountSame (zsuCommit d) d := ⟨rfl, rfl, rfl⟩

@[simp] theorem storeSlot_counts (i : SlotId) (s : Slot) (d : Device) : CountSame (storeSlot i s d) d := ⟨rfl, rfl, rfl⟩

@[simp] theorem requestMismatch_counts (nv : NvStore) (i : SlotId) (d : Device) :
    CountSame (requestMismatch nv i d) d := by simp [requestMismatch, CountSame]

@[simp] theorem enterMismatch_counts (nv : NvStore) (i : SlotId) (d : Device) : CountSame (enterMismatch nv i d) d := by
  unfold enterMismatch; split <;> simp [CountSame]

@[simp] theorem putSlot_counts (nv : NvStore) (i : SlotId) (s : Slot) (d : Device) : CountSame (putSlot nv i s d) d := by
  unfold putSlot; dsimp only; repeat' split
  all_goals simp [CountSame]

@[simp] theorem mapSlots_counts (nv : NvStore) (f : SlotId → Slot → Slot) (is : List SlotId) (d : Device) :
    CountSame (mapSlots nv f is d) d := by
  unfold mapSlots; exact .foldl (fun d i => by simp [CountSame]) is d

@[simp] theorem clcCommit_counts (nv : NvStore) (d : Device) : CountSame (clcCommit nv d) d := by
  unfold clcCommit; simp [CountSame]

@[simp] theorem clcNewHold_counts (nv : NvStore) (d : Device) : CountSame (clcNewHold nv d) d := by
  unfold clcNewHold; simp [CountSame]

@[simp] theorem discardRun_counts (nv : NvStore) (d : Device) : CountSame (discardRun nv d) d := by simp [discardRun, CountSame]

@[simp] theorem blocksCommit_counts (nv : NvStore) (d : Device) : CountSame (blocksCommit nv d) d := by simp [blocksCommit, CountSame]

@[simp] theorem installRecord_counts (nv : NvStore) (r : CalRecord) (d : Device) :
    CountSame (installRecord nv r d) d := by simp [installRecord, CountSame]

@[simp] theorem loseRecord_counts (nv : NvStore) (d : Device) : CountSame (loseRecord nv d) d := by simp [loseRecord, CountSame]

@[simp] theorem putVisit_counts (slot : Nat) (v : VisitRec) (d : Device) : CountSame (putVisit slot v d) d := ⟨rfl, rfl, rfl⟩

@[simp] theorem eraseVisit_counts (slot : Nat) (d : Device) : CountSame (eraseVisit slot d) d := ⟨rfl, rfl, rfl⟩

@[simp] theorem putTare_counts (slot : Nat) (c : Option TareEntry) (d : Device) : CountSame (putTare slot c d) d := by
  unfold putTare; split <;> simp [CountSame]

@[simp] theorem tareDone_counts (ok : Bool) (slot : Nat) (c : Option TareEntry) (ref : Text) (replaced : Bool) (d : Device) :
    CountSame (tareDone ok slot c ref replaced d) d := by
  unfold tareDone; split <;> simp [CountSame]

@[simp] theorem wg1Done_counts (nv : NvStore) (ok : Bool) (slot : Nat) (v : VisitRec) (d : Device) : CountSame (wg1Done nv ok slot v d) d := by
  unfold wg1Done; split <;> simp [CountSame]

@[simp] theorem owedTornDone_counts (nv x1 : NvStore) (ok : Bool) (x3 : Draft) (d : Device) : CountSame (owedTornDone nv x1 ok x3 d) d := by
  unfold owedTornDone; split <;> simp [CountSame]

@[simp] theorem recordDone_counts (nv x1 : NvStore) (ok : Bool) (x3 : Draft) (rec : JournalRec) (d : Device) :
    CountSame (recordDone nv x1 ok x3 rec d) d := by
  unfold recordDone; split <;> simp [CountSame]

@[simp] theorem tornDone_counts (nv x1 : NvStore) (ok : Bool) (x3 : Draft) (n : Nat) (d : Device) :
    CountSame (tornDone nv x1 ok x3 n d) d := by
  unfold tornDone; split <;> simp [CountSame]

@[simp] theorem freeingDone_counts (nv : NvStore) (ok : Bool) (x2 : Draft) (rec : JournalRec) (slot : Nat) (second : Bool) (d : Device) :
    CountSame (freeingDone nv ok x2 rec slot second d) d := by
  unfold freeingDone; repeat' split
  all_goals simp [CountSame]

@[simp] theorem exportDone_counts (nv : NvStore) (ok : Bool) (n : Nat) (d : Device) : CountSame (exportDone nv ok n d) d := by
  unfold exportDone; split <;> simp [CountSame]

@[simp] theorem settingsDone_counts (nv : NvStore) (ok : Bool) (new : Settings) (d : Device) : CountSame (settingsDone nv ok new d) d := by
  unfold settingsDone; split <;> simp [CountSame]

@[simp] theorem ccmAuditDone_counts (nv : NvStore) (ok more : Bool) (count time : Nat) (lockClosed : Bool) (d : Device) :
    CountSame (ccmAuditDone nv ok more count time lockClosed d) d := by
  unfold ccmAuditDone; repeat' split
  all_goals simp [CountSame]

@[simp] theorem ccmRecordDone_counts (nv : NvStore) (ok : Bool) (w : NvWrite) (more : Bool) (count : Nat) (lockClosed : Bool) (d : Device) :
    CountSame (ccmRecordDone nv ok w more count lockClosed d) d := by
  unfold ccmRecordDone; repeat' split
  all_goals simp [CountSame]

@[simp] theorem vcmAuditDone_counts (nv : NvStore) (ok pass : Bool) (time number : Nat) (d : Device) :
    CountSame (vcmAuditDone nv ok pass time number d) d := by
  unfold vcmAuditDone; split <;> simp [CountSame]

@[simp] theorem countReadFailures_counts (k : Nat) (d : Device) : CountSame (countReadFailures k d) d := ⟨rfl, rfl, rfl⟩

@[simp] theorem answerRead_counts (nv : NvStore) (r : AudRead) (d : Device) : CountSame (answerRead nv r d) d :=
  (countReadFailures_counts _ _).trans (answer_counts _ _ d)

@[simp] theorem releaseReply_counts (nv : NvStore) (d : Device) (r : HeldReply) : CountSame (releaseReply nv d r) d := by
  cases r <;> simp [releaseReply, CountSame]

@[simp] theorem auditReads_counts (nv : NvStore) (d : Device) : CountSame (auditReads nv d) d :=
  .foldl (releaseReply_counts nv) _ _

@[simp] theorem journalEnded_counts (w : NvWrite) (d : Device) : CountSame (journalEnded w d) d := by
  unfold journalEnded; split <;> exact ⟨rfl, rfl, rfl⟩

@[simp] theorem longDone_counts (nv x1 : NvStore) (ok : Bool) (w : NvWrite) (d : Device) : CountSame (longDone nv x1 ok w d) d := by
  unfold longDone; split <;> simp [CountSame]

@[simp] theorem longStatusDone_counts (nv : NvStore) (ok : Bool) (d : Device) : CountSame (longStatusDone nv ok d) d := by
  unfold longStatusDone; repeat' split
  all_goals simp [CountSame]

@[simp] theorem mismatchDone_counts (nv : NvStore) (i : SlotId) (d : Device) : CountSame (mismatchDone nv i d) d := by
  unfold mismatchDone; dsimp only; repeat' split
  all_goals simp [CountSame]

@[simp] theorem attachDone_counts (nv : NvStore) (ok : Bool) (w : NvWrite) (d : Device) : CountSame (attachDone nv ok w d) d := by
  unfold attachDone; split <;> simp [CountSame]

@[simp] theorem startFreeDone_counts (nv : NvStore) (ok : Bool) (r : FreeReq) (d : Device) : CountSame (startFreeDone nv ok r d) d := by
  unfold startFreeDone; split <;> simp [CountSame]

@[simp] theorem reportTo_counts (nv x1 : NvStore) (ok : Bool) (r : WriteReq) (d : Device) : CountSame (reportTo nv x1 ok r d) d := by
  unfold reportTo; repeat' split
  all_goals simp [CountSame]

/-! ### Two-copy records (R110) -/

theorem newest_both {α : Type} {t : TwoCopy α} {a b : Copy α} (h1 : t.c1 = .valid a) (h2 : t.c2 = .valid b) :
    t.newest = some (if b.seq = (a.seq + 1) % 4 then (true, b) else (false, a)) := by
  simp only [TwoCopy.newest, h1, h2]
  by_cases h : b.seq = (a.seq + 1) % 4
  · rw [if_pos h, if_pos h, if_neg (by omega)]
  · rw [if_neg h, if_neg h, ite_self]

theorem newest_first {α : Type} {t : TwoCopy α} {a : Copy α} (h1 : t.c1 = .valid a) (h2 : ∀ b, t.c2 ≠ .valid b) :
    t.newest = some (false, a) := by
  unfold TwoCopy.newest
  rw [h1]
  cases h : t.c2 with
  | valid b => exact absurd h (h2 b)
  | _ => rfl

theorem newest_second {α : Type} {t : TwoCopy α} {b : Copy α} (h1 : ∀ a, t.c1 ≠ .valid a) (h2 : t.c2 = .valid b) :
    t.newest = some (true, b) := by
  unfold TwoCopy.newest
  rw [h2]
  cases h : t.c1 with
  | valid a => exact absurd h (h1 a)
  | _ => rfl

theorem newest_neither {α : Type} {t : TwoCopy α} (h1 : ∀ a, t.c1 ≠ .valid a) (h2 : ∀ b, t.c2 ≠ .valid b) : t.newest = none := by
  unfold TwoCopy.newest
  cases h : t.c1 with
  | valid a => exact absurd h (h1 a)
  | _ =>
    cases h' : t.c2 with
    | valid b => exact absurd h' (h2 b)
    | _ => rfl

/-- A copy put in place, and the other that stays. -/
theorem put_spec {α : Type} (t : TwoCopy α) (second : Bool) (c : NvCell (Copy α)) :
    (if second then (t.put second c).c2 else (t.put second c).c1) = c ∧
    (if second then (t.put second c).c1 = t.c1 else (t.put second c).c2 = t.c2) := by
  cases second <;> exact ⟨rfl, rfl⟩

/-! ### What a write leaves in the store (R185) -/

theorem auditCell_put (m : NvMap (NvCell AuditRec)) (nv : NvStore) (slot : Nat) (c : NvCell AuditRec) (hm : nv.audit = nvPut m slot c) :
    nv.auditCell slot = c ∧ ∀ k, k ≠ slot → nv.auditCell k = (nvGet m k).getD .blank := by
  refine ⟨?_, fun k hk => ?_⟩
  · rw [NvStore.auditCell, hm, nvGet_nvPut_same]
    rfl
  · rw [NvStore.auditCell, hm, nvGet_nvPut_other m c hk]

theorem journalCell_put (m : NvMap (NvCell JournalRec)) (nv : NvStore) (slot : Nat) (c : NvCell JournalRec) (hm : nv.journal = nvPut m slot c) :
    nv.journalCell slot = c ∧ ∀ k, k ≠ slot → nv.journalCell k = (nvGet m k).getD .blank := by
  refine ⟨?_, fun k hk => ?_⟩
  · rw [NvStore.journalCell, hm, nvGet_nvPut_same]
    rfl
  · rw [NvStore.journalCell, hm, nvGet_nvPut_other m c hk]

theorem tareSlot_put (m : NvMap (TwoCopy (Option TareEntry))) (nv : NvStore) (slot : Nat) (c : TwoCopy (Option TareEntry))
    (hm : nv.tares = nvPut m slot c) : nv.tareSlot slot = c ∧ ∀ k, k ≠ slot → nv.tareSlot k = (nvGet m k).getD TwoCopy.blank := by
  refine ⟨?_, fun k hk => ?_⟩
  · rw [NvStore.tareSlot, hm, nvGet_nvPut_same]
    rfl
  · rw [NvStore.tareSlot, hm, nvGet_nvPut_other m c hk]

theorem visitSlot_put (m : NvMap (TwoCopy (Option VisitRec))) (nv : NvStore) (slot : Nat) (c : TwoCopy (Option VisitRec))
    (hm : nv.visits = nvPut m slot c) : nv.visitSlot slot = c ∧ ∀ k, k ≠ slot → nv.visitSlot k = (nvGet m k).getD TwoCopy.blank := by
  refine ⟨?_, fun k hk => ?_⟩
  · rw [NvStore.visitSlot, hm, nvGet_nvPut_same]
    rfl
  · rw [NvStore.visitSlot, hm, nvGet_nvPut_other m c hk]

/-! ### The event (R185) -/

/-- The end of the write in progress, told to its source. -/
theorem nvcWriteComplete_eq {ok : Bool} {r : WriteReq} {s : State} (hrun : running s.dev = true) (hw : s.dev.nvc.writing = some r) :
    exec (.nvcWriteComplete ok) s = .next (becomes { s with nv := s.nv.land ok r.write }
      (startWrite (reportTo s.nv (s.nv.land ok r.write) ok r (reported ok s.dev)))) := by
  have hreport : countWrite ok s.dev.nvc.report = if ok
      then { s.dev.nvc.report with passed := min (s.dev.nvc.report.passed + 1) 65535 }
      else { s.dev.nvc.report with nvf := min (s.dev.nvc.report.nvf + 1) 65535 } := rfl
  have hgo : writeComplete ok s.nv s.dev = (s.nv.land ok r.write,
      startWrite (reportTo s.nv (s.nv.land ok r.write) ok r (reported ok s.dev))) := by
    simp only [writeComplete, hw, hrun, if_true, hreport]
    rfl
  show Host.Outcome.next _ = _
  rw [hgo]
  rfl

/-- Settles O46: the two-copy records, and the end of a write by its target. -/
theorem writeCompletes : Obligations.WriteCompletes := by
  refine ⟨fun α t => ⟨fun a b => newest_both, fun a => newest_first, fun b => newest_second, newest_neither, rfl, rfl⟩,
    fun nv slot n x e v => ⟨rfl, rfl, rfl, rfl⟩, fun ok r s hrun hw => ?_⟩
  obtain ⟨hnow, hpassed, hnvf⟩ := (startWrite_counts _).trans (reportTo_counts s.nv (s.nv.land ok r.write) ok r (reported ok s.dev))
  obtain ⟨hrx, hqueue, hpower, -⟩ := (startWrite_host _).trans (reportTo_host s.nv (s.nv.land ok r.write) ok r (reported ok s.dev))
  refine ⟨_, nvcWriteComplete_eq hrun hw, ?_, ?_, ?_, ?_, ?_, ?_, ?_, ?_⟩
  · show Nvc.Served (refreshLights _).nvc
    rw [refreshLights_nvc]
    exact startWrite_nvc_served _
  · rw [becomes_lights]
    refine hpassed.trans ?_
    cases ok <;> rfl
  · rw [becomes_lights]
    refine hnvf.trans ?_
    cases ok <;> rfl
  · rw [becomes_lights]
    exact hrx
  · rw [becomes_lights]
    exact hqueue
  · rw [becomes_lights]
    exact hpower
  · rw [becomes_lights]
    exact hnow
  · have hnv (d : Device) : (becomes { s with nv := s.nv.land ok r.write } d).nv = s.nv.land ok r.write := rfl
    rw [hnv]
    cases hr : r.write with
    | settings x => exact ⟨rfl, rfl⟩
    | calibration x => exact ⟨rfl, rfl⟩
    | status second c => exact ⟨rfl, put_spec _ _ _⟩
    | audit slot x => exact ⟨rfl, auditCell_put s.nv.audit _ slot _ rfl⟩
    | tare slot second c =>
      obtain ⟨hsame, hother⟩ := tareSlot_put s.nv.tares (s.nv.land ok (.tare slot second c)) slot _ rfl
      refine ⟨rfl, ?_⟩
      rw [hsame, ← and_assoc]
      exact ⟨put_spec _ _ _, hother⟩
    | visit slot second c =>
      obtain ⟨hsame, hother⟩ := visitSlot_put s.nv.visits (s.nv.land ok (.visit slot second c)) slot _ rfl
      refine ⟨rfl, ?_⟩
      rw [hsame, ← and_assoc]
      exact ⟨put_spec _ _ _, hother⟩
    | journal slot x => exact ⟨rfl, journalCell_put s.nv.journal _ slot _ rfl⟩
    | exportRec second c => exact ⟨rfl, put_spec _ _ _⟩

end Sys2Proof.Machine
end

section
/-! PROOF. The report of a write, with no request behind it, reaches its source alone; the reports of tare, export and settings
writes, and what new settings do to slots and lane timers (R22, R72, R190). -/

namespace Sys2Proof.Machine

open Sys2Proof.Safety

/-! ### A report with no request behind it -/

theorem startWrite_of_served {d : Device} (h : QueueServed d) : startWrite d = d := by
  unfold startWrite
  split
  next hc =>
    obtain ⟨hs, hw⟩ := Bool.and_eq_true_iff.1 hc
    have hq : d.nvc.queue = [] := h hs (Option.isNone_iff_eq_none.1 hw)
    split
    · rfl
    next r q hcons => exact (nomatch hq.symm.trans hcons)
  next => rfl

/-- The write in progress ends, and its source is told. -/
theorem writeReported {ok : Bool} {src : Requester} {w : NvWrite} {s : State} (hrun : running s.dev = true)
    (hw : s.dev.nvc.writing = some ⟨src, w⟩) (hq : s.dev.nvc.queue = []) : exec (.nvcWriteComplete ok) s =
      .next (becomes { s with nv := s.nv.land ok w } (reportTo s.nv (s.nv.land ok w) ok ⟨src, w⟩ (reported ok s.dev))) := by
  have hserved : QueueServed (reported ok s.dev) := fun _ _ => hq
  have hstart := startWrite_of_served (reportTo_served s.nv (s.nv.land ok w) ok ⟨src, w⟩ hserved)
  rw [nvcWriteComplete_eq hrun hw, hstart]

/-! ### Tare and export writes (R125 to R127, R144) -/

theorem tareDone_eq (ok : Bool) (slot : Nat) (c : Option TareEntry) (ref : Text) (rep : Bool) {g : Tag} {d : Device}
    (hg : d.exe.slot = some g) : tareDone ok slot c ref rep d =
      if ok then
        match c with
        | some e => endedWith '=' g (tareFields e rep) { d with txu := { d.txu with tares := nvPut d.txu.tares slot e } }
        | none => endedWith '=' g [ref] { d with txu := { d.txu with tares := nvErase d.txu.tares slot } }
      else endedWith '#' g [['N', 'V', 'F']] d := by
  unfold tareDone
  split
  · cases c with
    | some e => exact complete_eq _ hg
    | none => exact complete_eq _ hg
  · exact failWith_eq _ _ hg

theorem exportDone_eq (nv : NvStore) (ok : Bool) (n : Nat) {g : Tag} {d : Device} (hg : d.exe.slot = some g) : exportDone nv ok n d =
    if ok then endedWith '=' g [tNat n, tNat (nv.unexported n)] { d with txu := { d.txu with exportMark := n, fullUntilE := false } }
    else endedWith '#' g [['N', 'V', 'F']] d := by
  unfold exportDone
  split
  · exact complete_eq _ hg
  · exact failWith_eq _ _ hg

/-! ### The cell lines and a close (R76) -/

@[simp] theorem requestFreeing_cells (nv : NvStore) (n : Nat) (d : Device) : CellSame (requestFreeing nv n d) d := by
  induction n generalizing d with
  | zero => exact ⟨rfl, rfl, rfl, rfl, rfl, rfl, rfl, rfl, rfl⟩
  | succ n ih =>
    unfold requestFreeing; repeat' split
    all_goals simp [ih, CellSame]

@[simp] theorem requestOwed_cells (nv : NvStore) (n : Nat) (d : Device) : CellSame (requestOwed nv n d) d := by
  induction n generalizing d with
  | zero => exact ⟨rfl, rfl, rfl, rfl, rfl, rfl, rfl, rfl, rfl⟩
  | succ n ih =>
    unfold requestOwed; repeat' split
    all_goals simp [ih, CellSame]

@[simp] theorem syncOwed_cells (d : Device) : CellSame (syncOwed d) d := ⟨rfl, rfl, rfl, rfl, rfl, rfl, rfl, rfl, rfl⟩

@[simp] theorem requestAttachments_cells (nv : NvStore) (d : Device) : CellSame (requestAttachments nv d) d := by
  simp [requestAttachments, CellSame]

@[simp] theorem passageClosed_cells (nv : NvStore) (n : Nat) (d : Device) : CellSame (passageClosed nv n d) d := by
  unfold passageClosed; dsimp only; repeat' split
  all_goals simp [CellSame]

@[simp] theorem pushHistory_cells (p : Passage) (d : Device) : CellSame (pushHistory p d) d := ⟨rfl, rfl, rfl, rfl, rfl, rfl, rfl, rfl, rfl⟩

@[simp] theorem closePassage_cells (nv : NvStore) (cause : CloseCause) (t : Nat) (d : Device) : CellSame (closePassage nv cause t d) d := by
  unfold closePassage; split <;> simp [CellSame]

@[simp] theorem settleExpires_cells (d : Device) : CellSame (settleExpires d) d := by simp [settleExpires, CellSame]

@[simp] theorem clearExpires_cells (nv : NvStore) (t : Nat) (d : Device) : CellSame (clearExpires nv t d) d := by
  simp [clearExpires, CellSame]

@[simp] theorem timersUnderNewSettings_cells (nv : NvStore) (d : Device) : CellSame (timersUnderNewSettings nv d) d := by
  unfold timersUnderNewSettings; dsimp only; repeat' split
  all_goals simp [CellSame]

/-! ### What the lane's timers leave while no wait of the lane is in flight -/

/-- A stage that no move of the lane and no close ends. -/
def LaneProof (st : Stage) : Prop := (∀ l, endsLan l st = false) ∧ ∀ x k u, st ≠ .axleWait x k u

/-- The blocks that the lane's timers leave alone. -/
def laneRest (d : Device) : Rx × Csu × Zsu × Mst × LightMode × LightMode × Tx × Exe :=
  (d.rx, d.csu, d.zsu, d.mst, d.lsv.modeIn, d.lsv.modeOut, d.tx, d.exe)

theorem laneRest_exe {a b : Device} (h : laneRest a = laneRest b) : a.exe = b.exe :=
  congrArg (fun x : Rx × Csu × Zsu × Mst × LightMode × LightMode × Tx × Exe => x.2.2.2.2.2.2.2) h

theorem setLane_rest (l : Lane) {d : Device} (h : LaneProof d.exe.stage) : laneRest (setLane l d) = laneRest d := by
  obtain ⟨hstays, -⟩ := h
  rw [setLane_eq]
  simp only [hstays l, Bool.false_eq_true, and_false, if_false]
  rfl

theorem closePassage_rest (nv : NvStore) (cause : CloseCause) (t : Nat) {d : Device} (h : LaneProof d.exe.stage) :
    laneRest (closePassage nv cause t d) = laneRest d := by
  obtain ⟨-, hno⟩ := h
  cases hp : d.lsv.current with
  | none => simp only [closePassage, hp]
  | some p =>
    obtain ⟨hframe, -, hexe⟩ := closePassage_frame nv cause t hp
    unfold laneRest
    rw [hexe hno, hframe]

theorem settleExpires_rest {d : Device} (h : LaneProof d.exe.stage) : laneRest (settleExpires d) = laneRest d :=
  setLane_rest .onDeck h

theorem clearExpires_rest (nv : NvStore) (t : Nat) {d : Device} (h : LaneProof d.exe.stage) :
    laneRest (clearExpires nv t d) = laneRest d := by
  have hclose := closePassage_rest nv .clear t h
  have hset := setLane_rest .clear (d := timersStopped (closePassage nv .clear t d)) (laneRest_exe hclose ▸ h)
  exact hset.trans hclose

/-- The settle timer under new settings: expired when it has already run them. -/
def settleActs (d : Device) : Device :=
  match settleDue d with
  | some due => if d.lsv.lane = .entering ∧ due ≤ d.now then evalTimers d.now (settleExpires d) else d
  | none => d

/-- The clear timer under new settings. -/
def clearActs (nv : NvStore) (d : Device) : Device :=
  match clearDue d with
  | some due => if inPassage d.lsv.lane ∧ due ≤ d.now then clearExpires nv (reportInstant d) d else d
  | none => d

theorem timersUnderNewSettings_eq (nv : NvStore) (d : Device) : timersUnderNewSettings nv d = clearActs nv (settleActs d) := rfl

theorem settleActs_rest {d : Device} (h : LaneProof d.exe.stage) : laneRest (settleActs d) = laneRest d := by
  unfold settleActs
  split
  · split
    · exact settleExpires_rest h
    · rfl
  · rfl

theorem clearActs_rest (nv : NvStore) {d : Device} (h : LaneProof d.exe.stage) : laneRest (clearActs nv d) = laneRest d := by
  unfold clearActs
  split
  · split
    · exact clearExpires_rest nv _ h
    · rfl
  · rfl

theorem timersUnderNewSettings_rest (nv : NvStore) {d : Device} (h : LaneProof d.exe.stage) :
    laneRest (timersUnderNewSettings nv d) = laneRest d := by
  have hsettle := settleActs_rest h
  have hstill : LaneProof (settleActs d).exe.stage := by rw [laneRest_exe hsettle]; exact h
  exact (clearActs_rest nv hstill).trans hsettle

/-! ### The running timers under new settings (R72) -/

section timers

variable {nv : NvStore} {d : Device} {t0 : Nat}

theorem settleDue_eq (d : Device) : settleDue d = d.lsv.settle.map fun t => t + 100 * d.nvc.settings.setl := by
  simp only [settleDue, Nat.mul_comm 100]

theorem clearDue_eq (d : Device) : clearDue d = d.lsv.clear.map fun t => t + 1000 * d.nvc.settings.clrt := by
  simp only [clearDue, Nat.mul_comm 1000]

theorem settleActs_waits (h : ∀ t0, d.lsv.lane = .entering → d.lsv.settle = some t0 → d.now < t0 + 100 * d.nvc.settings.setl) :
    settleActs d = d := by
  rw [settleActs, settleDue_eq]
  cases ht : d.lsv.settle with
  | none => rfl
  | some t0 => exact if_neg fun hh => Nat.not_le.2 (h t0 hh.1 ht) hh.2

theorem clearActs_waits (h : ∀ t0, inPassage d.lsv.lane = true → d.lsv.clear = some t0 → d.now < t0 + 1000 * d.nvc.settings.clrt) :
    clearActs nv d = d := by
  rw [clearActs, clearDue_eq]
  cases ht : d.lsv.clear with
  | none => rfl
  | some t0 => exact if_neg fun hh => Nat.not_le.2 (h t0 hh.1 ht) hh.2

theorem timersUnderNewSettings_waits (hs : ∀ t0, d.lsv.lane = .entering → d.lsv.settle = some t0 → d.now < t0 + 100 * d.nvc.settings.setl)
    (hc : ∀ t0, inPassage d.lsv.lane = true → d.lsv.clear = some t0 → d.now < t0 + 1000 * d.nvc.settings.clrt) :
    timersUnderNewSettings nv d = d := by
  rw [timersUnderNewSettings_eq, settleActs_waits hs, clearActs_waits hc]

/-- On an OCCUPIED deck, in ON_DECK, no timer runs. -/
theorem evalTimers_onDeck (t : Nat) (hl : d.lsv.lane = .onDeck) (hocc : d.lsv.occupancy = .occupied) :
    evalTimers t d = timersStopped d := by
  have hsettle : settleHolds d = false := by
    rw [Bool.eq_false_iff, Ne, settleHolds_iff, hl]
    exact fun h => Lane.noConfusion h.1
  have hclear : clearHolds d = false := by
    rw [Bool.eq_false_iff, Ne, clearHolds_iff, hocc]
    exact fun h => Occupancy.noConfusion h.2.2
  rw [evalTimers, hsettle, hclear]
  rfl

/-- The settle timer has run its new length on an OCCUPIED deck: ON_DECK, and no timer runs. -/
theorem timersUnderNewSettings_settle (hl : d.lsv.lane = .entering) (ht : d.lsv.settle = some t0)
    (hdue : t0 + 100 * d.nvc.settings.setl ≤ d.now) (hocc : d.lsv.occupancy = .occupied) :
    timersUnderNewSettings nv d = timersStopped (setLane .onDeck d) := by
  have hlane : (settleExpires d).lsv.lane = .onDeck := by rw [settleExpires, setLane_eq]; rfl
  have hdeck : (settleExpires d).lsv.occupancy = .occupied := by rw [settleExpires, setLane_eq]; exact hocc
  have hsettle : settleActs d = timersStopped (setLane .onDeck d) := by
    rw [settleActs, settleDue_eq, ht]
    refine (if_pos ⟨hl, hdue⟩).trans ?_
    rw [evalTimers_onDeck _ hlane hdeck]
    rfl
  rw [timersUnderNewSettings_eq, hsettle]
  exact clearActs_waits fun t _ h => nomatch (h : none = some t)

/-- The clear timer closes the passage. -/
theorem clearExpires_spec {p : Passage} (t : Nat) (hp : d.lsv.current = some p) (hl : d.lsv.lane ≠ .clear) :
    (clearExpires nv t d).lsv.lane = .clear ∧ (clearExpires nv t d).lsv.settle = none ∧ (clearExpires nv t d).lsv.clear = none ∧
    (clearExpires nv t d).lsv.current = none ∧
    (∃ q, (clearExpires nv t d).lsv.history.getLast? = some q ∧ q.number = p.number ∧ q.closeCause = some .clear ∧ q.closeAt = some t) ∧
    (d.ntc.enabled.lne = true → (clearExpires nv t d).ntc.pending.lne = true) ∧
    (d.ntc.enabled.axl = true → (clearExpires nv t d).ntc.pending.axl = true) := by
  obtain ⟨hframe, -, -⟩ := closePassage_frame nv .clear t hp
  obtain ⟨⟨q, hlast, hnum, hcause, hat, -⟩, -⟩ := closePassage_newest nv .clear t hp
  have hdef : clearExpires nv t d = setLane .clear (timersStopped (closePassage nv .clear t d)) := rfl
  rw [hdef, setLane_eq]
  generalize closePassage nv .clear t d = a at hframe hlast ⊢
  have hentered : (timersStopped a).lsv.lane ≠ .clear := by rw [hframe]; exact hl
  have hnotices : (timersStopped a).ntc = noticedNtc .axl d.ntc := (congrArg Device.ntc hframe :)
  refine ⟨rfl, rfl, rfl, (congrArg (fun d : Device => d.lsv.current) hframe :), ⟨q, hlast, hnum, hcause, hat⟩, fun hen => ?_, fun hen => ?_⟩
  · refine (congrArg (fun n : Ntc => n.pending.lne) (if_neg hentered) :).trans (noticedNtc_lne ?_)
    rw [hnotices, noticedNtc_enabled, hen]
  · refine (congrArg (fun n : Ntc => n.pending.axl) (if_neg hentered) :).trans ?_
    rw [noticedNtc_lne_axl, hnotices]
    exact noticedNtc_axl hen

/-- The clear timer has run its new length: the passage closes. -/
theorem timersUnderNewSettings_clear (hl : inPassage d.lsv.lane = true) (hs : d.lsv.settle = none) (ht : d.lsv.clear = some t0)
    (hdue : t0 + 1000 * d.nvc.settings.clrt ≤ d.now) : timersUnderNewSettings nv d = clearExpires nv (reportInstant d) d := by
  have hsettle : settleActs d = d := settleActs_waits fun t _ h => nomatch hs.symm.trans h
  rw [timersUnderNewSettings_eq, hsettle, clearActs, clearDue_eq, ht]
  exact if_pos ⟨hl, hdue⟩

end timers

/-! ### New settings in force (R22, R72, R190) -/

/-- A new hold limit that a slot has gone beyond (R22). -/
def BeyondHold (limit : Nat) (x : Slot) : Prop := (x.state = .holding ∨ x.state = .verifying) ∧ limit < x.hold

theorem holdSlot_beyond {h : Nat} {x : Slot} (hb : BeyondHold h x) : holdSlot h x = { x with state := .faulted, run := 0 } := if_pos hb

theorem holdSlot_within {h : Nat} {x : Slot} (hb : ¬ BeyondHold h x) : holdSlot h x = x := if_neg hb

theorem holdSlot_ne_mismatch (h : Nat) {x : Slot} (hx : x.state ≠ .mismatch) : (holdSlot h x).state ≠ .mismatch := by
  by_cases hb : BeyondHold h x
  · rw [holdSlot_beyond hb]
    exact SlotState.noConfusion
  · rw [holdSlot_within hb]
    exact hx

/-- A slot of the list whose state changes raises CEL. -/
theorem mapSlots_raises {nv : NvStore} {f : SlotId → Slot → Slot} (hf : ∀ i x, x.state ≠ .mismatch → (f i x).state ≠ .mismatch)
    {l : List SlotId} (hl : l.Nodup) {d : Device} {i : SlotId} (hi : i ∈ l) (hs : (f i (slotOf d i)).state ≠ (slotOf d i).state)
    (hen : d.ntc.enabled.cel = true) : (mapSlots nv f l d).ntc.pending.cel = true := by
  induction l generalizing d with
  | nil => exact (List.not_mem_nil hi).elim
  | cons j l ih =>
    obtain ⟨hj, hl⟩ := List.nodup_cons.1 hl
    have hstep : mapSlots nv f (j :: l) d = mapSlots nv f l (putSlot nv j (f j (slotOf d j)) d) := rfl
    obtain ⟨hrest, -⟩ := mapSlots_spec hf hl (nv := nv) (putSlot nv j (f j (slotOf d j)) d)
    rw [hstep]
    obtain rfl | hi := List.mem_cons.1 hi
    · exact hrest.cel (putSlot_raises hs hen)
    · have hput := putSlot_changed (nv := nv) (i := j) (hf j (slotOf d j))
      have hother : slotOf (putSlot nv j (f j (slotOf d j)) d) i = slotOf d i := by
        rw [putSlot_eq (hf j (slotOf d j))]
        have hij : i ≠ j := fun h => hj (h ▸ hi)
        exact (slotOf_storeSlot j i _ d).trans (if_neg hij)
      refine ih hl hi ?_ (by rw [hput.enabled]; exact hen)
      rw [hother]
      exact hs

theorem clcNewHold_spec (nv : NvStore) (d : Device) : SlotsChanged d (clcNewHold nv d) ∧
    (∀ i, slotOf (clcNewHold nv d) i = holdSlot d.nvc.settings.hold (slotOf d i)) ∧
    ((∃ i, BeyondHold d.nvc.settings.hold (slotOf d i)) → d.ntc.enabled.cel = true → (clcNewHold nv d).ntc.pending.cel = true) := by
  have hf (i : SlotId) (x : Slot) (hx : x.state ≠ .mismatch) : (holdSlot d.nvc.settings.hold x).state ≠ .mismatch :=
    holdSlot_ne_mismatch _ hx
  obtain ⟨hchanged, hslots⟩ := mapSlots_spec (nv := nv) hf SlotId.nodup_all d
  refine ⟨hchanged, fun i => (hslots i).trans (if_pos (SlotId.mem_all i)), fun ⟨i, hb⟩ hen => ?_⟩
  have hs : (holdSlot d.nvc.settings.hold (slotOf d i)).state ≠ (slotOf d i).state := by
    rw [holdSlot_beyond hb]
    intro h
    obtain ⟨hold | hver, -⟩ := hb
    · exact nomatch h.trans hold
    · exact nomatch h.trans hver
  rw [clcNewHold]
  exact mapSlots_raises (f := fun _ x => holdSlot d.nvc.settings.hold x) (d := d) hf SlotId.nodup_all (SlotId.mem_all i) hs hen

/-- The slots under the new settings, before the lane's timers. -/
def heldUnder (nv : NvStore) (new : Settings) (d : Device) : Device := clcNewHold nv { d with nvc := { d.nvc with settings := new } }

theorem settingsDone_passed (nv : NvStore) (new : Settings) {g : Tag} {d : Device} (hg : d.exe.slot = some g)
    (hst : LaneProof d.exe.stage) : settingsDone nv true new d =
      endedWith '=' g (settingsFields new) (timersUnderNewSettings nv (heldUnder nv new d)) := by
  obtain ⟨hchanged, -⟩ := clcNewHold_spec nv { d with nvc := { d.nvc with settings := new } }
  have hexe : (heldUnder nv new d).exe = d.exe := (congrArg Device.exe hchanged.rest :)
  have hlane : LaneProof (heldUnder nv new d).exe.stage := by rw [hexe]; exact hst
  have hrest := timersUnderNewSettings_rest nv hlane
  have hafter := laneRest_exe hrest
  have hslot : (timersUnderNewSettings nv (heldUnder nv new d)).exe.slot = some g := by rw [hafter, hexe, hg]
  have hdone : settingsDone nv true new d = complete (settingsFields new) (timersUnderNewSettings nv (heldUnder nv new d)) := rfl
  rw [hdone, complete_eq _ hslot]

theorem settingsWrite_laneProof (new : Settings) : LaneProof (.settingsWrite new) := ⟨fun _ => rfl, fun _ _ _ => Stage.noConfusion⟩

/-- Settles O47: the reports of tare and export writes, and new settings with their slots and timers. -/
theorem longWriteReports : Obligations.LongWriteReports := by
  intro ok w g s hrun hw hq hg told after
  have hexec := writeReported (ok := ok) hrun hw hq
  have hslot : (reported ok s.dev).exe.slot = some g := hg
  refine ⟨fun h slot c ref rep hst => ?_, fun n hst => ?_, fun new hst => ⟨fun hno => ?_, fun hok => ?_⟩⟩
  · have hstage : (reported ok s.dev).exe.stage = .tareWrite h slot c ref rep := hst
    have hreport : reportTo s.nv (s.nv.land ok w) ok ⟨.longOp, w⟩ (reported ok s.dev) = tareDone ok slot c ref rep (reported ok s.dev) := by
      simp only [reportTo, longDone, hstage]
    rw [hexec, hreport, tareDone_eq _ _ _ _ _ hslot]
    cases c <;> rfl
  · have hstage : (reported ok s.dev).exe.stage = .exportWrite n := hst
    have hreport : reportTo s.nv (s.nv.land ok w) ok ⟨.longOp, w⟩ (reported ok s.dev) =
        exportDone (s.nv.land ok w) ok n (reported ok s.dev) := by
      simp only [reportTo, longDone, hstage]
    rw [hexec, hreport, exportDone_eq _ _ _ hslot]
    rfl
  · subst hno
    have hstage : (reported false s.dev).exe.stage = .settingsWrite new := hst
    have hreport : reportTo s.nv (s.nv.land false w) false ⟨.longOp, w⟩ (reported false s.dev) =
        failWith .nvf [] (reported false s.dev) := by
      simp only [reportTo, longDone, hstage, settingsDone, Bool.false_eq_true, if_false]
    rw [hexec, hreport, failWith_eq _ _ hslot]
    rfl
  · subst hok
    have hstage : (reported true s.dev).exe.stage = .settingsWrite new := hst
    have hreport : reportTo s.nv (s.nv.land true w) true ⟨.longOp, w⟩ (reported true s.dev) =
        settingsDone (s.nv.land true w) true new (reported true s.dev) := by
      simp only [reportTo, longDone, hstage]
    have hproof : LaneProof (reported true s.dev).exe.stage := hstage ▸ settingsWrite_laneProof new
    obtain ⟨hchanged, hslots, hbeyond⟩ := clcNewHold_spec (s.nv.land true w)
      { reported true s.dev with nvc := { (reported true s.dev).nvc with settings := new } }
    rw [settingsDone_passed _ _ hslot hproof, heldUnder] at hreport
    rw [hreport] at hexec
    generalize clcNewHold (s.nv.land true w) { reported true s.dev with nvc := { (reported true s.dev).nvc with settings := new } } = e
      at hchanged hslots hbeyond hexec
    have hE := hchanged.rest
    have hlane : LaneProof e.exe.stage := by rw [hE]; exact hproof
    have hrest := timersUnderNewSettings_rest (s.nv.land true w) hlane
    have hcells := timersUnderNewSettings_cells (s.nv.land true w) e
    simp only [laneRest, Prod.mk.injEq] at hrest
    obtain ⟨hrx, hcsu, hzsu, hmst, hin, hout, htx, hexe⟩ := hrest
    obtain ⟨hclc, -, -, -, hcel, hset, -⟩ := hcells
    have hlsv : e.lsv = s.dev.lsv := by rw [hE]; rfl
    have hnow : e.now = s.dev.now := by rw [hE]; rfl
    have hsets : e.nvc.settings = new := by rw [hE]
    have hnewest : e.csu = s.dev.csu := by rw [hE]; rfl
    have hwaits := timersUnderNewSettings_waits (nv := s.nv.land true w) (d := e)
    have hsettles (t0 : Nat) := timersUnderNewSettings_settle (nv := s.nv.land true w) (d := e) (t0 := t0)
    have hclears (t0 : Nat) := timersUnderNewSettings_clear (nv := s.nv.land true w) (d := e) (t0 := t0)
    rw [hlsv, hnow, hsets] at hwaits hsettles hclears
    obtain ⟨hauu, hntc, hnvc⟩ := becomes_dev { s with nv := s.nv.land true w }
      (endedWith '=' g (settingsFields new) (timersUnderNewSettings (s.nv.land true w) e))
    obtain ⟨x, y, hl⟩ := becomes_lsv { s with nv := s.nv.land true w }
      (endedWith '=' g (settingsFields new) (timersUnderNewSettings (s.nv.land true w) e))
    refine ⟨_, hexec, rfl, ?_, ?_, ?_, ?_, ?_, ?_, ?_, ?_, ?_, ?_, ⟨fun i => ?_, fun hb hen => ?_⟩, fun hs hc => ?_, fun t0 ha ht hdue hocc => ?_,
      fun t0 p ha hsn ht hdue hp => ?_⟩
    · rw [hnvc]
      exact hset.trans hsets
    · rw [becomes_lights]
      refine (congrArg (fun x : Exe => { x with stage := .ended }) hexe :).trans ?_
      rw [hE]
      exact congrArg (fun k => (⟨k, .ended⟩ : Exe)) hg
    · rw [becomes_lights]
      refine (congrArg (fun x : Tx => { x with longs := x.longs ++
        [recordOf '=' (tagText g) (settingsFields new)] }) htx :).trans ?_
      rw [hE]
      rfl
    · rw [hl]
      exact hin.trans (congrArg Lsv.modeIn hlsv)
    · rw [hl]
      exact hout.trans (congrArg Lsv.modeOut hlsv)
    · rw [becomes_lights]
      exact hmst.trans (congrArg Device.mst hE :)
    · rw [becomes_lights]
      exact hzsu.trans (congrArg Device.zsu hE :)
    · rw [becomes_lights]
      exact hcsu.trans hnewest
    · rw [becomes_lights]
      exact hrx.trans (congrArg Device.rx hE :)
    · rw [becomes_clc]
      exact (congrArg Clc.lines hclc).trans (congrArg (fun d : Device => d.clc.lines) hE :)
    · refine (slotOf_congr (a := (becomes _ _).dev) (b := e) (by rw [becomes_clc]; exact congrArg Clc.slots hclc) i).trans ?_
      exact hslots i
    · rw [hntc]
      exact hcel.trans (hbeyond hb hen)
    · have hstill := hwaits hs hc
      rw [hl, ← hlsv]
      rw [hstill]
      exact ⟨rfl, rfl, rfl, rfl, rfl⟩
    · rw [hl, hntc, hsettles t0 ha ht hdue hocc, setLane_eq]
      refine ⟨rfl, rfl, rfl, (congrArg Lsv.current hlsv :), (congrArg Lsv.history hlsv :), fun hen => ?_⟩
      have hne : e.lsv.lane ≠ .onDeck := by rw [hlsv, ha]; decide
      have hon : e.ntc.enabled.lne = true := (congrArg PerNotice.lne hchanged.enabled).trans hen
      refine (congrArg (fun n : Ntc => n.pending.lne) (if_neg hne : (if e.lsv.lane = .onDeck then e.ntc else noticedNtc .lne e.ntc) = _) :).trans ?_
      exact noticedNtc_lne hon
    · have hpe : e.lsv.current = some p := by rw [hlsv]; exact hp
      have hlane' : e.lsv.lane ≠ .clear := by
        obtain h | h | h := (inPassage_iff _).1 ha <;> rw [hlsv, h] <;> decide
      have hinstant : reportInstant e = match s.dev.csu.newest with
          | some wr => max s.dev.now (wr.latch + 1)
          | none => s.dev.now := by
        cases hn : s.dev.csu.newest <;> simp only [reportInstant, hnewest, hnow, hn]
      rw [hl, hntc]
      obtain ⟨hl, hs, hc, hcur, ⟨q, hlast, hnum, hcause, hat⟩, hlne, haxl⟩ := clearExpires_spec (nv := s.nv.land true w) (reportInstant e) hpe hlane'
      rw [← hclears t0 ha hsn ht hdue] at hl hs hc hcur hlast hlne haxl
      rw [hinstant] at hat
      rw [hchanged.enabled] at hlne haxl
      exact ⟨hl, hs, hc, hcur, ⟨q, hlast, hnum, hcause, hat⟩, hlne, haxl⟩

end Sys2Proof.Machine
end

section
/-! PROOF. The reports of the Transaction Unit's writes: visits, records, TORN entries, freeing and attachment writes (R111 to R145). -/

namespace Sys2Proof.Machine

open Sys2Proof.Safety

/-! ### A part with no write outstanding -/

section idle

variable {d : Device}

theorem outstanding_reported {ok : Bool} (h : d.nvc.queue = []) : outstanding (reported ok d) = [] := h

theorem queueServed_of_idle (h : outstanding d = []) : QueueServed d := fun _ _ => (List.append_eq_nil_iff.1 h).2

theorem request_idle (r : WriteReq) (h : outstanding d = []) : request r d = requested r d := request_eq r (queueServed_of_idle h)

theorem visitBusy_idle (slot : Nat) (h : outstanding d = []) : visitBusy d slot = false := by
  rw [visitBusy, h]
  rfl

theorem shareCount_idle (sh : Share) (h : outstanding d = []) : shareCount sh d < Config.attachCap := by
  rw [shareCount, h]
  exact Nat.zero_lt_succ 3

end idle

/-! ### What is owed and requested (R78, R117) -/

section owed

variable {nv : NvStore} {d : Device}

theorem syncOwed_eq (d : Device) : syncOwed d = owing d.txu.owed d := rfl

theorem dropAttachment_eq (n : Nat) (d : Device) : dropAttachment n d = unattached n d := rfl

theorem summaryHeld_eq (d : Device) (n : Nat) : summaryOfPassage d n = summaryHeld d n := by
  unfold summaryOfPassage summaryHeld
  cases d.lsv.history.find? fun p => p.number == n <;> rfl

theorem owing_owing (d : Device) : owing [] (owing [] d) = owing [] d := by
  simp only [owing, List.map_map, List.filter_filter, List.any_nil, Bool.and_self]
  rfl

theorem requestFreeing_none (n : Nat) (h : d.txu.freeHeld = []) : requestFreeing nv n d = d := by
  cases n with
  | zero => rfl
  | succ n =>
    unfold requestFreeing
    rw [h]

theorem requestOwed_none (n : Nat) (h : d.txu.owed = []) : requestOwed nv n d = d := by
  cases n with
  | zero => rfl
  | succ n =>
    unfold requestOwed
    rw [h]
    exact ite_self _

/-- With nothing held and nothing owed no write is requested. -/
theorem requestAttachments_none (hf : d.txu.freeHeld = []) (ho : d.txu.owed = []) : requestAttachments nv d = owing [] d := by
  rw [requestAttachments, requestFreeing_none _ hf, requestOwed_none _ ho, syncOwed_eq, ho]

theorem eligible_idle {n k j : Nat} {v : VisitRec} (hidle : outstanding d = []) (hv : findVisit d n = some (j, v)) :
    eligible d ⟨n, k⟩ = true := by
  unfold eligible
  rw [hv]
  exact congrArg (!·) (visitBusy_idle j hidle)

/-- The one owed entry's write is requested. -/
theorem requestAttachments_one {n k j : Nat} {v : VisitRec} (hidle : outstanding d = []) (hf : d.txu.freeHeld = [])
    (ho : d.txu.owed = [⟨n, k⟩]) (hv : findVisit d n = some (j, v)) : requestAttachments nv d =
      owing [] (requested ⟨.attach n j, visitWrite nv j (some { v with summary := summaryHeld d k })⟩
        { d with txu := { d.txu with owed := [] } }) := by
  have hstep : requestOwed nv Config.attachCap d = requestOwed nv 3 (request
      ⟨.attach n j, visitWrite nv j (some { v with summary := summaryHeld d k })⟩ { d with txu := { d.txu with owed := [] } }) := by
    have hfind : d.txu.owed.find? (eligible d) = some ⟨n, k⟩ := by
      rw [ho, List.find?_cons_of_pos (eligible_idle hidle hv)]
    have hfilter : d.txu.owed.filter (· != ⟨n, k⟩) = [] := by
      rw [ho]
      simp
    have hcap : requestOwed nv Config.attachCap d = requestOwed nv (3 + 1) d := rfl
    rw [hcap, requestOwed, if_pos (shareCount_idle _ hidle), hfind]
    dsimp only
    rw [hv]
    dsimp only
    rw [hfilter, summaryHeld_eq]
  have hafter (r : WriteReq) (e : Device) (h : e.txu.owed = []) : (requested r e).txu.owed = [] := by
    unfold requested
    split <;> exact h
  have hreq := request_idle ⟨.attach n j, visitWrite nv j (some { v with summary := summaryHeld d k })⟩
    (d := { d with txu := { d.txu with owed := [] } }) hidle
  rw [requestAttachments, requestFreeing_none _ hf, hstep, hreq, requestOwed_none _ (hafter _ _ rfl), syncOwed_eq, hafter _ _ rfl]

end owed

/-! ### Visits and attachments (R111, R115 to R118) -/

theorem find_nvPut {α : Type} {m : NvMap α} {p : Nat × α → Bool} {k : Nat} {x : α} (h : m.find? p = none) (hp : p (k, x) = true) :
    (nvPut m k x).find? p = some (k, x) := by
  induction m with
  | nil => exact List.find?_cons_of_pos hp
  | cons e l ih =>
    obtain ⟨j, y⟩ := e
    have hfirst : ¬ p (j, y) = true := List.find?_eq_none.1 h _ List.mem_cons_self
    have hrest : l.find? p = none := by
      rwa [List.find?_cons_of_neg hfirst] at h
    unfold nvPut
    split_ifs
    · exact List.find?_cons_of_pos hp
    · exact List.find?_cons_of_pos hp
    · rw [List.find?_cons_of_neg hfirst]
      exact ih hrest

section visits

variable {nv : NvStore} {d : Device} {g : Tag}

theorem findVisit_putVisit {slot : Nat} {v : VisitRec} (h : findVisit d v.number = none) :
    findVisit (putVisit slot v d) v.number = some (slot, v) := find_nvPut h (beq_self_eq_true _)

theorem wg1Done_opened {slot : Nat} {v : VisitRec} (hf : d.txu.freeHeld = []) (ho : d.txu.owed = []) (hg : d.exe.slot = some g) :
    wg1Done nv true slot v d = owing [] (endedWith '=' g (wg1Fields v) (putVisit slot v d)) := by
  have hdone : wg1Done nv true slot v d = requestAttachments nv (endedWith '=' g (wg1Fields v) (putVisit slot v d)) :=
    congrArg (requestAttachments nv) (complete_eq (d := putVisit slot v d) _ hg)
  rw [hdone]
  exact requestAttachments_none (d := endedWith '=' g (wg1Fields v) (putVisit slot v d)) hf ho

theorem wg1Done_attached {slot n : Nat} {v : VisitRec} (hidle : outstanding d = []) (hf : d.txu.freeHeld = [])
    (ho : d.txu.owed = [⟨v.number, n⟩]) (hv : findVisit d v.number = none) (hg : d.exe.slot = some g) : wg1Done nv true slot v d =
      owing [] (requested ⟨.attach v.number slot, visitWrite nv slot (some { v with summary := summaryHeld d n })⟩
        { endedWith '=' g (wg1Fields v) (putVisit slot v d) with txu := { (putVisit slot v d).txu with owed := [] } }) := by
  have hdone : wg1Done nv true slot v d = requestAttachments nv (endedWith '=' g (wg1Fields v) (putVisit slot v d)) :=
    congrArg (requestAttachments nv) (complete_eq (d := putVisit slot v d) _ hg)
  rw [hdone]
  exact requestAttachments_one (d := endedWith '=' g (wg1Fields v) (putVisit slot v d)) hidle hf ho (findVisit_putVisit hv)

theorem wg1Done_failed {slot : Nat} {v : VisitRec} (hf : d.txu.freeHeld = []) (ho : ∀ e ∈ d.txu.owed, e.visit = v.number)
    (hg : d.exe.slot = some g) : wg1Done nv false slot v d = endedWith '#' g [['N', 'V', 'F']] (unattached v.number d) := by
  have hgone : d.txu.owed.filter (fun e => e.visit != v.number) = [] := by
    rw [List.filter_eq_nil_iff]
    intro e he
    rw [ho e he, bne_self_eq_false]
    exact Bool.false_ne_true
  have hdrop : unattached v.number d = owing []
      { d with txu := { d.txu with awaiting := d.txu.awaiting.filter fun e => e.visit != v.number } } := by
    rw [unattached, hgone]
  have hdone : wg1Done nv false slot v d = requestAttachments nv (endedWith '#' g [['N', 'V', 'F']] (unattached v.number d)) :=
    congrArg (requestAttachments nv) (failWith_eq (d := unattached v.number d) .nvf [] hg)
  rw [hdone, hdrop]
  refine (requestAttachments_none ?_ ?_).trans ?_
  · exact hf
  · rfl
  · exact congrArg (endedWith '#' g [['N', 'V', 'F']]) (owing_owing _)

/-- The visits a passed attachment write leaves. -/
theorem attachDone_eq (ok second : Bool) (slot seq : Nat) (v : VisitRec) (d : Device) :
    attachDone nv ok (.visit slot second ⟨seq, some v⟩) d =
      requestAttachments nv (releaseFree nv (if ok then putVisit slot v d else d)) := by
  cases ok <;> rfl

theorem releaseFree_none (h : ∀ x rec j b, d.exe.stage ≠ .freeing x rec j b true) : releaseFree nv d = d := by
  unfold releaseFree
  split
  next x rec j b hst => exact absurd hst (h x rec j b)
  next => rfl

theorem requestFree_idle {x : Draft} {rec : JournalRec} {slot : Nat} {second : Bool} (hidle : outstanding d = []) :
    requestFree nv x rec slot second d = atStage (.freeing x rec slot second false) (requested ⟨.longOp, visitWrite nv slot none⟩ d) := by
  rw [requestFree, visitBusy_idle slot hidle, request_idle _ hidle]
  rfl

theorem requested_txu (r : WriteReq) (d : Device) : (requested r d).txu = d.txu := by
  unfold requested
  split <;> rfl

theorem releaseFree_held {x : Draft} {rec : JournalRec} {j : Nat} {b : Bool} (hidle : outstanding d = [])
    (hst : d.exe.stage = .freeing x rec j b true) : releaseFree nv d =
      atStage (.freeing x rec j b false) (requested ⟨.longOp, visitWrite nv j none⟩ d) := by
  unfold releaseFree
  rw [hst]
  exact requestFree_idle hidle

theorem startFreeDone_done {ok : Bool} {r : FreeReq} (hf : d.txu.freeHeld = []) (ho : d.txu.owed = []) (h : ok = true ∨ r.second = true) :
    startFreeDone nv ok r d = owing [] d := by
  have hor : (ok || r.second) = true := Bool.or_eq_true_iff.2 h
  rw [startFreeDone, if_pos hor]
  exact requestAttachments_none hf ho

/-- A start-up freeing write held (R111). -/
def freeRequest (nv : NvStore) (r : FreeReq) : WriteReq :=
  if r.isVisit then ⟨.freeVisit r.slot r.second, visitWrite nv r.slot none⟩ else ⟨.freeTare r.slot r.second, tareWrite nv r.slot none⟩

/-- The one held freeing write is requested. -/
theorem requestFreeing_one {r : FreeReq} (hidle : outstanding d = []) (hf : d.txu.freeHeld = [r]) :
    requestFreeing nv Config.attachCap d = requested (freeRequest nv r) { d with txu := { d.txu with freeHeld := [] } } := by
  have hafter (q : WriteReq) {e : Device} (he : outstanding e = []) (hnone : e.txu.freeHeld = []) :
      requestFreeing nv 3 (request q e) = requested q e := by
    rw [request_idle q he]
    exact requestFreeing_none 3 ((congrArg Txu.freeHeld (requested_txu q e)).trans hnone)
  have hcap : requestFreeing nv Config.attachCap d = requestFreeing nv (3 + 1) d := rfl
  rw [hcap, requestFreeing, hf]
  dsimp only
  rw [if_pos (shareCount_idle _ hidle), freeRequest]
  split
  · exact hafter _ hidle rfl
  · exact hafter _ hidle rfl

/-- The first NVF of a start-up freeing write: it is requested once more. -/
theorem startFreeDone_again {r : FreeReq} (hidle : outstanding d = []) (hf : d.txu.freeHeld = []) (ho : d.txu.owed = [])
    (h : r.second = false) : startFreeDone nv false r d = owing [] (requested (freeRequest nv { r with second := true }) d) := by
  have hsame : ({ d with txu := { d.txu with freeHeld := [] } } : Device) = d := by rw [← hf]
  have hdone : startFreeDone nv false r d = requestAttachments nv
      { d with txu := { d.txu with freeHeld := [{ r with second := true }] } } := by
    rw [startFreeDone, h, hf]
    rfl
  have howed (q : WriteReq) : (requested q d).txu.owed = [] := (congrArg Txu.owed (requested_txu q d)).trans ho
  have hone := requestFreeing_one (nv := nv) (d := { d with txu := { d.txu with freeHeld := [{ r with second := true }] } }) hidle rfl
  rw [hdone, requestAttachments, hone]
  dsimp only
  rw [hsame, requestOwed_none _ (howed _), syncOwed_eq, howed]

end visits

/-! ### Records (R120, R121, R130 to R135, R142, R143) -/

section records

variable {nv nv' : NvStore} {d : Device} {g : Tag} {x : Draft} {rec : JournalRec}

theorem recordReply_eq (rec : JournalRec) : recordReply rec = recordShown rec := by
  unfold recordReply recordShown
  cases rec.body <;> rfl

theorem raiseJournal_ntc (nv nv' : NvStore) (d : Device) : raiseJournal nv nv' d = { d with ntc := (raiseJournal nv nv' d).ntc } := by
  unfold raiseJournal
  dsimp only
  split
  · rw [raise_eq, noticed_ntc]
  · rfl

/-- The visit that a record of this body frees (R120, R143). -/
def freedVisit : JournalBody → Option Nat
  | .ticket n .. => some n
  | .cancel n _ => some n
  | _ => none

theorem freeVisitOf_eq (nv : NvStore) (x : Draft) (rec : JournalRec) (d : Device) : freeVisitOf nv x rec d =
    match (freedVisit rec.body).bind fun n => (findVisit d n).map fun e => (n, e.1) with
    | some (n, slot) => requestFree nv x rec slot false (dropAttachment n d)
    | none => complete (recordReply rec) d := by
  have go (n : Nat) : (match findVisit d n with
      | some (slot, _) => requestFree nv x rec slot false (dropAttachment n d)
      | none => complete (recordReply rec) d) = match (findVisit d n).map fun e => (n, e.1) with
      | some (n, slot) => requestFree nv x rec slot false (dropAttachment n d)
      | none => complete (recordReply rec) d := by
    cases findVisit d n <;> rfl
  unfold freeVisitOf
  cases rec.body with
  | ticket n => exact go n
  | cancel n => exact go n
  | _ => rfl

theorem freeVisitOf_completes (hg : d.exe.slot = some g) (h : ∀ n, freedVisit rec.body = some n → findVisit d n = none) :
    freeVisitOf nv x rec d = endedWith '=' g (recordShown rec) d := by
  rw [freeVisitOf_eq, ← recordReply_eq]
  cases hb : freedVisit rec.body with
  | none => exact complete_eq _ hg
  | some n =>
    rw [Option.bind_some, h n hb]
    exact complete_eq _ hg

theorem freeVisitOf_frees {n k : Nat} {v : VisitRec} (hidle : outstanding d = []) (hb : freedVisit rec.body = some n)
    (hv : findVisit d n = some (k, v)) : freeVisitOf nv x rec d =
      atStage (.freeing x rec k false false) (requested ⟨.longOp, visitWrite nv k none⟩ (unattached n d)) := by
  rw [freeVisitOf_eq, hb, Option.bind_some, hv]
  exact requestFree_idle (d := dropAttachment n d) hidle

theorem requestJournal_idle (r : JournalRec) (hidle : outstanding d = []) :
    requestJournal r d = requested ⟨.longOp, .journal d.txu.writePos r⟩ d := request_idle _ hidle

theorem freeingDone_done {slot : Nat} {second : Bool} {ok : Bool} (hf : d.txu.freeHeld = []) (ho : d.txu.owed = [])
    (hg : d.exe.slot = some g) (h : ok = true ∨ second = true) : freeingDone nv ok x rec slot second d =
      owing [] (if ok then endedWith '=' g (recordShown rec) (eraseVisit slot d)
        else endedWith '#' g [['N', 'V', 'F'], tNat rec.number] (eraseVisit slot d)) := by
  rw [← recordReply_eq, ← complete_eq (g := g) _ (d := eraseVisit slot d) hg]
  cases ok with
  | true => exact requestAttachments_none (d := complete (recordReply rec) (eraseVisit slot d)) hf ho
  | false =>
    obtain rfl : second = true := h.resolve_left Bool.false_ne_true
    have hfail := failWith_eq (g := g) .nvf [tNat rec.number] (d := eraseVisit slot d) hg
    have hnone := requestAttachments_none (nv := nv) (d := failWith .nvf [tNat rec.number] (eraseVisit slot d)) hf ho
    rw [hfail] at hnone
    exact (congrArg (requestAttachments nv) hfail).trans hnone

end records

/-- The write of the long command in flight is reported. -/
theorem longReported {ok : Bool} {w : NvWrite} {s : State} (hrun : running s.dev = true) (hw : s.dev.nvc.writing = some ⟨.longOp, w⟩)
    (hq : s.dev.nvc.queue = []) : exec (.nvcWriteComplete ok) s =
      .next (becomes { s with nv := s.nv.land ok w } (longDone s.nv (s.nv.land ok w) ok w (reported ok s.dev))) :=
  writeReported hrun hw hq

/-- Settles O48: the reports of visit, record, TORN, freeing and attachment writes. -/
theorem journalWriteReports : Obligations.JournalWriteReports := by
  intro ok src w s hrun hw hq nv told after level numbered
  have hidle : outstanding told = [] := hq
  have hreported {d e : Device} (h : exec (.nvcWriteComplete ok) s = .next (becomes { s with nv := nv } d)) (he : d = e) : after e := he ▸ h
  refine ⟨fun g hsrc hg => ⟨fun slot v hst hf => ?_, fun slot r hwr => ?_, fun x rec k second h hst hf ho => ?_⟩,
    fun n k second seq v hsrc hwr hf => ?_, fun k second hf ho => ?_⟩
  · intro opened f said
    subst hsrc
    have hslot : told.exe.slot = some g := hg
    have hstage : told.exe.stage = .wg1Write slot v := hst
    have hlong : longDone s.nv nv ok w told = wg1Done nv ok slot v told := by
      simp only [longDone, hstage]
    refine ⟨fun hok hwg ho => ?_, fun n hok hwg ho hv => ?_, fun hok ho => ?_⟩
    · subst hok hwg
      exact hreported (longReported hrun hw hq) (hlong.trans (wg1Done_opened (d := told) hf ho hslot))
    · subst hok hwg
      exact hreported (longReported hrun hw hq) (hlong.trans (wg1Done_attached (d := told) hidle hf ho hv hslot))
    · subst hok
      exact hreported (longReported hrun hw hq) (hlong.trans (wg1Done_failed (d := told) hf ho hslot))
  · intro place moved
    subst hsrc hwr
    have hframe (d : Device) : level d = { d with ntc := (level d).ntc } := raiseJournal_ntc s.nv nv d
    have hslot : (level moved).exe.slot = some g := by rw [hframe]; exact hg
    have hquiet : outstanding (level moved) = [] := by rw [hframe]; exact hidle
    have hvisits (n : Nat) : findVisit (level moved) n = findVisit s.dev n := by rw [hframe]; rfl
    refine ⟨fun x rec hst => ⟨fun hok => ?_, fun hok => ?_⟩, fun x n hst => ?_, fun x hst => ?_⟩
    · subst hok
      have hstage : told.exe.stage = .record x rec := hst
      have hlong : longDone s.nv nv true (.journal slot r) told = freeVisitOf nv x rec (level moved) := by
        simp only [longDone, hstage]
        rfl
      have completes (h : ∀ n, freedVisit rec.body = some n → findVisit s.dev n = none) :
          after (endedWith '=' g (recordShown rec) (level moved)) :=
        hreported (longReported hrun hw hq) (hlong.trans (freeVisitOf_completes hslot fun n hn => (hvisits n).trans (h n hn)))
      have frees {n k : Nat} {v : VisitRec} (hb : freedVisit rec.body = some n) (hv : findVisit s.dev n = some (k, v)) :
          after (atStage (.freeing x rec k false false) (requested ⟨.longOp, visitWrite nv k none⟩ (unattached n (level moved)))) :=
        hreported (longReported hrun hw hq) (hlong.trans (freeVisitOf_frees hquiet hb ((hvisits n).trans hv)))
      intro closes
      have hcloses {n : Nat} (hb : freedVisit rec.body = some n) : closes n :=
        ⟨fun hv => completes fun m hm => Option.some.inj (hb.symm.trans hm) ▸ hv, fun k v hv => frees hb hv⟩
      cases hb : rec.body with
      | ticket n => exact hcloses (congrArg freedVisit hb)
      | cancel n => exact hcloses (congrArg freedVisit hb)
      | _ => exact completes fun n hn => nomatch (congrArg freedVisit hb).symm.trans hn
    · subst hok
      have hstage : told.exe.stage = .record x rec := hst
      have hlong : longDone s.nv nv false (.journal slot r) told =
          atStage (.tornAfter x rec.number) (requestJournal (tornRecord rec.number moved) moved) := by
        simp only [longDone, hstage]
        rfl
      rw [requestJournal_idle (d := moved) _ hidle] at hlong
      exact hreported (longReported hrun hw hq) hlong
    · intro detail
      have hstage : told.exe.stage = .tornAfter x n := hst
      have hlong (ok : Bool) : longDone s.nv nv ok (.journal slot r) told = tornDone s.nv nv ok x n moved := by
        simp only [longDone, hstage]
        rfl
      have hdetail : nvfDetail x n = detail := by
        simp only [nvfDetail, detail]
        cases x.body <;> rfl
      refine ⟨fun hok => ?_, fun hok => ?_⟩
      · subst hok
        refine hreported (longReported hrun hw hq) ((hlong true).trans ?_)
        rw [← hdetail]
        exact failWith_eq (d := level moved) .nvf _ hslot
      · subst hok
        refine hreported (longReported hrun hw hq) ((hlong false).trans ?_)
        rw [← hdetail]
        exact failWith_eq (d := { moved with txu := { moved.txu with owedTorn := some n } }) .nvf _ hg
    · intro rec'
      have hstage : told.exe.stage = .owedTorn x := hst
      have hlong (ok : Bool) : longDone s.nv nv ok (.journal slot r) told = owedTornDone s.nv nv ok x moved := by
        simp only [longDone, hstage]
        rfl
      refine ⟨fun hok => ?_, fun hok => ?_⟩
      · subst hok
        refine hreported (longReported hrun hw hq) ((hlong true).trans ?_)
        have hpaid := hframe { moved with txu := { moved.txu with owedTorn := none } }
        have hown : owedTornDone s.nv nv true x moved = makeOwn nv x (level { moved with txu := { moved.txu with owedTorn := none } }) := rfl
        rw [hown]
        generalize level { moved with txu := { moved.txu with owedTorn := none } } = d at hpaid ⊢
        have hd : outstanding d = [] := by rw [hpaid]; exact hidle
        rw [makeOwn, requestJournal_idle _ hd]
        rw [hpaid]
        rfl
      · subst hok
        exact hreported (longReported hrun hw hq) ((hlong false).trans (failWith_eq (d := moved) .nvf [] hg))
  · subst hsrc
    have hslot : told.exe.slot = some g := hg
    have hstage : told.exe.stage = .freeing x rec k second h := hst
    have hlong (ok : Bool) : longDone s.nv nv ok w told = freeingDone nv ok x rec k second told := by
      simp only [longDone, hstage]
    refine ⟨fun hok => ?_, fun hok hsec => ?_, fun hok hsec => ?_⟩
    · subst hok
      exact hreported (longReported hrun hw hq) ((hlong true).trans (freeingDone_done (d := told) hf ho hslot (.inl rfl)))
    · subst hok hsec
      exact hreported (longReported hrun hw hq) ((hlong false).trans (requestFree_idle (d := told) hidle))
    · subst hok hsec
      exact hreported (longReported hrun hw hq) ((hlong false).trans (freeingDone_done (d := told) hf ho hslot (.inr rfl)))
  · intro entered
    subst hsrc hwr
    have hframe : entered = { told with txu := { told.txu with visits := entered.txu.visits } } := by
      simp only [entered]
      split <;> rfl
    have hdone : reportTo s.nv nv ok ⟨.attach n k, .visit k second ⟨seq, some v⟩⟩ told = requestAttachments nv (releaseFree nv entered) :=
      attachDone_eq ok second k seq v told
    have hexec : after (requestAttachments nv (releaseFree nv entered)) := hreported (writeReported hrun hw hq) hdone
    generalize entered = e at hframe hexec ⊢
    have hquiet : outstanding e = [] := by rw [hframe]; exact hidle
    have hheld : e.txu.freeHeld = [] := by rw [hframe]; exact hf
    have howed : e.txu.owed = s.dev.txu.owed := by rw [hframe]; rfl
    have hstage : e.exe.stage = s.dev.exe.stage := by rw [hframe]; rfl
    have hsummary (q : Nat) : summaryHeld e q = summaryHeld s.dev q := by rw [hframe]; rfl
    refine ⟨fun ho hst => ?_, fun x rec j b ho hst => ?_, fun m q j u ho hst hv => ?_⟩
    · rw [releaseFree_none (hstage ▸ hst), requestAttachments_none hheld (howed.trans ho)] at hexec
      exact hexec
    · have hnext : (atStage (.freeing x rec j b false) (requested ⟨.longOp, visitWrite nv j none⟩ e)).txu = e.txu := requested_txu _ e
      rw [releaseFree_held hquiet (hstage.trans hst), requestAttachments_none ((congrArg Txu.freeHeld hnext).trans hheld)
        ((congrArg Txu.owed hnext).trans (howed.trans ho))] at hexec
      exact hexec
    · rw [releaseFree_none (hstage ▸ hst), requestAttachments_one hquiet hheld (howed.trans ho) hv, hsummary] at hexec
      exact hexec
  · refine ⟨fun hsrc => ⟨fun hdone => ?_, fun hok hsec => ?_⟩, fun hsrc => ⟨fun hdone => ?_, fun hok hsec => ?_⟩⟩
    · subst hsrc
      exact hreported (writeReported hrun hw hq) (startFreeDone_done (d := told) (r := ⟨true, k, second⟩) hf ho hdone)
    · subst hsrc hok hsec
      exact hreported (writeReported hrun hw hq) (startFreeDone_again (d := told) (r := ⟨true, k, false⟩) hidle hf ho rfl)
    · subst hsrc
      exact hreported (writeReported hrun hw hq) (startFreeDone_done (d := told) (r := ⟨false, k, second⟩) hf ho hdone)
    · subst hsrc hok hsec
      exact hreported (writeReported hrun hw hq) (startFreeDone_again (d := told) (r := ⟨false, k, false⟩) hidle hf ho rfl)

end Sys2Proof.Machine
end

section
/-! PROOF. The reports of audit and status writes: CCM and VCM, CELL-MISMATCH, held status writes and reads that wait (R165 to R187). -/

namespace Sys2Proof.Machine

open Sys2Proof.Safety

section

variable {nv : NvStore} {d : Device} {g : Tag}

/-! ### Requests with nothing outstanding -/

theorem statusBusy_idle (h : outstanding d = []) : statusBusy d = false := by
  rw [statusBusy, shareCount, h]
  rfl

theorem requestStatus_idle (rec : StatusRec) (forLong : Bool) (h : outstanding d = []) :
    requestStatus nv rec forLong d = requested ⟨.status forLong, statusWrite nv rec⟩ d :=
  requestStatus_eq (statusBusy_idle h) (queueServed_of_idle h)

/-- A stage and a request change different parts. -/
theorem requested_atStage (r : WriteReq) (st : Stage) (d : Device) : requested r (atStage st d) = atStage st (requested r d) := by
  rw [requested_nvc, requested_nvc]
  rfl

theorem requestDiscard_idle {n : Nat} (h : outstanding d = []) (hn : d.auu.next = some n) (hcap : n < 9999999) :
    requestDiscard nv d = requested ⟨.discard, .audit d.auu.writePos ⟨n, .calDiscard, d.nvc.clock, some d.mst.counter⟩⟩
      { d with auu := { d.auu with writePos := if d.auu.writePos ≥ 256 then 1 else d.auu.writePos + 1, next := some (n + 1) } } := by
  have hbusy : ¬ statusBusy d = true := by rw [statusBusy_idle h]; exact Bool.false_ne_true
  rw [requestDiscard, if_neg hbusy]
  exact append_requested hn hcap (queueServed_of_idle h)

/-! ### Held requests and held replies (R186, R187) -/

theorem releaseHeld_none (h : d.mst.held = []) : releaseHeld nv d = d := by
  have hsame : ({ d with mst := { d.mst with held := [] } } : Device) = d := by rw [← h]
  rw [releaseHeld, h, hsame]
  rfl

theorem releaseHeld_status {rec : StatusRec} {f : Bool} (h : d.mst.held = [.status rec f]) (hidle : outstanding d = []) :
    releaseHeld nv d = requested ⟨.status f, statusWrite nv rec⟩ { d with mst := { d.mst with held := [] } } := by
  rw [releaseHeld, h]
  exact requestStatus_idle (d := { d with mst := { d.mst with held := [] } }) rec f hidle

theorem auditReads_none (h : d.tx.held = []) : auditReads nv d = d := by
  have hsame : ({ d with tx := { d.tx with held := [] } } : Device) = d := by rw [← h]
  rw [auditReads, h, hsame]
  rfl

/-- Replies that waited behind a read go on in their order. -/
theorem releaseFormed (l : List Text) (h : d.tx.held = []) : (l.map HeldReply.formed).foldl (releaseReply nv) d =
    { d with tx := { d.tx with replies := d.tx.replies ++ l } } := by
  induction l generalizing d with
  | nil => rw [List.append_nil]; rfl
  | cons r l ih =>
    have hjoin : releaseReply nv d (.formed r) = { d with tx := { d.tx with replies := d.tx.replies ++ [r] } } := if_pos h
    rw [List.map_cons, List.foldl_cons, hjoin]
    refine (ih (d := { d with tx := { d.tx with replies := d.tx.replies ++ [r] } }) h).trans ?_
    rw [List.append_assoc]
    rfl

/-- A read that waited is answered, and the replies behind it go on. -/
theorem auditReads_read {ns : List Nat} {next : Option Nat} {behind : List Text}
    (h : d.tx.held = .read ⟨ns, next⟩ :: behind.map .formed) : auditReads nv d = { d with
      tx := { d.tx with held := [], replies := d.tx.replies ++ recordOf '=' ['A', 'U', 'D'] (auditShown nv ns next) :: behind }
      nvc := { d.nvc with report :=
        { d.nvc.report with readFail := min (d.nvc.report.readFail + ns.countP (readFails nv)) 65535 } } } := by
  have hread : releaseReply nv { d with tx := { d.tx with held := [] } } (.read ⟨ns, next⟩) = { d with
      tx := { d.tx with held := [], replies := d.tx.replies ++ [recordOf '=' ['A', 'U', 'D'] (auditShown nv ns next)] }
      nvc := { d.nvc with report :=
        { d.nvc.report with readFail := min (d.nvc.report.readFail + ns.countP (readFails nv)) 65535 } } } := by
    refine (answerRead_eq nv ns next _).trans ?_
    rw [answered_tx]
    rfl
  rw [auditReads, h, List.foldl_cons, hread, releaseFormed _ rfl]
  dsimp only
  rw [List.append_assoc]
  rfl

/-! ### CCM and VCM (R165, R166, R174, R175) -/

theorem ccmAuditDone_passed {w : WorkCopy} {more b : Bool} {count time : Nat} (hw : d.mst.run = some w) (hidle : outstanding d = []) :
    ccmAuditDone nv true more count time b d = atStage (.ccmRecord more count b)
      (requested ⟨.longOp, .calibration (w.toRecord (d.mst.counter + 1) time)⟩
        { d with mst := { d.mst with counter := d.mst.counter + 1 } }) := by
  simp only [ccmAuditDone, hw, if_true]
  exact congrArg (atStage _) (request_idle _ hidle)

theorem ccmAuditDone_failed {more b : Bool} {count time : Nat} (hg : d.exe.slot = some g) : ccmAuditDone nv false more count time b d =
    if b then requestDiscard nv (runClosed (endedWith '#' g [['N', 'V', 'F']] d)) else endedWith '#' g [['N', 'V', 'F']] d := by
  have hfail : failWith .nvf [] d = endedWith '#' g [['N', 'V', 'F']] d := failWith_eq _ _ hg
  simp only [ccmAuditDone, Bool.false_eq_true, if_false, hfail, discardRun_eq]

/-- The part with a verification's verdict. -/
def verdictTaken (pass : Bool) (time : Nat) (d : Device) : Device :=
  noticed .met { d with mst := { d.mst with
    verif := none
    state := if pass then .calibrated else .suspect
    due := if pass then some (time / 86400 + (d.mst.active.map (·.vint)).getD 0) else d.mst.due } }

theorem verdictTaken_mst (pass : Bool) (time : Nat) (d : Device) : verdictTaken pass time d = { d with
    mst := { d.mst with
      verif := none
      state := if pass then .calibrated else .suspect
      due := if pass then some (time / 86400 + (d.mst.active.map (·.vint)).getD 0) else d.mst.due }
    ntc := noticedNtc .met d.ntc } := by
  rw [verdictTaken, noticed_ntc]

theorem vcmAuditDone_passed {pass : Bool} {time n : Nat} (hidle : outstanding d = []) : vcmAuditDone nv true pass time n d =
    atStage (.vcmStatus pass n false) (requested ⟨.status true, statusWrite nv ⟨if pass then .calibrated else .suspect,
      if pass then some (time / 86400 + (d.mst.active.map (·.vint)).getD 0) else d.mst.due, d.mst.counter⟩⟩ (verdictTaken pass time d)) := by
  have hquiet : outstanding (atStage (.vcmStatus pass n false) (verdictTaken pass time d)) = [] := by
    rw [verdictTaken_mst]
    exact hidle
  have hlive : liveStatus (verdictTaken pass time d) = ⟨if pass then .calibrated else .suspect,
      if pass then some (time / 86400 + (d.mst.active.map (·.vint)).getD 0) else d.mst.due, d.mst.counter⟩ := by
    rw [verdictTaken_mst]
    rfl
  have hdone : vcmAuditDone nv true pass time n d = requestStatus nv (liveStatus (verdictTaken pass time d)) true
      (atStage (.vcmStatus pass n false) (verdictTaken pass time d)) := rfl
  rw [hdone, hlive, requestStatus_idle _ _ hquiet, requested_atStage]

/-- The second write of the status record that a command waits for. -/
theorem statusAgain (st : Stage) (hidle : outstanding d = []) : requestStatus nv (liveStatus d) true (setStage st d) =
    atStage st (requested ⟨.status true, statusWrite nv ⟨d.mst.state, d.mst.due, d.mst.counter⟩⟩ d) := by
  rw [requestStatus_idle (d := setStage st d) _ _ hidle, setStage_eq, requested_atStage]
  rfl

end

/-- Settles O49: the reports of CCM and VCM, of CELL-MISMATCH, and what was held behind a report. -/
theorem auditAndStatusReports : Obligations.AuditAndStatusReports := by
  intro ok src w s hrun hw hq nv told after
  have hidle : outstanding told = [] := hq
  have hreported {d e : Device} (h : exec (.nvcWriteComplete ok) s = .next (becomes { s with nv := nv } d)) (he : d = e) : after e := he ▸ h
  refine ⟨fun g hg hheld => ⟨fun items more count time b run hsrc hst hr => ?_, fun pass time n hsrc hst => ?_,
    fun more count second hsrc hm hst => ?_, fun pass n second hsrc hm hst => ?_⟩, fun hsrc hm => ?_, fun i hsrc hh how => ?_,
    fun rec f hsrc hh hm => ?_, fun ns next behind hsrc hm hh => ?_⟩
  · intro n ended
    subst hsrc
    have hslot : told.exe.slot = some g := hg
    have hstage : told.exe.stage = .ccmAudit items more count time b := hst
    have hlong (ok : Bool) : longDone s.nv nv ok w told = ccmAuditDone nv ok more count time b told := by
      simp only [longDone, hstage, auditReads_none (d := told) hheld]
    have failed (hok : ok = false) : after (if b then requestDiscard nv (runClosed ended) else ended) := by
      subst hok
      exact hreported (longReported hrun hw hq) ((hlong false).trans (ccmAuditDone_failed hslot))
    refine ⟨fun hok => ?_, fun hok hb => ?_, fun k hok hb hk hcap => ?_⟩
    · subst hok
      exact hreported (longReported hrun hw hq) ((hlong true).trans (ccmAuditDone_passed (d := told) hr hidle))
    · subst hb
      exact failed hok
    · intro closed
      have hclosed : closed = { ended with mst := { ended.mst with run := none }, ntc := noticedNtc .met ended.ntc } := noticed_ntc _ _
      have hquiet : outstanding closed = [] := by rw [hclosed]; exact hidle
      have hnext : closed.auu.next = some k := by rw [hclosed]; exact hk
      have hdiscard := requestDiscard_idle (nv := nv) hquiet hnext hcap
      subst hb
      have hgo := failed hok
      refine (congrArg after (hdiscard.trans ?_)).mp hgo
      rw [hclosed]
      rfl
  · intro state due
    subst hsrc
    have hstage : told.exe.stage = .vcmAudit pass time n := hst
    have hlong (ok : Bool) : longDone s.nv nv ok w told = vcmAuditDone nv ok pass time n told := by
      simp only [longDone, hstage, auditReads_none (d := told) hheld]
    refine ⟨fun hok => ?_, fun hok => ?_⟩
    · subst hok
      exact hreported (longReported hrun hw hq) ((hlong true).trans (vcmAuditDone_passed (d := told) hidle))
    · subst hok
      exact hreported (longReported hrun hw hq) ((hlong false).trans (failWith_eq (d := told) .nvf [] hg))
  · subst hsrc
    have hstage : told.exe.stage = .ccmStatus more count second := hst
    have hstatus : reportTo s.nv nv ok ⟨.status true, w⟩ told = longStatusDone nv ok told := by
      simp only [reportTo, releaseHeld_none (d := told) hm, if_true]
    refine ⟨fun hok => ?_, fun hok hsec => ?_, fun hok hsec => ?_⟩
    · subst hok
      refine hreported (writeReported hrun hw hq) (hstatus.trans ?_)
      simp only [longStatusDone, hstage, if_true]
      exact complete_eq (d := told) _ hg
    · subst hok hsec
      refine hreported (writeReported hrun hw hq) (hstatus.trans ?_)
      simp only [longStatusDone, hstage, Bool.false_eq_true, if_false]
      exact statusAgain (d := told) _ hidle
    · subst hok hsec
      refine hreported (writeReported hrun hw hq) (hstatus.trans ?_)
      simp only [longStatusDone, hstage, Bool.false_eq_true, if_false, if_true]
      exact failWith_eq (d := told) _ _ hg
  · intro verdict
    subst hsrc
    have hstage : told.exe.stage = .vcmStatus pass n second := hst
    have hstatus : reportTo s.nv nv ok ⟨.status true, w⟩ told = longStatusDone nv ok told := by
      simp only [reportTo, releaseHeld_none (d := told) hm, if_true]
    refine ⟨fun hok => ?_, fun hok hsec => ?_, fun hok hsec => ?_⟩
    · subst hok
      refine hreported (writeReported hrun hw hq) (hstatus.trans ?_)
      simp only [longStatusDone, hstage, if_true]
      exact complete_eq (d := told) _ hg
    · subst hok hsec
      refine hreported (writeReported hrun hw hq) (hstatus.trans ?_)
      simp only [longStatusDone, hstage, Bool.false_eq_true, if_false]
      exact statusAgain (d := told) _ hidle
    · subst hok hsec
      refine hreported (writeReported hrun hw hq) (hstatus.trans ?_)
      simp only [longStatusDone, hstage, Bool.false_eq_true, if_false, if_true]
      exact failWith_eq (d := told) _ _ hg
  · subst hsrc
    exact hreported (writeReported hrun hw hq) (releaseHeld_none (d := told) hm)
  · subst hsrc
    refine hreported (writeReported hrun hw hq) ?_
    have hquiet : (slotOf told i).owed = false := how
    have hdone : mismatchDone nv i told = storeSlot i { slotOf s.dev i with requested := false } told :=
      if_neg (by rw [hquiet]; exact Bool.false_ne_true)
    exact (congrArg (mismatchDone nv i) (auditReads_none (d := told) hh)).trans hdone
  · subst hsrc
    refine hreported (writeReported hrun hw hq) ?_
    exact (congrArg (releaseHeld nv) (auditReads_none (d := told) hh)).trans (releaseHeld_status (d := told) hm hidle)
  · subst hsrc
    refine hreported (writeReported hrun hw hq) ?_
    have hread := auditReads_read (nv := nv) (d := told) hh
    have hnone := releaseHeld_none (nv := nv) (d := auditReads nv told) (by rw [hread]; exact hm)
    exact hnone.trans hread

end Sys2Proof.Machine
end

section
/-! PROOF. The calibration write of a commit: what its report does to every block (R21, R43, R61, R80, R165, R166). -/

namespace Sys2Proof.Machine

open Sys2Proof.Safety

/-! ### Requests outside the status share -/

/-- Requests have joined those outstanding, none of them of the status share. -/
def Joined (a b : Device) : Prop := ∃ l : List WriteReq, outstanding b = outstanding a ++ l ∧ ∀ r ∈ l, r.source.share ≠ .status

theorem Joined.of_nvc {a b : Device} (h : b.nvc = a.nvc) : Joined a b :=
  ⟨[], by rw [outstanding, outstanding, h, List.append_nil], fun _ hr => (List.not_mem_nil hr).elim⟩

theorem Joined.trans {a b c : Device} (h : Joined a b) (k : Joined b c) : Joined a c := by
  obtain ⟨l, hl, hls⟩ := h
  obtain ⟨m, hm, hms⟩ := k
  refine ⟨l ++ m, by rw [hm, hl, List.append_assoc], fun r hr => ?_⟩
  obtain hr | hr := List.mem_append.1 hr
  · exact hls r hr
  · exact hms r hr

theorem Joined.asks {a b : Device} (h : Joined a b) {q : WriteReq} (hq : a.nvc.Asks q) : b.nvc.Asks q := by
  obtain ⟨l, hl, -⟩ := h
  rw [asks_iff] at hq ⊢
  rw [hl]
  exact List.mem_append_left _ hq

theorem Joined.busy {a b : Device} (h : Joined a b) : statusBusy b = statusBusy a := by
  obtain ⟨l, hl, hls⟩ := h
  have hnone : l.filter (fun r => r.source.share == .status) = [] := by
    rw [List.filter_eq_nil_iff]
    intro r hr
    rw [beq_iff_eq]
    exact hls r hr
  rw [statusBusy, statusBusy, shareCount, shareCount, hl, List.filter_append, hnone, List.append_nil]

theorem outstanding_startWrite (d : Device) : outstanding (startWrite d) = outstanding d := by
  unfold startWrite
  split
  next hc =>
    obtain ⟨-, hw⟩ := Bool.and_eq_true_iff.1 hc
    have hnone : d.nvc.writing = none := Option.isNone_iff_eq_none.1 hw
    split
    · rfl
    next r q hq =>
      rw [outstanding, outstanding, hnone, hq]
      rfl
  · rfl

theorem attach_ne_status : Share.attach ≠ Share.status := by decide

theorem longOp_ne_status : Share.longOp ≠ Share.status := by decide

theorem mismatch_ne_status : Share.mismatch ≠ Share.status := by decide

theorem request_joined {r : WriteReq} (hr : r.source.share ≠ .status) (d : Device) : Joined d (request r d) := by
  refine ⟨[r], ?_, fun q hq => ?_⟩
  · rw [request, outstanding_startWrite]
    exact (List.append_assoc _ _ _).symm
  · rw [List.mem_singleton.1 hq]
    exact hr

theorem requestFreeing_joined (nv : NvStore) (n : Nat) (d : Device) : Joined d (requestFreeing nv n d) := by
  induction n generalizing d with
  | zero => exact .of_nvc rfl
  | succ n ih =>
    unfold requestFreeing
    split
    · exact .of_nvc rfl
    next r rest _ =>
      split
      · have hrest : Joined d { d with txu := { d.txu with freeHeld := rest } } := .of_nvc rfl
        dsimp only
        split
        · refine (hrest.trans (request_joined ?_ _)).trans (ih _)
          exact attach_ne_status
        · refine (hrest.trans (request_joined ?_ _)).trans (ih _)
          exact attach_ne_status
      · exact .of_nvc rfl

theorem requestOwed_joined (nv : NvStore) (n : Nat) (d : Device) : Joined d (requestOwed nv n d) := by
  induction n generalizing d with
  | zero => exact .of_nvc rfl
  | succ n ih =>
    unfold requestOwed
    split
    · split
      · exact .of_nvc rfl
      next e _ =>
        split
        · exact .of_nvc rfl
        next slot v _ =>
          have hrest : Joined d { d with txu := { d.txu with owed := d.txu.owed.filter (· != e) } } := .of_nvc rfl
          refine (hrest.trans (request_joined ?_ _)).trans (ih _)
          exact attach_ne_status
    · exact .of_nvc rfl

theorem requestAttachments_joined (nv : NvStore) (d : Device) : Joined d (requestAttachments nv d) :=
  ((requestFreeing_joined nv _ d).trans (requestOwed_joined nv _ _)).trans (.of_nvc rfl)

theorem requestJournal_joined (rec : JournalRec) (d : Device) : Joined d (requestJournal rec d) :=
  request_joined (r := ⟨.longOp, .journal d.txu.writePos rec⟩) longOp_ne_status d

theorem makeRecord_joined (nv : NvStore) (x : Draft) (d : Device) : Joined d (makeRecord nv x d) := by
  unfold makeRecord
  split
  · exact (requestJournal_joined _ d).trans (.of_nvc rfl)
  · exact (requestJournal_joined _ d).trans (.of_nvc rfl)

theorem passageClosed_joined (nv : NvStore) (n : Nat) (d : Device) : Joined d (passageClosed nv n d) := by
  have hclosed : Joined d (requestAttachments nv (attachmentsOwed n d)) :=
    (Joined.of_nvc (b := attachmentsOwed n d) rfl).trans (requestAttachments_joined nv _)
  have hdef : passageClosed nv n d = match (requestAttachments nv (attachmentsOwed n d)).exe.stage with
      | .axleWait x k _ => if k = n
        then makeRecord nv { x with summary := summaryOfPassage (requestAttachments nv (attachmentsOwed n d)) n }
          (requestAttachments nv (attachmentsOwed n d))
        else requestAttachments nv (attachmentsOwed n d)
      | _ => requestAttachments nv (attachmentsOwed n d) := rfl
  rw [hdef]
  split
  · split
    · exact hclosed.trans (makeRecord_joined nv _ _)
    · exact hclosed
  · exact hclosed

theorem closePassage_joined (nv : NvStore) (cause : CloseCause) (t : Nat) (d : Device) : Joined d (closePassage nv cause t d) := by
  unfold closePassage
  split
  · exact .of_nvc rfl
  next p _ =>
    refine Joined.trans (.of_nvc ?_) (passageClosed_joined nv _ _)
    rw [raise_nvc]
    rfl

/-! ### Slots that take their records while audit numbers last (R19, R21) -/

/-- Slots, audit numbers, requests and notices have changed; nothing else. -/
structure SlotsTaken (a b : Device) : Prop where
  rest : b = { a with clc := { a.clc with slots := b.clc.slots }, auu := b.auu, nvc := b.nvc, ntc := b.ntc }
  enabled : b.ntc.enabled = a.ntc.enabled
  clock : b.nvc.clock = a.nvc.clock
  joined : Joined a b

theorem SlotsTaken.refl (d : Device) : SlotsTaken d d := ⟨rfl, rfl, rfl, .of_nvc rfl⟩

theorem SlotsTaken.trans {a b c : Device} (h : SlotsTaken a b) (k : SlotsTaken b c) : SlotsTaken a c where
  rest := by
    rw [k.rest, h.rest]
  enabled := k.enabled.trans h.enabled
  clock := k.clock.trans h.clock
  joined := h.joined.trans k.joined

section taken

variable {nv : NvStore} {i : SlotId} {x : Slot} {d : Device} {n : Nat}

theorem askedMismatch_taken : SlotsTaken d (askedMismatch i x d) := by
  rw [askedMismatch, noticed_ntc]
  exact ⟨rfl, noticedNtc_enabled _ _, rfl, .of_nvc rfl⟩

/-- A slot takes its record, and at most one audit number is taken. -/
theorem putSlot_slotsTaken (hn : d.auu.next = some n) (hcap : n < 9999999) : SlotsTaken d (putSlot nv i x d) ∧
    ∃ m, (putSlot nv i x d).auu.next = some m ∧ m ≤ n + 1 := by
  by_cases hentry : x.state = .mismatch ∧ (slotOf d i).state ≠ .mismatch
  · obtain ⟨hx, hold⟩ := hentry
    cases hr : x.requested with
    | true =>
      rw [putSlot_entry_marked hx hold hr, noticed_ntc]
      exact ⟨⟨rfl, noticedNtc_enabled _ _, rfl, .of_nvc rfl⟩, n, hn, Nat.le_succ n⟩
    | false =>
      have hasked := askedMismatch_taken (i := i) (x := x) (d := d)
      have hnext : (if n ≥ Config.ticketCap then none else some (n + 1)) = some (n + 1) := if_neg (Nat.not_le.2 hcap)
      rw [putSlot_entry_asked hx hold hr, append_next (askedMismatch_next hn)]
      generalize askedMismatch i x d = a at hasked ⊢
      refine ⟨hasked.trans ⟨?_, ?_, ?_, ?_⟩, n + 1, ?_, Nat.le_refl _⟩
      · rw [request_frame]
      · rw [request_frame]
      · exact (request_cells _ _).2.2.2.2.2.2.1
      · refine Joined.trans (.of_nvc rfl) (request_joined ?_ _)
        exact mismatch_ne_status
      · rw [request_frame]
        exact hnext
  · rw [putSlot_eq fun hold hx => hentry ⟨hx, hold⟩]
    refine ⟨⟨rfl, ?_, rfl, .of_nvc rfl⟩, n, hn, Nat.le_succ n⟩
    dsimp only
    split
    · rfl
    · exact noticedNtc_enabled _ _

/-- The CELL-MISMATCH record that a slot's entry asks for, at some position and number. -/
def AsksMismatch (i : SlotId) (x : Slot) (d e : Device) : Prop :=
  ∃ pos k, e.nvc.Asks ⟨.mismatch i, .audit pos ⟨k, .cellMismatch i (expectedSerial d i) (serialOf x), d.nvc.clock, some d.mst.counter⟩⟩

/-- Each slot of a list takes its new record; entries into MISMATCH are audited. -/
theorem mapSlots_taken {f : SlotId → Slot → Slot} {l : List SlotId} (hl : l.Nodup) (hn : d.auu.next = some n)
    (hcap : n + l.length ≤ 9999999) : SlotsTaken d (mapSlots nv f l d) ∧
      (∀ i, slotOf (mapSlots nv f l d) i = if i ∈ l then takenSlot (some n) (slotOf d i) (f i (slotOf d i)) else slotOf d i) ∧
      ∀ i ∈ l, (f i (slotOf d i)).state = .mismatch → (slotOf d i).state ≠ .mismatch → (f i (slotOf d i)).requested = false →
        AsksMismatch i (f i (slotOf d i)) d (mapSlots nv f l d) := by
  induction l generalizing d n with
  | nil => exact ⟨.refl d, fun _ => rfl, fun i hi => (List.not_mem_nil hi).elim⟩
  | cons j l ih =>
    obtain ⟨hj, hl⟩ := List.nodup_cons.1 hl
    rw [List.length_cons] at hcap
    obtain ⟨hput, m, hm, hmn⟩ := putSlot_slotsTaken (nv := nv) (i := j) (x := f j (slotOf d j)) hn (by omega)
    obtain ⟨hrest, hslots, hasks⟩ := ih (d := putSlot nv j (f j (slotOf d j)) d) hl hm (by omega)
    obtain ⟨-, hat⟩ := putSlot_clc (nv := nv) (i := j) (x := f j (slotOf d j)) (d := d)
    have hstep : mapSlots nv f (j :: l) d = mapSlots nv f l (putSlot nv j (f j (slotOf d j)) d) := rfl
    have hother {i : SlotId} (hi : i ≠ j) : slotOf (putSlot nv j (f j (slotOf d j)) d) i = slotOf d i := (hat i).trans (if_neg hi)
    rw [hstep]
    refine ⟨hput.trans hrest, fun i => ?_, fun i hi hx hold hr => ?_⟩
    · rw [hslots]
      by_cases hij : i = j
      · subst hij
        rw [if_neg hj, if_pos List.mem_cons_self, hat, if_pos rfl, hn]
      · rw [hother hij]
        simp only [hij, List.mem_cons, false_or]
        rfl
    · obtain rfl | hi := List.mem_cons.1 hi
      · obtain ⟨hasked, -⟩ := putSlot_taken (nv := nv) hx hold hr hn
        exact ⟨_, _, hrest.joined.asks hasked⟩
      · have hij : i ≠ j := fun h => hj (h ▸ hi)
        have hnext := hasks i hi
        rw [hother hij] at hnext
        obtain ⟨pos, k, hask⟩ := hnext hx hold hr
        have hserial : expectedSerial (putSlot nv j (f j (slotOf d j)) d) i = expectedSerial d i := by
          rw [hput.rest]
          rfl
        have hcounter : (putSlot nv j (f j (slotOf d j)) d).mst.counter = d.mst.counter := by rw [hput.rest]
        rw [hserial, hput.clock, hcounter] at hask
        exact ⟨pos, k, hask⟩

end taken

/-! ### What a commit does to the slots (R21) -/

section commit

variable {nv : NvStore} {d : Device} {n : Nat}

/-- The state a commit gives a slot. -/
def commitState (conf : Bool) (expected : Option Nat) (x : Slot) : SlotState :=
  if conf = false then .unused
  else match x.state with
    | .unused => .seeking
    | .mismatch => .verifying
    | .seeking => .seeking
    | .faulted => .faulted
    | y => if serialOf x ≠ none ∧ serialOf x ≠ expected then .mismatch else y

/-- A slot that is LIVE, HOLDING or VERIFYING has its serial compared. -/
theorem commitSlot_compared (expected : Option Nat) {x : Slot} (h : x.state = .live ∨ x.state = .holding ∨ x.state = .verifying) :
    commitSlot true expected x = if serialOf x ≠ none ∧ serialOf x ≠ expected then { x with state := .mismatch } else x := by
  cases hn : serialOf x with
  | none => obtain hs | hs | hs := h <;> simp [commitSlot, hs, hn]
  | some k => obtain hs | hs | hs := h <;> simp [commitSlot, hs, hn]

theorem commitSlot_state (conf : Bool) (expected : Option Nat) (x : Slot) :
    (commitSlot conf expected x).state = commitState conf expected x := by
  have compared (h : x.state = .live ∨ x.state = .holding ∨ x.state = .verifying) :
      (commitSlot true expected x).state = if serialOf x ≠ none ∧ serialOf x ≠ expected then .mismatch else x.state := by
    rw [commitSlot_compared expected h]
    split <;> rfl
  unfold commitState
  cases conf with
  | false => rfl
  | true =>
    cases hs : x.state with
    | live => exact (compared (.inl hs)).trans (by rw [hs]; rfl)
    | holding => exact (compared (.inr (.inl hs))).trans (by rw [hs]; rfl)
    | verifying => exact (compared (.inr (.inr hs))).trans (by rw [hs]; rfl)
    | unused => simp [commitSlot, hs, toSeeking]
    | mismatch => simp [commitSlot, hs, toVerifying, serialOf]
    | seeking => simp [commitSlot, hs]
    | faulted => simp [commitSlot, hs]

theorem commitSlot_requested (conf : Bool) (expected : Option Nat) (x : Slot) :
    (commitSlot conf expected x).requested = x.requested := by
  cases conf with
  | false => rfl
  | true =>
    cases hs : x.state with
    | unused => simp [commitSlot, hs, toSeeking]
    | mismatch => simp [commitSlot, hs, toVerifying, serialOf]
    | seeking => simp [commitSlot, hs]
    | faulted => simp [commitSlot, hs]
    | _ =>
      rw [commitSlot_compared expected (by simp [hs])]
      split <;> rfl

/-- A slot that a commit leaves in MISMATCH has entered it, with the serials it had. -/
theorem commitSlot_mismatch {conf : Bool} {expected : Option Nat} {x : Slot} (h : (commitSlot conf expected x).state = .mismatch) :
    conf = true ∧ x.state ≠ .mismatch ∧ serialOf (commitSlot conf expected x) = serialOf x := by
  cases conf with
  | false => exact nomatch h
  | true =>
    have hstate := (commitSlot_state true expected x).symm.trans h
    refine ⟨rfl, fun hm => ?_, ?_⟩
    · simp [commitState, hm] at hstate
    · by_cases hc : x.state = .live ∨ x.state = .holding ∨ x.state = .verifying
      · rw [commitSlot_compared expected hc]
        split <;> rfl
      · cases hs : x.state <;> simp [commitState, hs] at hstate hc

/-- The slots as a commit has them, before polling is set anew. -/
def committedSlots (nv : NvStore) (d : Device) : Device :=
  mapSlots nv (fun i s => commitSlot (configured d i) (expectedSerial d i) s) SlotId.all d

theorem committedSlots_spec (hn : d.auu.next = some n) (hcap : n + 16 ≤ 9999999) : SlotsTaken d (committedSlots nv d) ∧
    ∀ i, (slotOf (committedSlots nv d) i).state = commitState (configured d i) (expectedSerial d i) (slotOf d i) ∧
      ((slotOf (committedSlots nv d) i).state = .mismatch →
        ((slotOf d i).requested = true → (slotOf (committedSlots nv d) i).owed = true) ∧
        ((slotOf d i).requested = false → (slotOf (committedSlots nv d) i).requested = true ∧ ∃ pos k, (committedSlots nv d).nvc.Asks
          ⟨.mismatch i, .audit pos ⟨k, .cellMismatch i (expectedSerial d i) (serialOf (slotOf d i)), d.nvc.clock, some d.mst.counter⟩⟩)) := by
  obtain ⟨htaken, hslots, hasks⟩ := mapSlots_taken (nv := nv) (f := fun i s => commitSlot (configured d i) (expectedSerial d i) s)
    SlotId.nodup_all hn hcap
  refine ⟨htaken, fun i => ?_⟩
  have hslot : slotOf (committedSlots nv d) i =
      takenSlot (some n) (slotOf d i) (commitSlot (configured d i) (expectedSerial d i) (slotOf d i)) :=
    (hslots i).trans (if_pos (SlotId.mem_all i))
  have hstate : (slotOf (committedSlots nv d) i).state = (commitSlot (configured d i) (expectedSerial d i) (slotOf d i)).state := by
    rw [hslot, takenSlot]
    split
    · split <;> rfl
    · rfl
  refine ⟨hstate.trans (commitSlot_state _ _ _), fun hm => ?_⟩
  have hx := hstate.symm.trans hm
  obtain ⟨-, hold, hserial⟩ := commitSlot_mismatch hx
  have hreq := commitSlot_requested (configured d i) (expectedSerial d i) (slotOf d i)
  refine ⟨fun hr => ?_, fun hr => ⟨?_, ?_⟩⟩
  · rw [hslot, takenSlot, if_pos ⟨hx, hold⟩, if_pos (hreq.trans hr)]
  · rw [hslot, takenSlot, if_pos ⟨hx, hold⟩, if_neg (by rw [hreq, hr]; exact Bool.false_ne_true)]
    rfl
  · have hasked := hasks i (SlotId.mem_all i) hx hold (hreq.trans hr)
    rw [AsksMismatch, hserial] at hasked
    exact hasked

theorem slotOf_clcCommit (nv : NvStore) (d : Device) (i : SlotId) : slotOf (clcCommit nv d) i =
    if isPolled (committedSlots nv d) i && !polledAfter (committedSlots nv d) i
    then { slotOf (committedSlots nv d) i with lastOutcome := some .notPolled } else slotOf (committedSlots nv d) i :=
  Slots.sel_tab _ i

theorem isPolled_clcCommit (nv : NvStore) (d : Device) (i : SlotId) :
    isPolled (clcCommit nv d) i = polledAfter (committedSlots nv d) i := Slots.sel_tab _ i

/-- The cell lines at a commit: states, requests of entries into MISMATCH, and polling. -/
theorem clcCommit_spec (hn : d.auu.next = some n) (hcap : n + 16 ≤ 9999999) : ∃ e, SlotsTaken d e ∧
    clcCommit nv d = { e with clc := (clcCommit nv d).clc } ∧
    ∀ i, (slotOf (clcCommit nv d) i).state = commitState (configured d i) (expectedSerial d i) (slotOf d i) ∧
      ((slotOf (clcCommit nv d) i).state = .mismatch →
        ((slotOf d i).requested = true → (slotOf (clcCommit nv d) i).owed = true) ∧
        ((slotOf d i).requested = false → (slotOf (clcCommit nv d) i).requested = true ∧ ∃ pos k, (clcCommit nv d).nvc.Asks
          ⟨.mismatch i, .audit pos ⟨k, .cellMismatch i (expectedSerial d i) (serialOf (slotOf d i)), d.nvc.clock, some d.mst.counter⟩⟩)) ∧
      isPolled (clcCommit nv d) i = (isPolled d i && (configured d i || workConfigured d i)) ∧
      (isPolled d i = true → isPolled (clcCommit nv d) i = false → (slotOf (clcCommit nv d) i).lastOutcome = some .notPolled) := by
  obtain ⟨htaken, hslots⟩ := committedSlots_spec (nv := nv) hn hcap
  have hpolled (i : SlotId) : isPolled (committedSlots nv d) i = isPolled d i := isPolled_congr (by rw [htaken.rest]) i
  have hafter (i : SlotId) : polledAfter (committedSlots nv d) i = (isPolled d i && (configured d i || workConfigured d i)) := by
    have hdef : polledAfter (committedSlots nv d) i =
      (isPolled (committedSlots nv d) i && (configured (committedSlots nv d) i || workConfigured (committedSlots nv d) i)) := rfl
    rw [hdef, hpolled, htaken.rest]
    rfl
  refine ⟨committedSlots nv d, htaken, rfl, fun i => ?_⟩
  obtain ⟨hstate, hmismatch⟩ := hslots i
  have hsame : (slotOf (clcCommit nv d) i).state = (slotOf (committedSlots nv d) i).state ∧
      (slotOf (clcCommit nv d) i).owed = (slotOf (committedSlots nv d) i).owed ∧
      (slotOf (clcCommit nv d) i).requested = (slotOf (committedSlots nv d) i).requested := by
    rw [slotOf_clcCommit]
    split <;> exact ⟨rfl, rfl, rfl⟩
  obtain ⟨hs, ho, hr⟩ := hsame
  refine ⟨hs.trans hstate, fun hm => ?_, (isPolled_clcCommit nv d i).trans (hafter i), fun hp hnot => ?_⟩
  · rw [ho, hr]
    exact hmismatch (hs.symm.trans hm)
  · rw [isPolled_clcCommit] at hnot
    rw [slotOf_clcCommit, hpolled, hp, hnot]
    rfl

end commit

/-! ### The filter, the zero and the lane at a commit (R43, R61, R80) -/

section lane

variable {nv : NvStore} {d : Device}

theorem csuCommit_lastGood (d : Device) (i : SlotId) : (csuCommit d).csu.lastGood.sel i = match d.csu.lastGood.sel i, slotCal d i with
    | some l, some c => if c.configured then some (lastGoodOf c l.raw l.temp l.ovl) else none
    | _, _ => none := Slots.sel_tab _ i

/-- The newest of the history after a close keeps the clock reading of the close. -/
theorem closePassage_closeTime (nv : NvStore) (cause : CloseCause) (t : Nat) {p : Passage} (hp : d.lsv.current = some p) :
    ∃ q, (closePassage nv cause t d).lsv.history.getLast? = some q ∧ q.closeTime = d.nvc.clock := by
  obtain ⟨-, ⟨owes, hhist⟩, -⟩ := closePassage_frame nv cause t hp
  have hhead : passageHead (closedRecord cause t p d) = passageHead { p with
    closeCause := some cause
    closeTime := d.nvc.clock
    closeAt := some t
    flags := { p.flags with tailgateOut := p.flags.tailgateOut || cause == .tailgate } } := axuSolve_head _ _ _
  rw [hhist]
  refine ⟨_, by rw [List.map_append, List.map_singleton, List.getLast?_append_cons, List.getLast?_singleton], ?_⟩
  exact (congrArg Passage.closeTime hhead :)

theorem laneCommit_eq (nv : NvStore) (d : Device) :
    laneCommit nv d = setLane .init (timersStopped (closePassage nv .commit (reportInstant d) d)) := rfl

theorem laneCommit_rest (nv : NvStore) (h : LaneProof d.exe.stage) : laneRest (laneCommit nv d) = laneRest d := by
  have hclose := closePassage_rest nv .commit (reportInstant d) h
  have hstill : LaneProof (timersStopped (closePassage nv .commit (reportInstant d) d)).exe.stage :=
    (congrArg (fun x : Exe => LaneProof x.stage) (laneRest_exe hclose)).mpr h
  exact (setLane_rest .init hstill).trans hclose

theorem laneCommit_cells (nv : NvStore) (d : Device) : CellSame (laneCommit nv d) d :=
  (setLane_cells .init (timersStopped (closePassage nv .commit (reportInstant d) d))).trans (closePassage_cells nv .commit _ d)

theorem laneCommit_joined (nv : NvStore) (d : Device) : Joined d (laneCommit nv d) :=
  (closePassage_joined nv .commit (reportInstant d) d).trans (.of_nvc (setLane_nvc _ _))

theorem laneCommit_lane (nv : NvStore) (d : Device) : (laneCommit nv d).lsv.lane = .init ∧ (laneCommit nv d).lsv.settle = none ∧
    (laneCommit nv d).lsv.clear = none ∧ (laneCommit nv d).lsv.current = none := by
  rw [laneCommit_eq, setLane_eq]
  refine ⟨rfl, rfl, rfl, ?_⟩
  cases hp : d.lsv.current with
  | none =>
    have hsame : closePassage nv .commit (reportInstant d) d = d := by simp only [closePassage, hp]
    rw [hsame]
    exact hp
  | some p =>
    obtain ⟨hframe, -, -⟩ := closePassage_frame nv .commit (reportInstant d) hp
    rw [hframe]
    rfl

theorem laneCommit_empty (nv : NvStore) (hp : d.lsv.current = none) : (laneCommit nv d).lsv.history = d.lsv.history := by
  have hsame : closePassage nv .commit (reportInstant d) d = d := by simp only [closePassage, hp]
  rw [laneCommit_eq, setLane_eq, hsame]
  rfl

/-- The current passage closes COMMIT into the history. -/
theorem laneCommit_closes (nv : NvStore) {p : Passage} (hp : d.lsv.current = some p) :
    (d.lsv.history.length ≤ 4 → (laneCommit nv d).lsv.history.length = min 4 (d.lsv.history.length + 1)) ∧
    (∃ q, (laneCommit nv d).lsv.history.getLast? = some q ∧ q.number = p.number ∧ q.closeCause = some .commit ∧
      q.closeTime = d.nvc.clock ∧ q.ring = p.ring ∧ q.result ≠ none ∧ q.closeAt = some (reportInstant d)) ∧
    (d.ntc.enabled.axl = true → (laneCommit nv d).ntc.pending.axl = true) := by
  obtain ⟨⟨q, hlast, hnum, hcause, hat, hring, hres, -⟩, hlength⟩ := closePassage_newest nv .commit (reportInstant d) hp
  obtain ⟨q', hlast', htime⟩ := closePassage_closeTime nv .commit (reportInstant d) hp
  obtain rfl := Option.some.inj (hlast.symm.trans hlast')
  obtain ⟨hframe, -, -⟩ := closePassage_frame nv .commit (reportInstant d) hp
  have hnotices : (timersStopped (closePassage nv .commit (reportInstant d) d)).ntc = noticedNtc .axl d.ntc := (congrArg Device.ntc hframe :)
  rw [laneCommit_eq, setLane_eq, hnotices]
  refine ⟨hlength, ⟨q, hlast, hnum, hcause, htime, hring, hres, hat⟩, fun hen => ?_⟩
  dsimp only
  split
  · exact noticedNtc_axl hen
  · rw [noticedNtc_lne_axl]
    exact noticedNtc_axl hen

end lane

/-! ### The blocks together (R165, R166) -/

section blocks

variable {nv : NvStore} {d : Device} {n : Nat}

theorem blocksCommit_eq (nv : NvStore) (d : Device) :
    blocksCommit nv d = laneCommit nv (zsuCommit (csuCommit (clcCommit nv d))) := rfl

/-- The part as the lane finds it at a commit. -/
def unlanedCommit (nv : NvStore) (d : Device) : Device := zsuCommit (csuCommit (clcCommit nv d))

theorem unlanedCommit_frame (hn : d.auu.next = some n) (hcap : n + 16 ≤ 9999999) : unlanedCommit nv d = { d with
    clc := (clcCommit nv d).clc
    csu := { d.csu with history := [], lastGood := (unlanedCommit nv d).csu.lastGood }
    zsu := ⟨[], false, d.mst.active.map (·.zcal), none, false, none⟩
    auu := (clcCommit nv d).auu
    nvc := (clcCommit nv d).nvc
    ntc := (clcCommit nv d).ntc } := by
  obtain ⟨e, htaken, hclc, -⟩ := clcCommit_spec (nv := nv) hn hcap
  have hframe : clcCommit nv d = { d with
      clc := (clcCommit nv d).clc, auu := (clcCommit nv d).auu, nvc := (clcCommit nv d).nvc, ntc := (clcCommit nv d).ntc } := by
    generalize clcCommit nv d = a at hclc ⊢
    rw [hclc, htaken.rest]
  have hdef : unlanedCommit nv d = { clcCommit nv d with
      csu := { (clcCommit nv d).csu with history := [], lastGood := (unlanedCommit nv d).csu.lastGood }
      zsu := ⟨[], false, (clcCommit nv d).mst.active.map (·.zcal), none, false, none⟩ } := rfl
  refine hdef.trans ?_
  generalize (unlanedCommit nv d).csu.lastGood = l
  generalize clcCommit nv d = a at hframe ⊢
  rw [hframe]

theorem noticedNtc_met {n : Ntc} (h : n.enabled.met = true) : (noticedNtc .met n).pending.met = true := by
  have hget : n.enabled.get .met = true := h
  rw [noticedNtc, if_pos hget]
  rfl

theorem noticedNtc_met_axl (n : Ntc) : (noticedNtc .met n).pending.axl = n.pending.axl := by
  unfold noticedNtc
  split <;> rfl

theorem requestStatus_asks {q : WriteReq} (rec : StatusRec) (fl : Bool) (h : d.nvc.Asks q) : (requestStatus nv rec fl d).nvc.Asks q := by
  unfold requestStatus
  split
  · exact h
  · exact request_asks _ h

/-- The blocks act, MET is raised, and the status write is asked for. -/
def commitActs (nv : NvStore) (rec : StatusRec) (fl : Bool) (d : Device) : Device :=
  requestStatus nv rec fl (noticed .met (blocksCommit nv d))

/-- The parts a commit leaves or sets as a whole. -/
theorem commitActs_frame (rec : StatusRec) (fl : Bool) (hst : LaneProof d.exe.stage) (hn : d.auu.next = some n) (hcap : n + 16 ≤ 9999999) :
    (commitActs nv rec fl d).mst = { d.mst with held := (commitActs nv rec fl d).mst.held } ∧
    (commitActs nv rec fl d).exe = d.exe ∧ (commitActs nv rec fl d).tx = d.tx ∧
    (commitActs nv rec fl d).lsv = (laneCommit nv (unlanedCommit nv d)).lsv ∧
    (commitActs nv rec fl d).csu = (unlanedCommit nv d).csu ∧ (commitActs nv rec fl d).zsu = (unlanedCommit nv d).zsu ∧
    (commitActs nv rec fl d).clc = (clcCommit nv d).clc ∧
    (commitActs nv rec fl d).ntc = noticedNtc .met (laneCommit nv (unlanedCommit nv d)).ntc := by
  have hframe := unlanedCommit_frame (nv := nv) hn hcap
  have hexe : (unlanedCommit nv d).exe = d.exe := (congrArg Device.exe hframe :)
  have hrest := laneCommit_rest nv (d := unlanedCommit nv d) (by rw [hexe]; exact hst)
  obtain ⟨hclc, -⟩ := laneCommit_cells nv (unlanedCommit nv d)
  simp only [laneRest, Prod.mk.injEq] at hrest
  obtain ⟨-, hcsu, hzsu, hmst, -, -, htx, hexe'⟩ := hrest
  have hdef : commitActs nv rec fl d = requestStatus nv rec fl (noticed .met (laneCommit nv (unlanedCommit nv d))) := rfl
  have hstatus := requestStatus_frame nv rec fl (noticed .met (laneCommit nv (unlanedCommit nv d)))
  rw [← hdef, noticed_ntc] at hstatus
  generalize commitActs nv rec fl d = c at hstatus ⊢
  refine ⟨?_, ?_, ?_, ?_, ?_, ?_, ?_, ?_⟩
  · refine (congrArg Device.mst hstatus :).trans ?_
    exact congrArg (fun m : Mst => { m with held := c.mst.held }) (hmst.trans (congrArg Device.mst hframe :))
  · exact ((congrArg Device.exe hstatus :).trans hexe').trans hexe
  · exact ((congrArg Device.tx hstatus :).trans htx).trans (congrArg Device.tx hframe :)
  · exact (congrArg Device.lsv hstatus :)
  · exact (congrArg Device.csu hstatus :).trans hcsu
  · exact (congrArg Device.zsu hstatus :).trans hzsu
  · exact ((congrArg Device.clc hstatus :).trans hclc).trans (congrArg Device.clc hframe :)
  · exact (congrArg Device.ntc hstatus :)

/-- The requests of a commit: those of the cell lines stay, and the status write is one of them while its share is free. -/
theorem commitActs_asks (rec : StatusRec) (fl : Bool) (hn : d.auu.next = some n) (hcap : n + 16 ≤ 9999999) :
    (∀ q, (clcCommit nv d).nvc.Asks q → (commitActs nv rec fl d).nvc.Asks q) ∧
    (statusBusy d = false → (commitActs nv rec fl d).nvc.Asks ⟨.status fl, statusWrite nv rec⟩) := by
  obtain ⟨e, htaken, hclc, -⟩ := clcCommit_spec (nv := nv) hn hcap
  have hnvc : (noticed .met (laneCommit nv (unlanedCommit nv d))).nvc = (laneCommit nv (unlanedCommit nv d)).nvc := by rw [noticed_ntc]
  have hlines : Joined (clcCommit nv d) (noticed .met (laneCommit nv (unlanedCommit nv d))) :=
    (Joined.of_nvc (b := unlanedCommit nv d) rfl).trans ((laneCommit_joined nv _).trans (.of_nvc hnvc))
  have hall : Joined d (noticed .met (laneCommit nv (unlanedCommit nv d))) :=
    (htaken.joined.trans (.of_nvc (by rw [hclc]))).trans hlines
  refine ⟨fun q hq => requestStatus_asks rec fl (hlines.asks hq), fun hb => ?_⟩
  have hfree : ¬ statusBusy (noticed .met (laneCommit nv (unlanedCommit nv d))) = true := by
    rw [hall.busy, hb]
    exact Bool.false_ne_true
  have hdef : commitActs nv rec fl d = requestStatus nv rec fl (noticed .met (laneCommit nv (unlanedCommit nv d))) := rfl
  rw [hdef, requestStatus, if_neg hfree]
  exact request_asks_self _ _

end blocks

/-! ### The report of the calibration write -/

section report

variable {ok : Bool} {r : CalRecord} {more : Bool} {count : Nat} {d : Device}

/-- The part as the blocks find it: the record active with its state and due date, or none. -/
def commitStart (ok : Bool) (r : CalRecord) (more : Bool) (count : Nat) (d : Device) : Device :=
  { d with
    exe := if ok then { d.exe with stage := .ccmStatus more count false } else d.exe
    mst := { d.mst with
      active := if ok then some r else none
      run := if ok then none else d.mst.run
      state := if ok then .calibrated else .uncalibrated
      due := if ok then some (r.commitTime / 86400 + r.vint) else d.mst.due } }

/-- The status record a commit writes. -/
def commitStatus (ok : Bool) (r : CalRecord) (d : Device) : StatusRec :=
  ⟨if ok then .calibrated else .uncalibrated, if ok then some (r.commitTime / 86400 + r.vint) else d.mst.due,
    if ok then r.counter else d.mst.counter⟩

/-- What the report of the calibration write leaves. -/
def commitReported (nv : NvStore) (ok : Bool) (r : CalRecord) (more : Bool) (count : Nat) (d : Device) : Device :=
  commitActs nv (commitStatus ok r d) ok (commitStart ok r more count d)

theorem commitStart_proof (hst : d.exe.stage = .ccmRecord more count false) : LaneProof (commitStart ok r more count d).exe.stage := by
  cases ok with
  | true => exact ⟨fun _ => rfl, fun _ _ _ => Stage.noConfusion⟩
  | false =>
    have hsame : (commitStart false r more count d).exe.stage = .ccmRecord more count false := hst
    rw [hsame]
    exact ⟨fun _ => rfl, fun _ _ _ => Stage.noConfusion⟩

theorem ccmRecordDone_eq (nv : NvStore) (hexe : (commitReported nv ok r more count d).exe.slot = some .ccm) :
    ccmRecordDone nv ok (.calibration r) more count false d = if ok then commitReported nv ok r more count d
      else endedWith '#' .ccm [['N', 'V', 'F']] (commitReported nv ok r more count d) := by
  cases ok with
  | true => simp only [ccmRecordDone, installRecord, commitReported, commitActs, commitStatus, commitStart, if_true, setStage, raise_eq,
      dayOf, Config.daySeconds]
  | false =>
    have hlose : loseRecord nv d = commitReported nv false r more count d := by
      simp only [loseRecord, commitReported, commitActs, commitStatus, commitStart, Bool.false_eq_true, if_false, raise_eq]
    have hdone : ccmRecordDone nv false (.calibration r) more count false d = failWith .nvf [] (loseRecord nv d) := rfl
    rw [hdone, hlose, failWith_eq .nvf [] hexe]
    rfl

theorem commitStart_zcal : (commitStart ok r more count d).mst.active.map (·.zcal) = if ok then some r.zcal else none := by
  cases ok <;> rfl

theorem commitStart_slotCal (i : SlotId) : slotCal (commitStart ok r more count d) i = if ok then some (r.slots.sel i) else none := by
  cases ok <;> rfl

/-- The last-good records as a commit forms them. -/
theorem lastGood_committed {e : Device} (hcsu : e.csu = d.csu) (hmst : e.mst = (commitStart ok r more count d).mst) (i : SlotId) :
    (csuCommit e).csu.lastGood.sel i = match d.csu.lastGood.sel i with
      | some l => if ok = true ∧ (r.slots.sel i).configured = true then
          some ⟨l.raw, l.temp, l.ovl, (cellWeight (r.slots.sel i) l.raw l.temp l.ovl).1, (cellWeight (r.slots.sel i) l.raw l.temp l.ovl).2⟩
        else none
      | none => none := by
  have hcal : slotCal e i = if ok then some (r.slots.sel i) else none := by
    rw [← commitStart_slotCal (d := d) (more := more) (count := count), slotCal, hmst]
    rfl
  rw [csuCommit_lastGood, hcsu, hcal]
  cases d.csu.lastGood.sel i with
  | none => rfl
  | some l =>
    cases ok with
    | false => rfl
    | true => simp only [if_true, true_and, lastGoodOf]

theorem commitState_started (i : SlotId) (x : Slot) :
    commitState (configured (commitStart ok r more count d) i) (expectedSerial (commitStart ok r more count d) i) x =
      if ok = false ∨ (r.slots.sel i).configured = false then .unused
      else match x.state with
        | .unused => .seeking
        | .mismatch => .verifying
        | .seeking => .seeking
        | .faulted => .faulted
        | y => if serialOf x ≠ none ∧ serialOf x ≠ (r.slots.sel i).serial then .mismatch else y := by
  cases ok with
  | false => rfl
  | true =>
    have hconf : configured (commitStart true r more count d) i = (r.slots.sel i).configured := rfl
    have hexp : expectedSerial (commitStart true r more count d) i =
        if (r.slots.sel i).configured then (r.slots.sel i).serial else none := rfl
    rw [commitState, hconf, hexp]
    cases (r.slots.sel i).configured with
    | false => rfl
    | true => cases x.state <;> rfl

/-- A slot that the commit leaves in MISMATCH is configured in the new record, which gives its serial. -/
theorem commitState_mismatch {i : SlotId} {x : Slot}
    (h : commitState (configured (commitStart ok r more count d) i) (expectedSerial (commitStart ok r more count d) i) x = .mismatch) :
    expectedSerial (commitStart ok r more count d) i = (r.slots.sel i).serial := by
  by_cases hno : ok = false ∨ (r.slots.sel i).configured = false
  · rw [commitState_started, if_pos hno] at h
    exact nomatch h
  · obtain ⟨hok, hconf⟩ := not_or.1 hno
    obtain rfl := Bool.eq_true_of_not_eq_false hok
    have hexp : expectedSerial (commitStart true r more count d) i =
        if (r.slots.sel i).configured then (r.slots.sel i).serial else none := rfl
    rw [hexp, if_pos (Bool.eq_true_of_not_eq_false hconf)]

theorem statusBusy_reported {w : NvWrite} (hw : d.nvc.writing = some ⟨.longOp, w⟩) : statusBusy (reported ok d) = statusBusy d := by
  have hout : outstanding d = ⟨.longOp, w⟩ :: outstanding (reported ok d) := by
    rw [outstanding, hw]
    rfl
  rw [statusBusy, statusBusy, shareCount, shareCount, hout, List.filter_cons_of_neg (by rw [beq_iff_eq]; exact longOp_ne_status)]

/-- The part when the report of the calibration write has acted. -/
def commitFinal (nv : NvStore) (ok : Bool) (r : CalRecord) (more : Bool) (count : Nat) (d : Device) : Device :=
  if ok then commitReported nv ok r more count d else endedWith '#' .ccm [['N', 'V', 'F']] (commitReported nv ok r more count d)

theorem commitFinal_frame (nv : NvStore) : commitFinal nv ok r more count d = { commitReported nv ok r more count d with
    exe := (commitFinal nv ok r more count d).exe
    tx := (commitFinal nv ok r more count d).tx } := by
  cases ok <;> rfl

/-- What the report of the calibration write leaves in each block, the lights and the taking of the next request apart. -/
structure Committed (nv : NvStore) (ok : Bool) (r : CalRecord) (more : Bool) (count : Nat) (d t : Device) : Prop where
  mst : ∃ h, t.mst = { (commitStart ok r more count d).mst with held := h }
  clc : t.clc = (clcCommit nv (commitStart ok r more count d)).clc
  lsv : ∃ x y, t.lsv = { (laneCommit nv (unlanedCommit nv (commitStart ok r more count d))).lsv with greenIn := x, greenOut := y }
  ntc : t.ntc = noticedNtc .met (laneCommit nv (unlanedCommit nv (commitStart ok r more count d))).ntc
  csu : t.csu = (unlanedCommit nv (commitStart ok r more count d)).csu
  zsu : t.zsu = (unlanedCommit nv (commitStart ok r more count d)).zsu
  stage : t.exe.stage = if ok then .ccmStatus more count false else .ended
  longs : ok = false → t.tx.longs = d.tx.longs ++ [recordOf '#' ['C', 'C', 'M'] [['N', 'V', 'F']]]
  asks : ∀ q, (clcCommit nv (commitStart ok r more count d)).nvc.Asks q → q ∈ outstanding t
  status : statusBusy d = false → ⟨.status ok, statusWrite nv (commitStatus ok r d)⟩ ∈ outstanding t

variable {nv : NvStore} {n : Nat}

theorem commitFinal_stage (hexe : (commitReported nv ok r more count d).exe = (commitStart ok r more count d).exe) :
    (commitFinal nv ok r more count d).exe.stage = if ok then .ccmStatus more count false else .ended := by
  cases ok with
  | true => exact congrArg Exe.stage hexe
  | false => rfl

theorem commitFinal_longs (htx : (commitReported nv ok r more count d).tx = (commitStart ok r more count d).tx) (hok : ok = false) :
    (commitFinal nv ok r more count d).tx.longs = d.tx.longs ++ [recordOf '#' ['C', 'C', 'M'] [['N', 'V', 'F']]] := by
  subst hok
  exact congrArg (fun x : Tx => x.longs ++ [recordOf '#' ['C', 'C', 'M'] [['N', 'V', 'F']]]) htx

/-- The part with its next write taken and its lights evaluated. -/
theorem becomes_started (s : State) (e : Device) : ∃ x y, (becomes s (startWrite e)).dev =
    { e with lsv := { e.lsv with greenIn := x, greenOut := y }, nvc := startedNvc e.nvc } := by
  rw [becomes, refreshLights_eq, startWrite_nvc]
  exact ⟨_, _, rfl⟩

theorem committed_becomes (s : State) (hst : d.exe.stage = .ccmRecord more count false) (hn : d.auu.next = some n)
    (hcap : n + 16 ≤ 9999999) :
    Committed nv ok r more count d (becomes s (startWrite (commitFinal nv ok r more count d))).dev := by
  have hproof : LaneProof (commitStart ok r more count d).exe.stage := commitStart_proof hst
  have hnext : (commitStart ok r more count d).auu.next = some n := hn
  obtain ⟨hmst, hexe, htx, hlsv, hcsu, hzsu, hclc, hntc⟩ := commitActs_frame (nv := nv) (commitStatus ok r d) ok hproof hnext hcap
  obtain ⟨hkept, hstatus⟩ := commitActs_asks (nv := nv) (commitStatus ok r d) ok hnext hcap
  have hstage := commitFinal_stage (nv := nv) hexe
  have hlongs := commitFinal_longs (nv := nv) htx
  have hframe := commitFinal_frame (ok := ok) (r := r) (more := more) (count := count) (d := d) nv
  have hreported : commitActs nv (commitStatus ok r d) ok (commitStart ok r more count d) = commitReported nv ok r more count d := rfl
  rw [hreported] at hmst hlsv hcsu hzsu hclc hntc hkept hstatus
  obtain ⟨x, y, ht⟩ := becomes_started s (commitFinal nv ok r more count d)
  generalize (becomes s (startWrite (commitFinal nv ok r more count d))).dev = t at ht ⊢
  generalize commitFinal nv ok r more count d = final at hframe ht hstage hlongs
  have hasks {q : WriteReq} (hq : (commitReported nv ok r more count d).nvc.Asks q) : q ∈ outstanding t := by
    have hfinal : final.nvc.Asks q := by
      rw [hframe]
      exact hq
    have hstarted := startWrite_asks hfinal
    rw [startWrite_nvc] at hstarted
    rw [← asks_iff, ht]
    exact hstarted
  refine ⟨⟨(commitReported nv ok r more count d).mst.held, ?_⟩, ?_, ⟨x, y, ?_⟩, ?_, ?_, ?_, ?_, fun hok => ?_,
    fun q hq => hasks (hkept q hq), fun hb => hasks (hstatus hb)⟩
  · rw [ht, hframe]
    exact hmst
  · rw [ht, hframe]
    exact hclc
  · rw [ht, hframe, ← hlsv]
  · rw [ht, hframe]
    exact hntc
  · rw [ht, hframe]
    exact hcsu
  · rw [ht, hframe]
    exact hzsu
  · rw [ht]
    exact hstage
  · rw [ht]
    exact hlongs hok

theorem commit_exec {s : State} (hrun : running s.dev = true) (hw : s.dev.nvc.writing = some ⟨.longOp, .calibration r⟩)
    (hst : s.dev.exe.stage = .ccmRecord more count false) (hslot : s.dev.exe.slot = some .ccm) (hn : s.dev.auu.next = some n)
    (hcap : n + 16 ≤ 9999999) : exec (.nvcWriteComplete ok) s = .next (becomes { s with nv := s.nv.land ok (.calibration r) }
      (startWrite (commitFinal (s.nv.land ok (.calibration r)) ok r more count (reported ok s.dev)))) := by
  have hstage : (reported ok s.dev).exe.stage = .ccmRecord more count false := hst
  obtain ⟨-, hexe, -⟩ := commitActs_frame (nv := s.nv.land ok (.calibration r)) (d := commitStart ok r more count (reported ok s.dev))
    (commitStatus ok r (reported ok s.dev)) ok (commitStart_proof hstage) hn hcap
  have hlong : reportTo s.nv (s.nv.land ok (.calibration r)) ok ⟨.longOp, .calibration r⟩ (reported ok s.dev) =
      ccmRecordDone (s.nv.land ok (.calibration r)) ok (.calibration r) more count false (reported ok s.dev) := by
    simp only [reportTo, longDone, hstage]
  have hstart : (commitStart ok r more count (reported ok s.dev)).exe.slot = some .ccm := by
    cases ok <;> exact hslot
  have hccm : (commitReported (s.nv.land ok (.calibration r)) ok r more count (reported ok s.dev)).exe.slot = some .ccm :=
    (congrArg Exe.slot hexe).trans hstart
  rw [nvcWriteComplete_eq hrun hw, hlong, ccmRecordDone_eq _ hccm]
  rfl

end report

section effects

variable {nv : NvStore} {ok : Bool} {r : CalRecord} {more : Bool} {count n : Nat} {d t : Device}

theorem commit_enabled (hn : d.auu.next = some n) (hcap : n + 16 ≤ 9999999) : (unlanedCommit nv d).ntc.enabled = d.ntc.enabled ∧
    (unlanedCommit nv d).nvc.clock = d.nvc.clock := by
  obtain ⟨e, htaken, hclc, -⟩ := clcCommit_spec (nv := nv) hn hcap
  have hframe := unlanedCommit_frame (nv := nv) hn hcap
  exact ⟨(congrArg (fun d : Device => d.ntc.enabled) hframe :).trans ((congrArg (fun d : Device => d.ntc.enabled) hclc :).trans htaken.enabled),
    (congrArg (fun d : Device => d.nvc.clock) hframe :).trans ((congrArg (fun d : Device => d.nvc.clock) hclc :).trans htaken.clock)⟩

theorem reportInstant_eq (d : Device) : reportInstant d = match d.csu.newest with
    | some wr => max d.now (wr.latch + 1)
    | none => d.now := rfl

/-- The current passage is closed by the commit. -/
theorem Committed.closes (h : Committed nv ok r more count d t) (hn : d.auu.next = some n) (hcap : n + 16 ≤ 9999999) {p : Passage}
    (hp : d.lsv.current = some p) (hlen : d.lsv.history.length ≤ 4) : t.lsv.history.length = min 4 (d.lsv.history.length + 1) ∧
      (∃ q, t.lsv.history.getLast? = some q ∧ q.number = p.number ∧ q.closeCause = some .commit ∧ q.closeTime = d.nvc.clock ∧
        q.ring = p.ring ∧ q.result ≠ none ∧ q.closeAt = some (reportInstant d)) ∧
      (d.ntc.enabled.axl = true → t.ntc.pending.axl = true) := by
  have hnext : (commitStart ok r more count d).auu.next = some n := hn
  have hframe := unlanedCommit_frame (nv := nv) hnext hcap
  obtain ⟨henabled, hclock⟩ := commit_enabled (nv := nv) hnext hcap
  have hpU : (unlanedCommit nv (commitStart ok r more count d)).lsv.current = some p := by rw [hframe]; exact hp
  have hhist : (unlanedCommit nv (commitStart ok r more count d)).lsv.history = d.lsv.history :=
    (congrArg (fun d : Device => d.lsv.history) hframe :)
  have hinstant : reportInstant (unlanedCommit nv (commitStart ok r more count d)) = reportInstant d := by
    rw [reportInstant_eq, hframe]
    rfl
  obtain ⟨hlength, ⟨q, hlast, hnum, hcause, htime, hring, hres, hat⟩, haxl⟩ := laneCommit_closes nv hpU
  obtain ⟨x, y, hlsv⟩ := h.lsv
  rw [hhist] at hlength
  rw [hlsv, h.ntc, noticedNtc_met_axl]
  exact ⟨hlength hlen, ⟨q, hlast, hnum, hcause, htime.trans hclock, hring, hres, hat.trans (congrArg some hinstant)⟩,
    fun hen => haxl (by rw [henabled]; exact hen)⟩

theorem Committed.history (h : Committed nv ok r more count d t) (hn : d.auu.next = some n) (hcap : n + 16 ≤ 9999999)
    (hp : d.lsv.current = none) : t.lsv.history = d.lsv.history := by
  have hnext : (commitStart ok r more count d).auu.next = some n := hn
  have hframe := unlanedCommit_frame (nv := nv) hnext hcap
  have hpU : (unlanedCommit nv (commitStart ok r more count d)).lsv.current = none := by rw [hframe]; exact hp
  obtain ⟨x, y, hlsv⟩ := h.lsv
  rw [hlsv]
  refine (laneCommit_empty nv hpU).trans ?_
  rw [hframe]
  rfl

/-- A slot after the commit, its request and its polling. -/
theorem Committed.slot (h : Committed nv ok r more count d t) (hn : d.auu.next = some n) (hcap : n + 16 ≤ 9999999) (i : SlotId) :
    let state := commitState (configured (commitStart ok r more count d) i) (expectedSerial (commitStart ok r more count d) i) (slotOf d i)
    (slotOf t i).state = state ∧
    (state = .mismatch → (slotOf d i).requested = true → (slotOf t i).owed = true) ∧
    (state = .mismatch → (slotOf d i).requested = false → (slotOf t i).requested = true ∧ ∃ pos k,
      ⟨.mismatch i, .audit pos ⟨k, .cellMismatch i (r.slots.sel i).serial (serialOf (slotOf d i)), d.nvc.clock, some d.mst.counter⟩⟩ ∈
        outstanding t) ∧
    isPolled t i = (isPolled d i && (configured t i || workConfigured t i)) ∧
    (isPolled d i = true → isPolled t i = false → (slotOf t i).lastOutcome = some .notPolled) := by
  intro state
  have hnext : (commitStart ok r more count d).auu.next = some n := hn
  obtain ⟨e, -, -, hslots⟩ := clcCommit_spec (nv := nv) hnext hcap
  obtain ⟨hstate, hmis, hpoll, hnot⟩ := hslots i
  obtain ⟨held, hmst⟩ := h.mst
  have hslot : slotOf t i = slotOf (clcCommit nv (commitStart ok r more count d)) i := slotOf_congr (congrArg Clc.slots h.clc) i
  have hpolled : isPolled t i = isPolled (clcCommit nv (commitStart ok r more count d)) i := isPolled_congr (congrArg Clc.polled h.clc) i
  have hactive : t.mst.active = (commitStart ok r more count d).mst.active := (congrArg Mst.active hmst :)
  have hrun : t.mst.run = (commitStart ok r more count d).mst.run := (congrArg Mst.run hmst :)
  rw [hslot, hpolled]
  refine ⟨hstate, fun hm hr => (hmis (hstate.trans hm)).1 hr, fun hm hr => ?_, ?_, hnot⟩
  · obtain ⟨hreq, pos, k, hask⟩ := (hmis (hstate.trans hm)).2 hr
    rw [commitState_mismatch hm] at hask
    exact ⟨hreq, pos, k, h.asks _ hask⟩
  · rw [hpoll, configured_congr hactive, workConfigured_congr (congrArg (Option.map usedSlots) hrun)]
    rfl

end effects

/-- Settles O50: the record, the blocks and the status write of a commit. -/
theorem commitInstalls : Obligations.CommitInstalls := by
  intro ok r more count n s hrun hn hcap hw hst hslot
  have hnext : (commitStart ok r more count (reported ok s.dev)).auu.next = some n := hn
  have hexec := commit_exec (ok := ok) hrun hw hst hslot hn hcap
  have hdone := committed_becomes (ok := ok) (r := r) (nv := s.nv.land ok (.calibration r)) (d := reported ok s.dev)
    { s with nv := s.nv.land ok (.calibration r) } hst hn hcap
  generalize becomes { s with nv := s.nv.land ok (.calibration r) }
    (startWrite (commitFinal (s.nv.land ok (.calibration r)) ok r more count (reported ok s.dev))) = t at hexec hdone
  have hframe := unlanedCommit_frame (nv := s.nv.land ok (.calibration r)) hnext hcap
  obtain ⟨e, htaken, hclc, -⟩ := clcCommit_spec (nv := s.nv.land ok (.calibration r)) hnext hcap
  obtain ⟨held, hmst⟩ := hdone.mst
  obtain ⟨x, y, hlsv⟩ := hdone.lsv
  obtain ⟨hlane, hsettle, hclear, hcurrent⟩ := laneCommit_lane (s.nv.land ok (.calibration r))
    (unlanedCommit (s.nv.land ok (.calibration r)) (commitStart ok r more count (reported ok s.dev)))
  refine ⟨t, hexec, ?_, ?_, ?_, ?_, ?_, ?_, ?_, ?_, ?_, ?_, fun i => ?_, fun p hp hlen => ?_, fun hp => hdone.history hn hcap hp, fun i => ?_,
    fun hb => ?_, fun hen => ?_, hdone.stage, hdone.longs⟩
  · exact (congrArg Mst.active hmst :)
  · exact (congrArg Mst.run hmst :)
  · exact (congrArg Mst.state hmst :)
  · exact (congrArg Mst.due hmst :)
  · rw [hlsv]
    exact hlane
  · rw [hlsv]
    exact hcurrent
  · rw [hlsv]
    exact hsettle
  · rw [hlsv]
    exact hclear
  · rw [hdone.zsu, hframe, commitStart_zcal]
  · rw [hdone.csu, hframe]
  · rw [hdone.csu]
    exact lastGood_committed (d := reported ok s.dev) (more := more) (count := count)
      ((congrArg Device.csu hclc :).trans (congrArg Device.csu htaken.rest :))
      ((congrArg Device.mst hclc :).trans (congrArg Device.mst htaken.rest :)) i
  · exact hdone.closes hn hcap hp hlen
  · intro old serial expected state
    obtain ⟨hs, hrest⟩ := hdone.slot hn hcap i
    have hstate : commitState (configured (commitStart ok r more count (reported ok s.dev)) i)
        (expectedSerial (commitStart ok r more count (reported ok s.dev)) i) (slotOf (reported ok s.dev) i) = state :=
      commitState_started i (slotOf s.dev i)
    rw [hstate] at hs hrest
    exact ⟨hs, hrest⟩
  · have hask := hdone.status ((statusBusy_reported (ok := ok) hw).trans hb)
    rw [hmst]
    exact hask
  · obtain ⟨henabled, -⟩ := commit_enabled (nv := s.nv.land ok (.calibration r)) hnext hcap
    obtain ⟨-, -, -, hlaneEn, -⟩ := laneCommit_cells (s.nv.land ok (.calibration r))
      (unlanedCommit (s.nv.land ok (.calibration r)) (commitStart ok r more count (reported ok s.dev)))
    rw [hdone.ntc]
    exact noticedNtc_met (by rw [hlaneEn, henabled]; exact hen)

end Sys2Proof.Machine
end

section
/-! PROOF. The start-up scan written out step by step (R194): the two head repairs, the metrology state and the freeing writes. -/

namespace Sys2Proof.Machine

open Sys2Proof.Safety

variable {nv : NvStore} {d : Device}

/-! ### Requests before the queue is served -/

/-- Before SCAN_END no request is served, and the high-water mark is the queue's length. -/
structure Nvc.Unserved (n : Nvc) : Prop where
  serving : n.serving = false
  writing : n.writing = none
  high : n.report.high = n.queue.length

/-- Requests join a queue that is not served, and the high-water mark follows (R186, R188). -/
def Nvc.join (l : List WriteReq) (n : Nvc) : Nvc :=
  { n with queue := n.queue ++ l, report := { n.report with high := (n.queue ++ l).length } }

theorem Nvc.Unserved.join {n : Nvc} (h : n.Unserved) (l : List WriteReq) : (n.join l).Unserved := ⟨h.serving, h.writing, rfl⟩

theorem Nvc.Unserved.join_nil {n : Nvc} (h : n.Unserved) : n.join [] = n := by
  rw [Nvc.join, List.append_nil, ← h.high]

theorem Nvc.join_join (n : Nvc) (l m : List WriteReq) : (n.join l).join m = n.join (l ++ m) := by
  simp only [Nvc.join, List.append_assoc]

theorem outstanding_unserved (h : d.nvc.Unserved) : outstanding d = d.nvc.queue := by
  rw [outstanding, h.writing]
  rfl

theorem request_unserved (r : WriteReq) (h : d.nvc.Unserved) : request r d = { d with nvc := d.nvc.join [r] } := by
  have hhigh : max d.nvc.report.high ((outstanding d).length + 1) = (d.nvc.queue ++ [r]).length := by
    rw [outstanding_unserved h, h.high, List.length_append]
    exact Nat.max_eq_right (Nat.le_succ _)
  have hoff : (d.nvc.serving && d.nvc.writing.isNone) = false := by rw [h.serving]; rfl
  rw [request, hhigh, startWrite]
  dsimp only
  rw [hoff]
  rfl

/-! ### The audit log's head repair (R182) -/

/-- The writes of a head repair are counted, each by its outcome (R188). -/
def countWrites (l : List Bool) (r : ErrorReport) : ErrorReport := l.foldl (fun r ok => countWrite ok r) r

/-- The outcome of the audit head repair's write, when there is a repair. -/
def auditWrites (ok : Bool) (nv : NvStore) : List Bool :=
  if (nv.auditCell (auditHead nv)).isTorn = true ∧ auditFollowing nv ≠ none then [ok] else []

/-- The audit log after its head repair. -/
def mendedAudit (ok : Bool) (nv : NvStore) (clock : Option Nat) : NvMap (NvCell AuditRec) :=
  match (nv.auditCell (auditHead nv)).isTorn, auditFollowing nv with
  | true, some n => nvPut nv.audit (auditHead nv) (landCell ok ⟨n, .torn, clock, none⟩)
  | _, _ => nv.audit

/-- What READY tells of the audit head repair (R195). -/
def auditTold (ok : Bool) (nv : NvStore) : HeadRepair :=
  match (nv.auditCell (auditHead nv)).isTorn, auditFollowing nv with
  | true, some n => if ok then .written n else .none
  | _, _ => .none

/-- The part after the audit head repair. -/
def auditMended (ok : Bool) (nv : NvStore) (d : Device) : Device := { d with
  auu := ⟨(auditRepaired nv).1, (auditRepaired nv).2, false⟩
  nvc := { d.nvc with report := countWrites (auditWrites ok nv) d.nvc.report, ready := { d.nvc.ready with auditRepair := auditTold ok nv } } }

theorem auditRepair_eq (ok : Bool) (hauu : d.auu = ⟨auditHead nv, auditFollowing nv, false⟩) (hready : d.nvc.ready.auditRepair = .none) :
    auditRepair ok nv d = ({ nv with audit := mendedAudit ok nv d.nvc.clock }, auditMended ok nv d) := by
  have hsame : ({ d with
      auu := ⟨auditHead nv, auditFollowing nv, false⟩
      nvc := { d.nvc with ready := { d.nvc.ready with auditRepair := .none } } } : Device) = d := by
    rw [← hauu, ← hready]
  unfold auditRepair auditMended mendedAudit auditWrites auditTold auditRepaired
  rw [hauu]
  cases (nv.auditCell (auditHead nv)).isTorn with
  | false =>
    simp only [Bool.false_eq_true, false_and, if_false]
    exact congrArg (Prod.mk nv) hsame.symm
  | true =>
    cases hn : auditFollowing nv with
    | none =>
      rw [hn] at hsame
      simp only [ne_eq, not_true_eq_false, and_false, if_false]
      exact congrArg (Prod.mk nv) hsame.symm
    | some n => rfl

/-! ### The metrology state (R153) -/

/-- The metrology state and the due date as the calibration and the status record give them. -/
def foundState (nv : NvStore) : MetState × Option Nat :=
  match nv.calibration, nv.status.content with
  | .valid r, some st => if st.counter = r.counter then (st.state, st.due) else (.suspect, none)
  | .valid _, none => (.suspect, none)
  | _, _ => (.uncalibrated, none)

/-- The write the MST asks for: the status that is not the calibration record's own, or the CAL-INVALID record at the AUU's
position under its number. -/
def stateWrites (nv : NvStore) (p : Nat × Option Nat) (clock : Option Nat) : List WriteReq :=
  match nv.calibration, nv.status.content, p.2 with
  | .valid r, some st, _ => if st.counter = r.counter then [] else [⟨.status false, statusWrite nv ⟨.suspect, none, r.counter⟩⟩]
  | .valid r, none, _ => [⟨.status false, statusWrite nv ⟨.suspect, none, r.counter⟩⟩]
  | .torn, _, some n => [⟨.calInvalid, .audit p.1 ⟨n, .calInvalid, clock, some (scanCounter nv)⟩⟩]
  | _, _, _ => []

/-- The AUU past the CAL-INVALID record. -/
def foundAuu (nv : NvStore) (p : Nat × Option Nat) : Auu :=
  match nv.calibration.isTorn, p.2 with
  | true, some n => ⟨(appendedAt p.1 n).1, (appendedAt p.1 n).2, false⟩
  | true, none => ⟨p.1, none, true⟩
  | false, next => ⟨p.1, next, false⟩

/-- The part once the MST has decided its state. -/
def stateFound (nv : NvStore) (p : Nat × Option Nat) (d : Device) : Device := { d with
  mst := { d.mst with counter := scanCounter nv, state := (foundState nv).1, due := (foundState nv).2 }
  auu := foundAuu nv p
  ntc := { d.ntc with pending := { d.ntc.pending with met := nv.calibration.isTorn && p.2.isNone } }
  nvc := d.nvc.join (stateWrites nv p d.nvc.clock) }

theorem requestStatus_unserved (rec : StatusRec) (forLong : Bool) (h : d.nvc.Unserved) (hq : d.nvc.queue = []) :
    requestStatus nv rec forLong d = { d with nvc := d.nvc.join [⟨.status forLong, statusWrite nv rec⟩] } := by
  have hbusy : statusBusy d = false := by
    rw [statusBusy, shareCount, outstanding_unserved h, hq]
    rfl
  rw [requestStatus, hbusy]
  exact request_unserved _ h

theorem scanState_eq {p : Nat × Option Nat} (h : d.nvc.Unserved) (hq : d.nvc.queue = []) (hauu : d.auu = ⟨p.1, p.2, false⟩)
    (hstate : d.mst.state = .uncalibrated) (hdue : d.mst.due = none) (hntc : d.ntc = Ntc.reset) :
    scanState nv d = stateFound nv p d := by
  have hmet : ({ d.ntc with pending := { d.ntc.pending with met := false } } : Ntc) = d.ntc := by rw [hntc]; rfl
  have hmst : ({ d.mst with counter := scanCounter nv, state := .uncalibrated, due := none } : Mst) =
      { d.mst with counter := scanCounter nv } := by rw [← hstate, ← hdue]
  unfold scanState stateFound foundState stateWrites foundAuu
  cases nv.calibration with
  | blank => simp only [NvCell.isTorn, Bool.false_and, hmet, ← hauu, h.join_nil, hmst]
  | torn =>
    dsimp only
    rw [append, hauu]
    cases p.2 with
    | some n =>
      simp only [NvCell.isTorn, Option.isNone, Bool.and_false, hmet, hmst]
      exact request_unserved (d := { d with mst := { d.mst with counter := scanCounter nv }, auu := _ }) _ h
    | none =>
      simp only [NvCell.isTorn, Option.isNone, Bool.and_true, h.join_nil, appendRefused, raise, hntc, hstate, hdue]
      rfl
  | valid r =>
    simp only [NvCell.isTorn, Bool.false_and, hmet, ← hauu]
    cases nv.status.content with
    | none => exact requestStatus_unserved _ false h hq
    | some st =>
      by_cases hc : st.counter = r.counter
      · simp only [if_pos hc, h.join_nil]
      · simp only [if_neg hc]
        exact requestStatus_unserved _ false h hq

/-! ### The journal's head repair (R149) -/

/-- The journal's head repair is called for: the slot at the write position fails, and a number is left. -/
abbrev headFails (nv : NvStore) : Prop := (nv.journalCell (journalHead nv)).isTorn = true ∧ nv.nextTicket none ≤ 9999999

/-- The slot the head repair's TORN record goes to. -/
def repairSlot (nv : NvStore) : Nat := nextPlace 4096 (journalHead nv)

/-- The head repair's TORN record is written: its slot is free under the export mark. -/
abbrev headWritten (nv : NvStore) (e : Nat) : Prop := headFails nv ∧ nv.slotFree e (repairSlot nv) = true

/-- The journal after its head repair. -/
def mendedJournal (ok : Bool) (nv : NvStore) (e : Nat) (torn : JournalRec) : NvMap (NvCell JournalRec) :=
  if headWritten nv e then nvPut nv.journal (repairSlot nv) (landCell ok torn) else nv.journal

/-- The number of a head repair that could not be written is owed. -/
def repairOwed (ok : Bool) (nv : NvStore) (e : Nat) : Option Nat :=
  if headFails nv ∧ ¬ (nv.slotFree e (repairSlot nv) = true ∧ ok = true) then some (nv.nextTicket none) else none

/-- What READY tells of the journal's head repair (R195). -/
def journalTold (ok : Bool) (nv : NvStore) (e : Nat) : HeadRepair :=
  if headFails nv then
    (if nv.slotFree e (repairSlot nv) = true ∧ ok = true then .written (nv.nextTicket none) else .owed (nv.nextTicket none)) else .none

/-- The part after the journal's head repair. -/
def journalMended (ok : Bool) (nv : NvStore) (d : Device) : Device := { d with
  txu := { d.txu with
    writePos := if headWritten nv d.txu.exportMark then nextPlace 4096 (repairSlot nv) else journalHead nv
    owedTorn := repairOwed ok nv d.txu.exportMark
    fullUntilE := (repairOwed ok nv d.txu.exportMark).isSome }
  nvc := { d.nvc with
    report := countWrites (if headWritten nv d.txu.exportMark then [ok] else []) d.nvc.report
    ready := { d.nvc.ready with journalRepair := journalTold ok nv d.txu.exportMark } } }

theorem journalRepair_eq (ok : Bool) (hpos : d.txu.writePos = journalHead nv) (howed : d.txu.owedTorn = none)
    (hfull : d.txu.fullUntilE = false) (hready : d.nvc.ready.journalRepair = .none) : journalRepair ok nv d =
      ({ nv with journal := mendedJournal ok nv d.txu.exportMark (tornRecord (nv.nextTicket none) d) }, journalMended ok nv d) := by
  have hsame : ({ d with
      txu := { d.txu with writePos := journalHead nv, owedTorn := none, fullUntilE := false }
      nvc := { d.nvc with ready := { d.nvc.ready with journalRepair := .none } } } : Device) = d := by
    rw [← hpos, ← howed, ← hfull, ← hready]
  have hcap : Config.ticketCap = 9999999 := rfl
  have hslot : nextPlace Config.journalSlots (journalHead nv) = repairSlot nv := rfl
  unfold journalRepair
  dsimp only
  rw [hpos, hcap, hslot]
  by_cases hfails : headFails nv
  · rw [if_pos hfails]
    by_cases hfree : nv.slotFree d.txu.exportMark (repairSlot nv) = true
    · have hwritten : headWritten nv d.txu.exportMark := ⟨hfails, hfree⟩
      rw [if_pos hfree, journalMended, mendedJournal, if_pos hwritten, if_pos hwritten, if_pos hwritten]
      cases ok with
      | true =>
        have howes : repairOwed true nv d.txu.exportMark = d.txu.owedTorn := (if_neg fun h => h.2 ⟨hfree, rfl⟩).trans howed.symm
        have htold : journalTold true nv d.txu.exportMark = .written (nv.nextTicket none) := (if_pos hfails).trans (if_pos ⟨hfree, rfl⟩)
        have hnot : d.txu.owedTorn.isSome = d.txu.fullUntilE := by rw [howed, hfull]; rfl
        rw [howes, htold, hnot]
        rfl
      | false =>
        have howes : repairOwed false nv d.txu.exportMark = some (nv.nextTicket none) := if_pos ⟨hfails, fun h => Bool.false_ne_true h.2⟩
        have htold : journalTold false nv d.txu.exportMark = .owed (nv.nextTicket none) :=
          (if_pos hfails).trans (if_neg fun h => Bool.false_ne_true h.2)
        rw [howes, htold]
        rfl
    · have hunwritten : ¬ headWritten nv d.txu.exportMark := fun h => hfree h.2
      have howes : repairOwed ok nv d.txu.exportMark = some (nv.nextTicket none) := if_pos ⟨hfails, fun h => hfree h.1⟩
      have htold : journalTold ok nv d.txu.exportMark = .owed (nv.nextTicket none) := (if_pos hfails).trans (if_neg fun h => hfree h.1)
      rw [if_neg hfree, journalMended, mendedJournal, if_neg hunwritten, if_neg hunwritten, if_neg hunwritten, howes, htold, ← hpos]
      rfl
  · have hunwritten : ¬ headWritten nv d.txu.exportMark := fun h => hfails h.1
    have howes : repairOwed ok nv d.txu.exportMark = none := if_neg fun h => hfails h.1
    have htold : journalTold ok nv d.txu.exportMark = .none := if_neg hfails
    rw [if_neg hfails, journalMended, mendedJournal, if_neg hunwritten, if_neg hunwritten, if_neg hunwritten, howes, htold]
    exact congrArg (Prod.mk nv) hsame.symm

/-! ### Held freeing writes (R187) -/

/-- The part once the first n held freeing writes are requested. -/
def freeingAsked (nv : NvStore) (n : Nat) (d : Device) : Device := { d with
  txu := { d.txu with freeHeld := d.txu.freeHeld.drop n }
  nvc := d.nvc.join ((d.txu.freeHeld.take n).map (freeRequest nv)) }

theorem freeRequest_share (r : FreeReq) : (freeRequest nv r).source.share = .attach := by
  unfold freeRequest
  split <;> rfl

theorem requestFreeing_unserved (n : Nat) (h : d.nvc.Unserved) (hroom : shareCount .attach d + n ≤ 4) :
    requestFreeing nv n d = freeingAsked nv n d := by
  induction n generalizing d with
  | zero =>
    simp only [freeingAsked, List.drop_zero, List.take_zero, List.map_nil, h.join_nil]
    rfl
  | succ n ih =>
    cases hf : d.txu.freeHeld with
    | nil =>
      rw [requestFreeing_none _ hf, freeingAsked, hf, List.take_nil, List.map_nil, h.join_nil, List.drop_nil, ← hf]
    | cons r rest =>
      have hlt : shareCount .attach d < Config.attachCap := by
        have : Config.attachCap = 4 := rfl
        omega
      have hrest : ({ d with txu := { d.txu with freeHeld := rest } } : Device).nvc.Unserved := h
      have hcount : shareCount .attach { d with txu := { d.txu with freeHeld := rest }, nvc := d.nvc.join [freeRequest nv r] } =
          shareCount .attach d + 1 := by
        have hout : outstanding { d with txu := { d.txu with freeHeld := rest }, nvc := d.nvc.join [freeRequest nv r] } =
            outstanding d ++ [freeRequest nv r] := (List.append_assoc _ _ _).symm
        have hshare : ((freeRequest nv r).source.share == Share.attach) = true := by rw [freeRequest_share]; rfl
        rw [shareCount, shareCount, hout, List.filter_append, List.length_append, List.filter_cons, if_pos hshare]
        rfl
      have hnext : requestFreeing nv (n + 1) d =
          requestFreeing nv n { d with txu := { d.txu with freeHeld := rest }, nvc := d.nvc.join [freeRequest nv r] } := by
        rw [requestFreeing, hf]
        dsimp only
        rw [if_pos hlt, freeRequest]
        split
        · rw [request_unserved _ hrest]
        · rw [request_unserved _ hrest]
      rw [hnext, ih (h.join _) (by rw [hcount]; omega), freeingAsked, freeingAsked, hf]
      simp only [Nvc.join_join, List.drop_succ_cons, List.take_succ_cons, List.map_cons, List.singleton_append]

/-! ### The scan as a whole -/

/-- The part with the records read and the audit log's head repaired (steps 1 to 4). -/
def recordsRead (auditOk : Bool) (nv : NvStore) (d : Device) : Device :=
  auditMended auditOk nv (scanAudit nv (scanStatus nv (scanCalibration nv (scanSettings nv d))))

/-- The part with the state found and the tables and the journal read (steps 4 to 6), over the store nv with its repaired log. -/
def tablesRead (auditOk : Bool) (nv repaired : NvStore) (d : Device) : Device :=
  scanJournal repaired (scanVisits repaired (scanTares repaired (stateFound repaired (auditRepaired nv) (recordsRead auditOk nv d))))

/-- The store after the audit log's head repair. -/
def auditStore (auditOk : Bool) (nv : NvStore) (d : Device) : NvStore := { nv with audit := mendedAudit auditOk nv d.nvc.clock }

/-- The store after both head repairs. -/
def scanStore (auditOk journalOk : Bool) (nv : NvStore) (d : Device) : NvStore :=
  { nv with
    audit := mendedAudit auditOk nv d.nvc.clock
    journal := mendedJournal journalOk nv (scanMark nv)
      (JournalRec.make (nv.nextTicket none) .torn d.nvc.clock (nv.calibration.content.map (·.counter))) }

/-- The part with the journal's head repaired and the visits reconciled (step 6). -/
def visitsReconciled (auditOk journalOk : Bool) (nv : NvStore) (d : Device) : Device :=
  scanNextVisit (scanStore auditOk journalOk nv d) (reconcile (scanStore auditOk journalOk nv d)
    (journalMended journalOk nv (tablesRead auditOk nv (auditStore auditOk nv d) d)))

/-- The part at the end of the scan. -/
def scanDone (auditOk journalOk : Bool) (nv : NvStore) (d : Device) : Device :=
  freeingAsked nv 4 (visitsReconciled auditOk journalOk nv d)

/-- The part before its scan has nothing but reset values and the pins. -/
structure ScanStart (d : Device) : Prop where
  nvc : ∃ cause clock, d.nvc = Nvc.reset cause clock
  mst : ∃ rawOpen, d.mst = Mst.reset rawOpen
  txu : d.txu = Txu.reset
  ntc : d.ntc = Ntc.reset

theorem recordsRead_eq (auditOk : Bool) (h : ScanStart d) :
    auditRepair auditOk nv (scanAudit nv (scanStatus nv (scanCalibration nv (scanSettings nv d)))) =
      (auditStore auditOk nv d, recordsRead auditOk nv d) := by
  obtain ⟨cause, clock, hnvc⟩ := h.nvc
  refine auditRepair_eq (d := scanAudit nv (scanStatus nv (scanCalibration nv (scanSettings nv d)))) auditOk rfl ?_
  exact (congrArg (fun n : Nvc => n.ready.auditRepair) hnvc :)

theorem countWrites_high (l : List Bool) (r : ErrorReport) : (countWrites l r).high = r.high := by
  induction l generalizing r with
  | nil => rfl
  | cons ok l ih => exact (ih _).trans (by cases ok <;> rfl)

theorem countScanFailures_unserved (torn blank : Nat) (h : d.nvc.Unserved) : (countScanFailures torn blank d).nvc.Unserved :=
  ⟨h.serving, h.writing, h.high⟩

theorem auditMended_unserved (auditOk : Bool) (h : d.nvc.Unserved) : (auditMended auditOk nv d).nvc.Unserved :=
  ⟨h.serving, h.writing, (countWrites_high _ _).trans h.high⟩

theorem recordsRead_unserved (auditOk : Bool) (h : d.nvc.Unserved) : (recordsRead auditOk nv d).nvc.Unserved := by
  have hsettings : (scanSettings nv d).nvc.Unserved := countScanFailures_unserved _ _ ⟨h.serving, h.writing, h.high⟩
  have hcal : (scanCalibration nv (scanSettings nv d)).nvc.Unserved :=
    countScanFailures_unserved _ _ ⟨hsettings.serving, hsettings.writing, hsettings.high⟩
  have hstatus : (scanStatus nv (scanCalibration nv (scanSettings nv d))).nvc.Unserved := countScanFailures_unserved _ _ hcal
  exact auditMended_unserved auditOk (countScanFailures_unserved _ _ ⟨hstatus.serving, hstatus.writing, hstatus.high⟩)

theorem ScanStart.unserved (h : ScanStart d) : d.nvc.Unserved ∧ d.nvc.queue = [] := by
  obtain ⟨cause, clock, hnvc⟩ := h.nvc
  rw [hnvc]
  exact ⟨⟨rfl, rfl, rfl⟩, rfl⟩

theorem stateFound_eq (auditOk : Bool) (h : ScanStart d) :
    scanState (auditStore auditOk nv d) (recordsRead auditOk nv d) =
      stateFound (auditStore auditOk nv d) (auditRepaired nv) (recordsRead auditOk nv d) := by
  obtain ⟨hunserved, hqueue⟩ := h.unserved
  obtain ⟨rawOpen, hmst⟩ := h.mst
  have hstate : d.mst.state = .uncalibrated := by rw [hmst]; rfl
  have hdue : d.mst.due = none := by rw [hmst]; rfl
  exact scanState_eq (recordsRead_unserved auditOk hunserved) hqueue rfl hstate hdue h.ntc

theorem journalMended_eq (auditOk journalOk : Bool) (h : ScanStart d) :
    journalRepair journalOk (auditStore auditOk nv d) (tablesRead auditOk nv (auditStore auditOk nv d) d) =
      (scanStore auditOk journalOk nv d, journalMended journalOk nv (tablesRead auditOk nv (auditStore auditOk nv d) d)) := by
  obtain ⟨cause, clock, hnvc⟩ := h.nvc
  have howed : d.txu.owedTorn = none := by rw [h.txu]; rfl
  have hfull : d.txu.fullUntilE = false := by rw [h.txu]; rfl
  have hready : d.nvc.ready.journalRepair = .none := by rw [hnvc]; rfl
  exact journalRepair_eq (nv := auditStore auditOk nv d) (d := tablesRead auditOk nv (auditStore auditOk nv d) d)
    journalOk rfl howed hfull hready

theorem stateWrites_source {p : Nat × Option Nat} {clock : Option Nat} :
    ∀ r ∈ stateWrites nv p clock, r.source = .status false ∨ r.source = .calInvalid := by
  intro r hr
  unfold stateWrites at hr
  split at hr
  · split at hr
    · exact (List.not_mem_nil hr).elim
    · rw [List.mem_singleton.1 hr]
      exact .inl rfl
  · rw [List.mem_singleton.1 hr]
    exact .inl rfl
  · rw [List.mem_singleton.1 hr]
    exact .inr rfl
  · exact (List.not_mem_nil hr).elim

theorem stateWrites_share {p : Nat × Option Nat} {clock : Option Nat} : ∀ r ∈ stateWrites nv p clock, r.source.share = .status := by
  intro r hr
  obtain h | h := stateWrites_source r hr
  · rw [h]; rfl
  · rw [h]; rfl

theorem visitsReconciled_queue (auditOk journalOk : Bool) (h : ScanStart d) :
    (visitsReconciled auditOk journalOk nv d).nvc.queue = stateWrites (auditStore auditOk nv d) (auditRepaired nv) d.nvc.clock := by
  have hqueue : (visitsReconciled auditOk journalOk nv d).nvc.queue =
      d.nvc.queue ++ stateWrites (auditStore auditOk nv d) (auditRepaired nv) d.nvc.clock := rfl
  rw [hqueue, h.unserved.2, List.nil_append]

theorem visitsReconciled_unserved (auditOk journalOk : Bool) (h : ScanStart d) :
    (visitsReconciled auditOk journalOk nv d).nvc.Unserved := by
  have hfound := (recordsRead_unserved (nv := nv) auditOk h.unserved.1).join
    (stateWrites (auditStore auditOk nv d) (auditRepaired nv) (recordsRead auditOk nv d).nvc.clock)
  exact ⟨hfound.serving, hfound.writing, (countWrites_high _ _).trans hfound.high⟩

theorem scan_eq (auditOk journalOk : Bool) (h : ScanStart d) :
    scan auditOk journalOk nv d = (scanStore auditOk journalOk nv d, scanDone auditOk journalOk nv d) := by
  have hcount : shareCount .attach (visitsReconciled auditOk journalOk nv d) + 4 ≤ 4 := by
    rw [shareCount, outstanding_unserved (visitsReconciled_unserved auditOk journalOk h), visitsReconciled_queue auditOk journalOk h,
      List.filter_eq_nil_iff.2]
    · exact Nat.le_refl 4
    · intro r hr
      rw [stateWrites_share r hr]
      exact Bool.false_ne_true
  have hfree := requestFreeing_unserved (nv := scanStore auditOk journalOk nv d) 4
    (visitsReconciled_unserved (nv := nv) auditOk journalOk h) hcount
  have hjournal := journalMended_eq (nv := nv) auditOk journalOk h
  rw [tablesRead] at hjournal
  unfold scan
  dsimp only
  rw [recordsRead_eq auditOk h]
  dsimp only
  rw [stateFound_eq auditOk h, hjournal]
  exact congrArg (Prod.mk _) hfree

end Sys2Proof.Machine
end

section
/-! PROOF. What the start-up scan counts and reports (R188, R195). -/

namespace Sys2Proof.Machine

open Sys2Proof.Safety

variable {nv : NvStore} {d : Device}

/-! ### Failing and never-written targets (R188) -/

section counts

variable {α β : Type}

theorem length_filter_eq_sum (p : α → Bool) (l : List α) : (l.filter p).length = (l.map fun x => if p x then 1 else 0).sum := by
  induction l with
  | nil => rfl
  | cons x l ih =>
    rw [List.filter_cons, List.map_cons, List.sum_cons, ← ih]
    split
    · rw [List.length_cons, Nat.add_comm]
    · rw [Nat.zero_add]

theorem tornCells_eq (m : NvMap (NvCell α)) : tornCells m = (m.map fun e => failing e.2).sum := length_filter_eq_sum _ m

theorem tornCopies_eq (m : NvMap (TwoCopy α)) : tornCopies m = failingCopies (m.map (·.2)) := by
  rw [failingCopies, List.map_map]
  rfl

theorem tornCount_eq (t : TwoCopy α) : t.tornCount = failingCopies [t] := rfl

theorem written_eq (c : NvCell α) : written c = if (!c.isBlank) = true then 1 else 0 := by cases c <;> rfl

theorem blankOf_eq (c : NvCell α) : blankOf c = 1 - written c := by cases c <;> rfl

theorem blankCells_eq (n : Nat) (m : NvMap (NvCell α)) : blankCells n m = n - (m.map fun e => written e.2).sum := by
  simp only [blankCells, length_filter_eq_sum, written_eq]

theorem blankCopies_eq (n : Nat) (m : NvMap (TwoCopy α)) : blankCopies n m = 2 * n - writtenCopies (m.map (·.2)) := by
  rw [writtenCopies, List.map_map]
  rfl

theorem writtenCount_eq (t : TwoCopy α) : t.writtenCount = writtenCopies [t] := rfl

end counts

/-- Seven counts that each stop at the cap stop together where their sum does. -/
theorem capped_sum (c a1 a2 a3 a4 a5 a6 a7 : Nat) :
    min (min (min (min (min (min (min (0 + a1) c + a2) c + a3) c + a4) c + a5) c + a6) c + a7) c =
      min (a1 + a2 + a3 + a4 + a5 + a6 + a7) c := by
  omega

theorem countWrites_eq (l : List Bool) (r : ErrorReport) (hp : r.passed + l.length ≤ 65535) (hn : r.nvf + l.length ≤ 65535) :
    countWrites l r = { r with passed := r.passed + l.count true, nvf := r.nvf + l.count false } := by
  induction l generalizing r with
  | nil => rfl
  | cons ok l ih =>
    rw [List.length_cons] at hp hn
    have hbump (n : Nat) (h : n + (l.length + 1) ≤ 65535) : bump n = n + 1 := Nat.min_eq_left (by
      have : Config.countCap = 65535 := rfl
      omega)
    have hfirst : countWrites (ok :: l) r = countWrites l (countWrite ok r) := rfl
    cases ok with
    | true =>
      have hone : countWrite true r = { r with passed := r.passed + 1 } := by rw [countWrite, if_pos rfl, hbump _ hp]
      rw [hfirst, hone, ih _ (by dsimp only; omega) (by dsimp only; omega)]
      simp only [List.count_cons_self, List.count_cons_of_ne Bool.false_ne_true.symm, Nat.add_assoc, Nat.add_comm 1]
    | false =>
      have hone : countWrite false r = { r with nvf := r.nvf + 1 } := by rw [countWrite, if_neg Bool.false_ne_true, hbump _ hn]
      rw [hfirst, hone, ih _ (by dsimp only; omega) (by dsimp only; omega)]
      simp only [List.count_cons_self, List.count_cons_of_ne Bool.false_ne_true, Nat.add_assoc, Nat.add_comm 1]

theorem countWrites_scan (l : List Bool) (r : ErrorReport) :
    (countWrites l r).scanFail = r.scanFail ∧ (countWrites l r).blank = r.blank ∧ (countWrites l r).readFail = r.readFail := by
  induction l generalizing r with
  | nil => exact ⟨rfl, rfl, rfl⟩
  | cons ok l ih =>
    obtain ⟨hs, hb, hr⟩ := ih (countWrite ok r)
    cases ok with
    | true => exact ⟨hs, hb, hr⟩
    | false => exact ⟨hs, hb, hr⟩

/-! ### The error report and READY -/

/-- The report as the part's first four steps have counted it, the audit log's repair apart. -/
theorem recordsRead_counts (auditOk : Bool) (h : ScanStart d) :
    (recordsRead auditOk nv d).nvc.report.scanFail =
      min (min (min (min (0 + tornOf nv.settings) 65535 + tornOf nv.calibration) 65535 + nv.status.tornCount) 65535 + tornCells nv.audit)
        65535 ∧
    (recordsRead auditOk nv d).nvc.report.blank =
      min (min (min (min (0 + blankOf nv.settings) 65535 + blankOf nv.calibration) 65535 + (2 - nv.status.writtenCount)) 65535 +
        blankCells 256 nv.audit) 65535 := by
  obtain ⟨cause, clock, hnvc⟩ := h.nvc
  obtain ⟨hfail, hblank, -⟩ := countWrites_scan (auditWrites auditOk nv)
    (scanAudit nv (scanStatus nv (scanCalibration nv (scanSettings nv d)))).nvc.report
  have hzero : d.nvc.report.scanFail = 0 ∧ d.nvc.report.blank = 0 := by rw [hnvc]; exact ⟨rfl, rfl⟩
  refine ⟨?_, ?_⟩
  · rw [← hzero.1]
    exact hfail
  · rw [← hzero.2]
    exact hblank

theorem scanDone_counts (auditOk journalOk : Bool) (h : ScanStart d) :
    (scanDone auditOk journalOk nv d).nvc.report.scanFail = scanFailures nv ∧
    (scanDone auditOk journalOk nv d).nvc.report.blank = blankTargets nv := by
  obtain ⟨hfail, hblank, -⟩ := countWrites_scan (if headWritten nv (scanMark nv) then [journalOk] else [])
    (tablesRead auditOk nv (auditStore auditOk nv d) d).nvc.report
  obtain ⟨hrecords, hrecordsBlank⟩ := recordsRead_counts (nv := nv) auditOk h
  have htables : (tablesRead auditOk nv (auditStore auditOk nv d) d).nvc.report.scanFail =
      min (min (min ((recordsRead auditOk nv d).nvc.report.scanFail + tornCopies nv.tares) 65535 + tornCopies nv.visits) 65535 +
        (tornCells nv.journal + nv.exportRec.tornCount)) 65535 := rfl
  have htablesBlank : (tablesRead auditOk nv (auditStore auditOk nv d) d).nvc.report.blank =
      min (min (min ((recordsRead auditOk nv d).nvc.report.blank + blankCopies 64 nv.tares) 65535 + blankCopies 48 nv.visits) 65535 +
        (blankCells 4096 nv.journal + (2 - nv.exportRec.writtenCount))) 65535 := rfl
  refine ⟨hfail.trans ?_, hblank.trans ?_⟩
  · rw [htables, hrecords, capped_sum, tornCells_eq, tornCells_eq, tornCopies_eq, tornCopies_eq, tornCount_eq, tornCount_eq]
    rfl
  · rw [htablesBlank, hrecordsBlank, capped_sum, blankCells_eq, blankCells_eq, blankCopies_eq, blankCopies_eq, writtenCount_eq,
      writtenCount_eq, blankOf_eq, blankOf_eq]
    rfl

theorem scanDone_readyScan (auditOk journalOk : Bool) (h : ScanStart d) :
    (scanDone auditOk journalOk nv d).nvc.ready.scanFail = scanFailures nv := by
  obtain ⟨cause, clock, hnvc⟩ := h.nvc
  have hzero : d.nvc.ready.scanFail = 0 := by rw [hnvc]; rfl
  have hready : (scanDone auditOk journalOk nv d).nvc.ready.scanFail =
      min (min (min (min (min (min (min (d.nvc.ready.scanFail + tornOf nv.settings) 65535 + tornOf nv.calibration) 65535 +
        nv.status.tornCount) 65535 + tornCells nv.audit) 65535 + tornCopies nv.tares) 65535 + tornCopies nv.visits) 65535 +
        (tornCells nv.journal + nv.exportRec.tornCount)) 65535 := rfl
  rw [hready, hzero, capped_sum, tornCells_eq, tornCells_eq, tornCopies_eq, tornCopies_eq, tornCount_eq, tornCount_eq]
  rfl

theorem auditWrites_length (ok : Bool) : (auditWrites ok nv).length ≤ 1 := by
  unfold auditWrites
  split
  · exact Nat.le_refl 1
  · exact Nat.zero_le 1

theorem scanDone_writes (auditOk journalOk : Bool) (h : ScanStart d) :
    let repairs := auditWrites auditOk nv ++ (if headWritten nv (scanMark nv) then [journalOk] else [])
    (scanDone auditOk journalOk nv d).nvc.report.passed = repairs.count true ∧
    (scanDone auditOk journalOk nv d).nvc.report.nvf = repairs.count false ∧
    (scanDone auditOk journalOk nv d).nvc.report.readFail = 0 := by
  obtain ⟨cause, clock, hnvc⟩ := h.nvc
  have hzero : d.nvc.report = ErrorReport.zero := by rw [hnvc]; rfl
  have hjournal : (if headWritten nv (scanMark nv) then [journalOk] else []).length ≤ 1 := by
    split
    · exact Nat.le_refl 1
    · exact Nat.zero_le 1
  have hlength := auditWrites_length (nv := nv) auditOk
  have hread : (scanAudit nv (scanStatus nv (scanCalibration nv (scanSettings nv d)))).nvc.report.passed = 0 ∧
      (scanAudit nv (scanStatus nv (scanCalibration nv (scanSettings nv d)))).nvc.report.nvf = 0 ∧
      (scanAudit nv (scanStatus nv (scanCalibration nv (scanSettings nv d)))).nvc.report.readFail = 0 :=
    ⟨(congrArg ErrorReport.passed hzero :), (congrArg ErrorReport.nvf hzero :), (congrArg ErrorReport.readFail hzero :)⟩
  obtain ⟨hp0, hn0, hr0⟩ := hread
  have haudit := countWrites_eq (auditWrites auditOk nv)
    (scanAudit nv (scanStatus nv (scanCalibration nv (scanSettings nv d)))).nvc.report (by omega) (by omega)
  rw [hp0, hn0, Nat.zero_add, Nat.zero_add] at haudit
  have hpassed : (tablesRead auditOk nv (auditStore auditOk nv d) d).nvc.report.passed = (auditWrites auditOk nv).count true :=
    (congrArg ErrorReport.passed haudit :)
  have hnvf : (tablesRead auditOk nv (auditStore auditOk nv d) d).nvc.report.nvf = (auditWrites auditOk nv).count false :=
    (congrArg ErrorReport.nvf haudit :)
  have hfailed : (tablesRead auditOk nv (auditStore auditOk nv d) d).nvc.report.readFail = 0 :=
    (congrArg ErrorReport.readFail haudit :).trans hr0
  have htrue : (auditWrites auditOk nv).count true ≤ 1 := List.count_le_length.trans hlength
  have hfalse : (auditWrites auditOk nv).count false ≤ 1 := List.count_le_length.trans hlength
  have hwrites := countWrites_eq (if headWritten nv (scanMark nv) then [journalOk] else [])
    (tablesRead auditOk nv (auditStore auditOk nv d) d).nvc.report (by omega) (by omega)
  rw [hpassed, hnvf] at hwrites
  refine ⟨?_, ?_, (congrArg ErrorReport.readFail hwrites :).trans hfailed⟩
  · rw [List.count_append]
    exact (congrArg ErrorReport.passed hwrites :)
  · rw [List.count_append]
    exact (congrArg ErrorReport.nvf hwrites :)

theorem scanDone_unserved (auditOk journalOk : Bool) (h : ScanStart d) : (scanDone auditOk journalOk nv d).nvc.Unserved :=
  (visitsReconciled_unserved auditOk journalOk h).join _

theorem scanDone_report (auditOk journalOk : Bool) (h : ScanStart d) :
    let repairs := auditWrites auditOk nv ++ (if headWritten nv (scanMark nv) then [journalOk] else [])
    (scanDone auditOk journalOk nv d).nvc.report = ⟨repairs.count true, repairs.count false, 0, scanFailures nv, blankTargets nv,
      (outstanding (scanDone auditOk journalOk nv d)).length⟩ := by
  intro repairs
  obtain ⟨hpassed, hnvf, hread⟩ := scanDone_writes (nv := nv) auditOk journalOk h
  obtain ⟨hfail, hblank⟩ := scanDone_counts (nv := nv) auditOk journalOk h
  have hdone := scanDone_unserved (nv := nv) auditOk journalOk h
  rw [outstanding_unserved hdone, ← hdone.high]
  generalize (scanDone auditOk journalOk nv d).nvc.report = r at hpassed hnvf hread hfail hblank
  cases r
  subst hpassed hnvf hread hfail hblank
  rfl

end Sys2Proof.Machine
end

section
/-! PROOF. The tables the start-up scan rebuilds (R111, R113, R149, R187). -/

namespace Sys2Proof.Machine

open Sys2Proof.Safety

variable {nv : NvStore} {d : Device}

/-! ### Order of freeing writes and of records -/

section sorting

variable {α : Type}

theorem sortBy_perm (lt : α → α → Bool) (l : List α) : (sortBy lt l).Perm l := by
  have fold : ∀ (l acc : List α), (l.foldl (fun acc x => insertBy lt x acc) acc).Perm (acc ++ l) := by
    intro l
    induction l with
    | nil => exact fun acc => by rw [List.foldl_nil, List.append_nil]
    | cons x l ih => exact fun acc => (ih _).trans (((insertBy_perm lt x acc).append_right l).trans List.perm_middle.symm)
  exact fold l []

end sorting

/-- The records held, the newest first. -/
theorem newestFirst (nv : NvStore) :
    (sortBy (fun a b => decide (b.number < a.number)) nv.tickets).Perm nv.tickets ∧
    (sortBy (fun a b => decide (b.number < a.number)) nv.tickets).Pairwise fun a b => b.number ≤ a.number := by
  obtain ⟨hperm, hsorted⟩ := sortBy_perm_pairwise (lt := fun a b : JournalRec => decide (b.number < a.number))
    (key := fun r => OrderDual.toDual r.number) (fun a b => decide_eq_true_iff.trans OrderDual.toDual_lt_toDual.symm) nv.tickets
  exact ⟨hperm, hsorted.imp fun h => OrderDual.toDual_le_toDual.1 h⟩

/-- Of records in falling order the first n are those with fewer than n above them. -/
theorem mem_take_falling {l : List JournalRec} (h : l.Pairwise fun a b => b.number < a.number) (n : Nat) (r : JournalRec) :
    r ∈ l.take n ↔ r ∈ l ∧ l.countP (fun q => decide (r.number < q.number)) < n := by
  induction l generalizing n with
  | nil => simp only [List.take_nil, List.not_mem_nil, false_and]
  | cons x l ih =>
    obtain ⟨hx, hl⟩ := List.pairwise_cons.1 h
    cases n with
    | zero => simp only [List.take_zero, List.not_mem_nil, Nat.not_lt_zero, and_false]
    | succ n =>
      have hcount (hr : r ∈ l) : (x :: l).countP (fun q => decide (r.number < q.number)) =
          l.countP (fun q => decide (r.number < q.number)) + 1 :=
        List.countP_cons_of_pos (p := fun q : JournalRec => decide (r.number < q.number)) (decide_eq_true (hx r hr))
      rw [List.take_succ_cons, List.mem_cons, List.mem_cons, ih hl]
      constructor
      · rintro (rfl | ⟨hr, hn⟩)
        · have hnone : (r :: l).countP (fun q => decide (r.number < q.number)) = 0 := by
            refine List.countP_eq_zero.2 fun q hq hlt => ?_
            have hlt' := of_decide_eq_true hlt
            obtain rfl | hq := List.mem_cons.1 hq
            · exact Nat.lt_irrefl _ hlt'
            · exact Nat.lt_asymm hlt' (hx q hq)
          exact ⟨.inl rfl, by rw [hnone]; exact Nat.succ_pos n⟩
        · refine ⟨.inr hr, ?_⟩
          rw [hcount hr]
          exact Nat.succ_lt_succ hn
      · rintro ⟨rfl | hr, hn⟩
        · exact .inl rfl
        · rw [hcount hr] at hn
          exact .inr ⟨hr, Nat.lt_of_succ_lt_succ hn⟩

/-! ### Duplicate repair (R111) -/

theorem tableOf_eq {α : Type} (m : NvMap (TwoCopy (Option α))) : tableOf m = tableRead m := by
  refine congrArg (fun f => m.filterMap f) (funext fun e => ?_)
  cases e.2.content with
  | none => rfl
  | some x => cases x <;> rfl

theorem dropped_eq_true {α : Type} {ref : α → Text} {beats : Nat × α → Nat × α → Bool} {m : NvMap α} {e : Nat × α} :
    dropped ref beats m e = true ↔ ∃ q ∈ m, ref q.2 = ref e.2 ∧ beats e q = true := by
  simp only [dropped, List.any_eq_true, Bool.and_eq_true, beq_iff_eq]

theorem tareStays_iff (all : NvMap TareEntry) (e : Nat × TareEntry) : tareStays all e ↔ dropped TareEntry.ref tareBeats all e = false := by
  rw [← Bool.not_eq_true, dropped_eq_true]
  simp only [tareStays, tareBeats, Bool.or_eq_true, Bool.and_eq_true, decide_eq_true_eq, beq_iff_eq]
  constructor
  · rintro h ⟨q, hq, href, hb⟩
    have := h q hq href
    omega
  · intro h q hq href
    by_contra hc
    exact h ⟨q, hq, href, by omega⟩

theorem visitStays_iff (all : NvMap VisitRec) (e : Nat × VisitRec) :
    visitStays all e ↔ dropped VisitRec.ref visitBeats all e = false := by
  rw [← Bool.not_eq_true, dropped_eq_true]
  simp only [visitStays, visitBeats, Bool.or_eq_true, Bool.and_eq_true, decide_eq_true_eq, beq_iff_eq]
  constructor
  · rintro h ⟨q, hq, href, hb⟩
    have := h q hq href
    omega
  · intro h q hq href
    by_contra hc
    exact h ⟨q, hq, href, by omega⟩

/-! ### Reconciliation and the next visit number (R113, R149) -/

theorem closes_iff (v : VisitRec) (r : JournalRec) : closes v r = true ↔ visitClosed r = some (v.number, v.ref) := by
  unfold closes visitClosed
  cases r.body <;> simp

theorem visitOf_eq (r : JournalRec) : visitOf r = (visitClosed r).map (·.1) := by
  unfold visitOf visitClosed
  cases r.body <;> rfl

theorem reconciled_iff (h : (nv.tickets.map (·.number)).Nodup) (v : VisitRec) :
    reconciled nv v ↔ (newestRecords nv).any (closes v) = true := by
  obtain ⟨hperm, hsorted⟩ := newestFirst nv
  have hnodup := (hperm.map (·.number)).nodup_iff.2 h
  have hfalling : (sortBy (fun a b => decide (b.number < a.number)) nv.tickets).Pairwise fun a b => b.number < a.number :=
    (hsorted.and (List.pairwise_map.1 hnodup)).imp fun ⟨hle, hne⟩ => Nat.lt_of_le_of_ne hle (Ne.symm hne)
  rw [List.any_eq_true, newestRecords]
  refine exists_congr fun r => ?_
  rw [mem_take_falling hfalling, hperm.mem_iff, hperm.countP_eq, closes_iff, and_assoc]
  rfl

theorem newestVisit_of_newest {r : JournalRec} {x : Nat × Text} (hr : r ∈ nv.tickets) (hx : visitClosed r = some x)
    (hmax : ∀ q ∈ nv.tickets, visitClosed q ≠ none → q ≠ r → q.number < r.number) : newestVisit nv = some x.1 := by
  obtain ⟨hperm, hsorted⟩ := newestFirst nv
  have hfind : ∀ l : List JournalRec, (l.Pairwise fun a b => b.number ≤ a.number) → r ∈ l → (∀ q ∈ l, q ∈ nv.tickets) →
      l.findSome? visitOf = some x.1 := by
    intro l
    induction l with
    | nil => exact fun _ hr => (List.not_mem_nil hr).elim
    | cons y l ih =>
      intro hl hr hsub
      obtain ⟨hy, hl⟩ := List.pairwise_cons.1 hl
      rw [List.findSome?_cons, visitOf_eq]
      cases hc : visitClosed y with
      | none =>
        have hrl : r ∈ l := (List.mem_cons.1 hr).resolve_left fun he => by rw [← he, hx] at hc; exact Option.some_ne_none _ hc
        exact ih hl hrl fun q hq => hsub q (List.mem_cons_of_mem _ hq)
      | some z =>
        have hyr : y = r := by
          by_contra hne
          have hlt := hmax y (hsub y List.mem_cons_self) (by rw [hc]; exact Option.some_ne_none _) hne
          exact Nat.not_le_of_lt hlt (hy r ((List.mem_cons.1 hr).resolve_left (Ne.symm hne)))
        rw [hyr, hx] at hc
        rw [Option.some.inj hc]
        rfl
  exact hfind _ hsorted (hperm.mem_iff.2 hr) fun q hq => hperm.mem_iff.1 hq

theorem newestVisit_none (h : ∀ r ∈ nv.tickets, visitClosed r = none) : newestVisit nv = none := by
  refine List.findSome?_eq_none_iff.2 fun r hr => ?_
  rw [visitOf_eq, h r ((newestFirst nv).1.mem_iff.1 hr)]
  rfl

theorem numberAfter_eq (l : List Nat) : numberAfter l = match maxNat l with
    | some n => nextNumber n
    | none => 1 := by
  cases l with
  | nil => rfl
  | cons x l =>
    have hfold : (x :: l).foldl max 0 = l.foldl max x := by rw [List.foldl_cons, Nat.zero_max]
    rw [numberAfter, if_neg (List.cons_ne_nil x l), hfold]
    rfl

/-! ### The tables as the scan leaves them -/

/-- The stored tares that lose their place to another of their reference. -/
def lostTares (nv : NvStore) : NvMap TareEntry := (tableRead nv.tares).filter (dropped TareEntry.ref tareBeats (tableRead nv.tares))

def keptTares (nv : NvStore) : NvMap TareEntry :=
  (tableRead nv.tares).filter fun e => !dropped TareEntry.ref tareBeats (tableRead nv.tares) e

/-- The visits that lose their place to another of their reference. -/
def lostVisits (nv : NvStore) : NvMap VisitRec := (tableRead nv.visits).filter (dropped VisitRec.ref visitBeats (tableRead nv.visits))

def openedVisits (nv : NvStore) : NvMap VisitRec :=
  (tableRead nv.visits).filter fun e => !dropped VisitRec.ref visitBeats (tableRead nv.visits) e

/-- The visits that a record of the repaired journal closes. -/
def freedVisits (nv after : NvStore) : NvMap VisitRec := (openedVisits nv).filter fun e => (newestRecords after).any (closes e.2)

def keptVisits (nv after : NvStore) : NvMap VisitRec := (openedVisits nv).filter fun e => !(newestRecords after).any (closes e.2)

variable (auditOk journalOk : Bool)

theorem scanDone_tares : (scanDone auditOk journalOk nv d).txu.tares = keptTares nv := by
  have htable : (scanDone auditOk journalOk nv d).txu.tares =
      (tableOf nv.tares).filter fun e => !dropped TareEntry.ref tareBeats (tableOf nv.tares) e := rfl
  rw [htable, tableOf_eq]
  rfl

theorem scanDone_visits : (scanDone auditOk journalOk nv d).txu.visits = keptVisits nv (scanStore auditOk journalOk nv d) := by
  have htable : (scanDone auditOk journalOk nv d).txu.visits =
      ((tableOf nv.visits).filter fun e => !dropped VisitRec.ref visitBeats (tableOf nv.visits) e).filter
        fun e => !(newestRecords (scanStore auditOk journalOk nv d)).any (closes e.2) := rfl
  rw [htable, tableOf_eq]
  rfl

theorem mem_keptTares (e : Nat × TareEntry) : e ∈ keptTares nv ↔ e ∈ tableRead nv.tares ∧ tareStays (tableRead nv.tares) e := by
  rw [keptTares, List.mem_filter, tareStays_iff, Bool.not_eq_true']

theorem mem_keptVisits {after : NvStore} (h : (after.tickets.map (·.number)).Nodup) (e : Nat × VisitRec) :
    e ∈ keptVisits nv after ↔
      e ∈ tableRead nv.visits ∧ visitStays (tableRead nv.visits) e ∧ ¬ reconciled after e.2 := by
  rw [keptVisits, openedVisits, List.mem_filter, List.mem_filter, visitStays_iff, reconciled_iff h, Bool.not_eq_true', Bool.not_eq_true',
    Bool.not_eq_true, and_assoc]

theorem keptVisits_sublist (after : NvStore) : (keptVisits nv after).Sublist (tableRead nv.visits) :=
  List.filter_sublist.trans List.filter_sublist

/-! ### Freeing writes held and asked for (R187) -/

/-- The freeing writes of the dropped tares, the dropped visits and the reconciled ones. -/
def freeings (nv after : NvStore) : List FreeReq :=
  ((lostTares nv).map (·.1)).map (fun k => ⟨false, k, false⟩) ++ ((lostVisits nv).map (·.1)).map (fun k => ⟨true, k, false⟩) ++
    ((freedVisits nv after).map (·.1)).map (fun k => ⟨true, k, false⟩)

theorem visitsReconciled_held (h : ScanStart d) :
    (visitsReconciled auditOk journalOk nv d).txu.freeHeld.Perm (freeings nv (scanStore auditOk journalOk nv d)) := by
  have hempty : d.txu.freeHeld = [] := by rw [h.txu]; rfl
  have hheld : (visitsReconciled auditOk journalOk nv d).txu.freeHeld = sortBy freeBefore (sortBy freeBefore (sortBy freeBefore
      (d.txu.freeHeld ++ (((tableOf nv.tares).filter (dropped TareEntry.ref tareBeats (tableOf nv.tares))).map (·.1)).map
          fun k => ⟨false, k, false⟩) ++
        (((tableOf nv.visits).filter (dropped VisitRec.ref visitBeats (tableOf nv.visits))).map (·.1)).map fun k => ⟨true, k, false⟩) ++
      ((((tableOf nv.visits).filter fun e => !dropped VisitRec.ref visitBeats (tableOf nv.visits) e).filter
        fun e => (newestRecords (scanStore auditOk journalOk nv d)).any (closes e.2)).map (·.1)).map fun k => ⟨true, k, false⟩) := rfl
  rw [hheld, hempty, tableOf_eq, tableOf_eq, List.nil_append]
  exact (sortBy_perm _ _).trans ((((sortBy_perm _ _).trans ((sortBy_perm _ _).append_right _)).append_right _))

theorem mem_freeings {after : NvStore} {r : FreeReq} : r ∈ freeings nv after ↔
    ((∃ e ∈ lostTares nv, ⟨false, e.1, false⟩ = r) ∨ ∃ e ∈ lostVisits nv, ⟨true, e.1, false⟩ = r) ∨
      ∃ e ∈ freedVisits nv after, ⟨true, e.1, false⟩ = r := by
  simp only [freeings, List.mem_append, List.map_map, List.mem_map, Function.comp_apply]

theorem freeings_first {after : NvStore} {r : FreeReq} (h : r ∈ freeings nv after) : r.second = false := by
  obtain (⟨e, -, rfl⟩ | ⟨e, -, rfl⟩) | ⟨e, -, rfl⟩ := mem_freeings.1 h <;> rfl

theorem mem_freeings_tare {after : NvStore} (k : Nat) : ⟨false, k, false⟩ ∈ freeings nv after ↔
    ∃ e, (k, e) ∈ tableRead nv.tares ∧ (k, e) ∉ keptTares nv := by
  have hlost (e : Nat × TareEntry) : e ∈ lostTares nv ↔ e ∈ tableRead nv.tares ∧ e ∉ keptTares nv := by
    rw [lostTares, keptTares, List.mem_filter, List.mem_filter, not_and, Bool.not_eq_true', Bool.not_eq_false]
    exact ⟨fun ⟨he, hd⟩ => ⟨he, fun _ => hd⟩, fun ⟨he, hd⟩ => ⟨he, hd he⟩⟩
  rw [mem_freeings]
  constructor
  · rintro ((⟨⟨j, e⟩, he, hk⟩ | ⟨e, -, hk⟩) | ⟨e, -, hk⟩)
    · obtain rfl : j = k := congrArg FreeReq.slot hk
      exact ⟨e, (hlost _).1 he⟩
    · exact (Bool.false_ne_true (congrArg FreeReq.isVisit hk).symm).elim
    · exact (Bool.false_ne_true (congrArg FreeReq.isVisit hk).symm).elim
  · rintro ⟨e, he⟩
    exact .inl (.inl ⟨(k, e), (hlost _).2 he, rfl⟩)

theorem mem_freeings_visit {after : NvStore} (k : Nat) : ⟨true, k, false⟩ ∈ freeings nv after ↔
    ∃ e, (k, e) ∈ tableRead nv.visits ∧ (k, e) ∉ keptVisits nv after := by
  have hlost (e : Nat × VisitRec) : e ∈ lostVisits nv ∨ e ∈ freedVisits nv after ↔
      e ∈ tableRead nv.visits ∧ e ∉ keptVisits nv after := by
    rw [lostVisits, freedVisits, keptVisits, List.mem_filter, List.mem_filter, List.mem_filter, openedVisits, List.mem_filter]
    cases dropped VisitRec.ref visitBeats (tableRead nv.visits) e <;> cases (newestRecords after).any (closes e.2) <;> simp
  rw [mem_freeings]
  constructor
  · rintro ((⟨e, -, hk⟩ | ⟨⟨j, e⟩, he, hk⟩) | ⟨⟨j, e⟩, he, hk⟩)
    · exact (Bool.false_ne_true (congrArg FreeReq.isVisit hk)).elim
    · obtain rfl : j = k := congrArg FreeReq.slot hk
      exact ⟨e, (hlost _).1 (.inl he)⟩
    · obtain rfl : j = k := congrArg FreeReq.slot hk
      exact ⟨e, (hlost _).1 (.inr he)⟩
  · rintro ⟨e, he⟩
    obtain hl | hf := (hlost _).2 he
    · exact .inl (.inr ⟨(k, e), hl, rfl⟩)
    · exact .inr ⟨(k, e), hf, rfl⟩

theorem freeRequest_injective : Function.Injective (freeRequest nv) := by
  rintro ⟨v, k, b⟩ ⟨v', k', b'⟩ h
  have hsource := congrArg WriteReq.source h
  cases v <;> cases v' <;> simp only [freeRequest, if_true, Bool.false_eq_true, if_false, Requester.freeVisit.injEq,
    Requester.freeTare.injEq, reduceCtorEq] at hsource
  · rw [hsource.1, hsource.2]
  · rw [hsource.1, hsource.2]

theorem scanDone_outstanding (h : ScanStart d) : outstanding (scanDone auditOk journalOk nv d) =
    stateWrites (auditStore auditOk nv d) (auditRepaired nv) d.nvc.clock ++
      ((visitsReconciled auditOk journalOk nv d).txu.freeHeld.take 4).map (freeRequest nv) := by
  have hqueue : (scanDone auditOk journalOk nv d).nvc.queue = (visitsReconciled auditOk journalOk nv d).nvc.queue ++
      ((visitsReconciled auditOk journalOk nv d).txu.freeHeld.take 4).map (freeRequest nv) := rfl
  rw [outstanding_unserved (scanDone_unserved auditOk journalOk h), hqueue, visitsReconciled_queue auditOk journalOk h]

/-- A freeing write is asked for or held exactly when the scan called for it. -/
theorem scanDone_freeing (h : ScanStart d) (r : FreeReq) :
    freeRequest nv r ∈ outstanding (scanDone auditOk journalOk nv d) ∨ r ∈ (scanDone auditOk journalOk nv d).txu.freeHeld ↔
      r ∈ freeings nv (scanStore auditOk journalOk nv d) := by
  have hheld : (scanDone auditOk journalOk nv d).txu.freeHeld = (visitsReconciled auditOk journalOk nv d).txu.freeHeld.drop 4 := rfl
  have hnot : freeRequest nv r ∉ stateWrites (auditStore auditOk nv d) (auditRepaired nv) d.nvc.clock := fun hr =>
    attach_ne_status ((freeRequest_share r).symm.trans (stateWrites_share _ hr))
  rw [scanDone_outstanding auditOk journalOk h, hheld, ← (visitsReconciled_held auditOk journalOk h).mem_iff, List.mem_append,
    or_iff_right hnot, List.mem_map_of_injective freeRequest_injective, ← List.mem_append, List.take_append_drop]

end Sys2Proof.Machine
end

section
/-! PROOF. The start-up scan as a whole: the store with its head repairs (R149, R182), the metrology state (R153), and the part at the end
of the scan (R193, R194). -/

namespace Sys2Proof.Machine

open Sys2Proof.Safety

variable {nv : NvStore} {d : Device} (auditOk journalOk : Bool)

/-! ### The head repairs in the store -/

theorem scanStore_audit_other {k : Nat} (h : k ≠ auditHead nv ∨ (nv.auditCell (auditHead nv)).isTorn = false) :
    (scanStore auditOk journalOk nv d).auditCell k = nv.auditCell k := by
  have hcell : (scanStore auditOk journalOk nv d).auditCell k = (nvGet (mendedAudit auditOk nv d.nvc.clock) k).getD .blank := rfl
  rw [hcell, mendedAudit]
  split
  next n htorn _ =>
    rw [nvGet_nvPut_other _ _ (h.resolve_right (by rw [htorn]; exact Bool.false_ne_true.symm))]
    rfl
  · rfl

theorem scanStore_audit_torn {n : Nat} (htorn : (nv.auditCell (auditHead nv)).isTorn = true) (hn : auditFollowing nv = some n) :
    (scanStore auditOk journalOk nv d).auditCell (auditHead nv) = if auditOk then .valid ⟨n, .torn, d.nvc.clock, none⟩ else .torn := by
  have hcell : (scanStore auditOk journalOk nv d).auditCell (auditHead nv) =
      (nvGet (mendedAudit auditOk nv d.nvc.clock) (auditHead nv)).getD .blank := rfl
  rw [hcell, mendedAudit, htorn, hn]
  dsimp only
  rw [nvGet_nvPut_same]
  rfl

theorem scanStore_journal_unwritten (h : ¬ headWritten nv (scanMark nv)) : (scanStore auditOk journalOk nv d).journal = nv.journal := if_neg h

theorem scanStore_journal_other {k : Nat} (h : k ≠ repairSlot nv ∨ (nv.journalCell (journalHead nv)).isTorn = false) :
    (scanStore auditOk journalOk nv d).journalCell k = nv.journalCell k := by
  by_cases hw : headWritten nv (scanMark nv)
  · have hk : k ≠ repairSlot nv := h.resolve_right (by rw [hw.1.1]; exact Bool.false_ne_true.symm)
    have hjournal : (scanStore auditOk journalOk nv d).journal = nvPut nv.journal (repairSlot nv) _ := if_pos hw
    rw [NvStore.journalCell, hjournal, nvGet_nvPut_other _ _ hk]
    rfl
  · rw [NvStore.journalCell, scanStore_journal_unwritten auditOk journalOk hw]
    rfl

theorem scanStore_journal_written (h : headWritten nv (scanMark nv)) :
    (scanStore auditOk journalOk nv d).journalCell (repairSlot nv) =
      if journalOk then .valid (JournalRec.make (nv.nextTicket none) .torn d.nvc.clock (nv.calibration.content.map (·.counter)))
        else .torn := by
  have hjournal : (scanStore auditOk journalOk nv d).journal = nvPut nv.journal (repairSlot nv) _ := if_pos h
  rw [NvStore.journalCell, hjournal, nvGet_nvPut_same]
  rfl

/-! ### The metrology state and the audit log's next number (R153, R182) -/

theorem commitCounter_newest {r : AuditRec} (commits : List AuditRec)
    (hcommits : commits = nv.audits.filter fun r => match r.body with
      | .calCommit .. => true
      | _ => false) (hr : r ∈ commits) (hmax : ∀ q ∈ commits, q ≠ r → q.number < r.number) : nv.commitCounter = r.counter := by
  have hle : ∀ q ∈ commits, q.number ≤ r.number := fun q hq => by
    by_cases he : q = r
    · exact Nat.le_of_eq (congrArg AuditRec.number he)
    · exact Nat.le_of_lt (hmax q hq he)
  have hnewest : maxNat (commits.map (·.number)) = some r.number := maxNat_of_max (List.mem_map_of_mem hr) fun n hn => by
    obtain ⟨q, hq, rfl⟩ := List.mem_map.1 hn
    exact hle q hq
  have hfind : commits.find? (fun q => q.number == r.number) = some r := by
    cases hf : commits.find? (fun q => q.number == r.number) with
    | none => exact absurd (beq_self_eq_true r.number) (List.find?_eq_none.1 hf r hr)
    | some q =>
      have hnum : q.number = r.number := eq_of_beq (List.find?_some (p := fun q : AuditRec => q.number == r.number) hf)
      by_contra hne
      exact Nat.ne_of_lt (hmax q (List.mem_of_find?_eq_some hf) fun he => hne (by rw [he])) hnum
  have hdef : nv.commitCounter = match maxNat (commits.map (·.number)) with
      | none => none
      | some n => (commits.find? fun r => r.number == n).bind (·.counter) := by rw [hcommits]; rfl
  rw [hdef, hnewest]
  dsimp only
  rw [hfind]
  rfl

theorem scanCounter_commits (commits : List AuditRec)
    (hcommits : commits = nv.audits.filter fun r => match r.body with
      | .calCommit .. => true
      | _ => false) :
    let kept := max ((nv.calibration.content.map (·.counter)).getD 0) ((nv.status.content.map (·.counter)).getD 0)
    (commits = [] → scanCounter nv = kept) ∧
    ∀ r ∈ commits, (∀ q ∈ commits, q ≠ r → q.number < r.number) → scanCounter nv = max kept (r.counter.getD 0) := by
  refine ⟨fun hnone => ?_, fun r hr hmax => ?_⟩
  · have hcommit : nv.commitCounter = none := by
      rw [hnone] at hcommits
      have hdef : nv.commitCounter = match maxNat (([] : List AuditRec).map (·.number)) with
          | none => none
          | some n => (([] : List AuditRec).find? fun r => r.number == n).bind (·.counter) := by rw [hcommits]; rfl
      exact hdef
    rw [scanCounter, hcommit]
    exact congrArg (max _) (Nat.max_eq_left (Nat.zero_le _))
  · rw [scanCounter, commitCounter_newest commits hcommits hr hmax, Nat.max_assoc]

/-- What R153 says of the state, the due date and the status write. -/
theorem foundState_spec (p : Nat × Option Nat) (clock : Option Nat) : match nv.calibration with
    | .valid r =>
      (∀ st, nv.status.content = some st → st.counter = r.counter → foundState nv = (st.state, st.due)) ∧
      ((∀ st, nv.status.content = some st → st.counter ≠ r.counter) → foundState nv = (.suspect, none) ∧
        ⟨.status false, statusWrite nv ⟨.suspect, none, r.counter⟩⟩ ∈ stateWrites nv p clock)
    | _ => foundState nv = (.uncalibrated, none) := by
  unfold foundState stateWrites
  cases nv.calibration with
  | blank => rfl
  | torn => rfl
  | valid r =>
    dsimp only
    cases nv.status.content with
    | none => exact ⟨fun st h => (Option.some_ne_none st h.symm).elim, fun _ => ⟨rfl, List.mem_cons_self⟩⟩
    | some st =>
      refine ⟨fun x hx hc => ?_, fun h => ?_⟩
      · rw [← Option.some.inj hx] at hc ⊢
        exact if_pos hc
      · dsimp only
        rw [if_neg (h st rfl), if_neg (h st rfl)]
        exact ⟨rfl, List.mem_cons_self⟩

/-- What R153 and R182 say of the AUU and the CAL-INVALID record. -/
theorem foundAuu_spec (p : Nat × Option Nat) (clock : Option Nat) : match nv.calibration.isTorn, p.2 with
    | true, some n => foundAuu nv p = ⟨(appendedAt p.1 n).1, (appendedAt p.1 n).2, false⟩ ∧
        ⟨.calInvalid, .audit p.1 ⟨n, .calInvalid, clock, some (scanCounter nv)⟩⟩ ∈ stateWrites nv p clock
    | true, none => foundAuu nv p = ⟨p.1, none, true⟩
    | false, next => foundAuu nv p = ⟨p.1, next, false⟩ := by
  unfold foundAuu stateWrites
  cases nv.calibration with
  | blank => rfl
  | valid r => rfl
  | torn =>
    cases p.2 with
    | none => rfl
    | some n => exact ⟨rfl, List.mem_cons_self⟩

end Sys2Proof.Machine
end

section
/-! PROOF. POWER_ON and RESET_LINE_RELEASE (R193, R194): the part at the end of its start-up scan. -/

namespace Sys2Proof.Machine

open Sys2Proof.Safety

/-! ### The part at the end of the scan -/

theorem unlit_of_scan {d : Device} (h : running d = false) (hin : d.lsv.greenIn = false) (hout : d.lsv.greenOut = false) :
    refreshLights d = d := by
  have hsame : ({ d.lsv with greenIn := d.lsv.greenIn, greenOut := d.lsv.greenOut } : Lsv) = d.lsv := rfl
  rw [hin, hout] at hsame
  rw [refreshLights, h, if_neg Bool.false_ne_true, hsame]

section done

variable (auditOk journalOk : Bool) (cause : StartCause) (clock : Option Nat) (s : State)

/-- The part as the scan finds it. -/
abbrev scanBegun : Device := clearedFrom s.dev .scan false cause clock

theorem scanBegun_start : ScanStart (scanBegun cause clock s) := ⟨⟨cause, clock, rfl⟩, ⟨_, rfl⟩, rfl, rfl⟩

/-- The state at the end of the scan. -/
def scannedState : State :=
  { s with
    nv := scanStore auditOk journalOk s.nv (scanBegun cause clock s)
    dev := scanDone auditOk journalOk s.nv (scanBegun cause clock s) }

theorem refreshLights_scanDone : refreshLights (scanDone auditOk journalOk s.nv (scanBegun cause clock s)) =
    scanDone auditOk journalOk s.nv (scanBegun cause clock s) := by
  have hlsv : (scanDone auditOk journalOk s.nv (scanBegun cause clock s)).lsv =
    Lsv.reset s.dev.lsv.beamIn.raw s.dev.lsv.beamOut.raw := rfl
  have hscan : running (scanDone auditOk journalOk s.nv (scanBegun cause clock s)) = false := rfl
  exact unlit_of_scan hscan (congrArg Lsv.greenIn hlsv) (congrArg Lsv.greenOut hlsv)

theorem scannedState_report : let t := scannedState auditOk journalOk cause clock s
    let repairs := (if (s.nv.auditCell (auditHead s.nv)).isTorn = true ∧ auditFollowing s.nv ≠ none then [auditOk] else []) ++
      (if (s.nv.journalCell (journalHead s.nv)).isTorn = true ∧ s.nv.nextTicket none ≤ 9999999 ∧
        s.nv.slotFree t.dev.txu.exportMark (nextPlace 4096 (journalHead s.nv)) = true then [journalOk] else [])
    t.dev.nvc.report = ⟨repairs.count true, repairs.count false, 0, scanFailures s.nv, blankTargets s.nv, (outstanding t.dev).length⟩ := by
  have hreport := scanDone_report (nv := s.nv) auditOk journalOk (scanBegun_start cause clock s)
  simp only [headWritten, headFails, and_assoc] at hreport
  exact hreport

theorem scannedState_mark : (scannedState auditOk journalOk cause clock s).dev.txu.exportMark = (match s.nv.exportRec.content, s.nv.oldest with
    | some e, _ => e
    | none, some n => n - 1
    | none, none => 0) := by
  have hmark : (scannedState auditOk journalOk cause clock s).dev.txu.exportMark = scanMark s.nv := rfl
  rw [hmark, scanMark]
  cases s.nv.exportRec.content with
  | some e => rfl
  | none => cases s.nv.oldest <;> rfl

theorem scannedState_found : let ready := (scannedState auditOk journalOk cause clock s).dev.nvc.ready
    ready.scanFail = scanFailures s.nv ∧
    ready.dropped = (tableRead s.nv.visits).countP (fun e => decide (¬ visitStays (tableRead s.nv.visits) e)) ∧
    ready.freed + (scannedState auditOk journalOk cause clock s).dev.txu.visits.length =
      (tableRead s.nv.visits).countP (fun e => decide (visitStays (tableRead s.nv.visits) e)) := by
  intro ready
  have hdropped : ready.dropped = ((tableOf s.nv.visits).filter (dropped VisitRec.ref visitBeats (tableOf s.nv.visits))).length := rfl
  have hfreed : ready.freed + (scannedState auditOk journalOk cause clock s).dev.txu.visits.length =
      (((tableOf s.nv.visits).filter fun e => !dropped VisitRec.ref visitBeats (tableOf s.nv.visits) e).filter
        fun e => (newestRecords (scannedState auditOk journalOk cause clock s).nv).any (closes e.2)).length +
      (((tableOf s.nv.visits).filter fun e => !dropped VisitRec.ref visitBeats (tableOf s.nv.visits) e).filter
        fun e => !(newestRecords (scannedState auditOk journalOk cause clock s).nv).any (closes e.2)).length := rfl
  refine ⟨?_, ?_, ?_⟩
  · exact scanDone_readyScan auditOk journalOk (scanBegun_start cause clock s)
  · rw [hdropped, tableOf_eq, ← List.countP_eq_length_filter]
    refine List.countP_congr fun e _ => ?_
    rw [decide_eq_true_iff, visitStays_iff, Bool.not_eq_false]
  · rw [hfreed, ← List.length_eq_length_filter_add, tableOf_eq, ← List.countP_eq_length_filter]
    refine List.countP_congr fun e _ => ?_
    rw [decide_eq_true_iff, visitStays_iff, Bool.not_eq_true']

theorem scannedState_repairs : let ready := (scannedState auditOk journalOk cause clock s).dev.nvc.ready
    ready.auditRepair = (match (s.nv.auditCell (auditHead s.nv)).isTorn, auditFollowing s.nv with
      | true, some n => if auditOk then .written n else .none
      | _, _ => .none) ∧
    ready.calibration = (match s.nv.calibration with
      | .valid _ => .valid
      | .torn => .invalid
      | .blank => .blank) := by
  refine ⟨?_, ?_⟩
  · have htold : (scannedState auditOk journalOk cause clock s).dev.nvc.ready.auditRepair = auditTold auditOk s.nv := rfl
    rw [htold]
    cases htorn : (s.nv.auditCell (auditHead s.nv)).isTorn with
    | false => simp only [auditTold, htorn]
    | true => cases hn : auditFollowing s.nv <;> simp only [auditTold, htorn, hn]
  · have hcal : (scannedState auditOk journalOk cause clock s).dev.nvc.ready.calibration = foundCal s.nv.calibration := rfl
    rw [hcal]
    cases s.nv.calibration <;> rfl

theorem scannedState_audit (k : Nat) (h : k ≠ auditHead s.nv ∨ (s.nv.auditCell k).isTorn = false) :
    (scannedState auditOk journalOk cause clock s).nv.auditCell k = s.nv.auditCell k := by
  refine scanStore_audit_other auditOk journalOk ?_
  by_cases hk : k = auditHead s.nv
  · rw [hk] at h
    exact .inr (h.resolve_left fun hne => hne rfl)
  · exact .inl hk

theorem scannedState_whole (h : (s.nv.journalCell (journalHead s.nv)).isTorn = false ∨ 9999999 < s.nv.nextTicket none) :
    let t := scannedState auditOk journalOk cause clock s
    t.nv.journal = s.nv.journal ∧ t.dev.txu.writePos = journalHead s.nv ∧ t.dev.txu.owedTorn = none ∧ t.dev.txu.fullUntilE = false := by
  have hfails : ¬ headFails s.nv := fun hf => h.elim (fun hw => Bool.false_ne_true (hw.symm.trans hf.1)) fun hn => Nat.not_le_of_lt hn hf.2
  have howed : repairOwed journalOk s.nv (scanMark s.nv) = none := if_neg fun hr => hfails hr.1
  have hunwritten : ¬ headWritten s.nv (scanMark s.nv) := fun hw => hfails hw.1
  exact ⟨if_neg hunwritten, if_neg hunwritten, howed, (congrArg Option.isSome howed :)⟩

theorem scannedState_torn (htorn : (s.nv.journalCell (journalHead s.nv)).isTorn = true) (hn : s.nv.nextTicket none ≤ 9999999) :
    let t := scannedState auditOk journalOk cause clock s
    (s.nv.slotFree t.dev.txu.exportMark (repairSlot s.nv) = true →
      t.nv.journalCell (repairSlot s.nv) = (if journalOk then .valid (JournalRec.make (s.nv.nextTicket none) .torn clock
        (t.dev.mst.active.map (·.counter))) else .torn) ∧
      t.dev.txu.writePos = nextPlace 4096 (repairSlot s.nv) ∧
      t.dev.txu.owedTorn = (if journalOk then none else some (s.nv.nextTicket none)) ∧ t.dev.txu.fullUntilE = !journalOk) ∧
    (s.nv.slotFree t.dev.txu.exportMark (repairSlot s.nv) = false → t.nv.journal = s.nv.journal ∧
      t.dev.txu.writePos = journalHead s.nv ∧ t.dev.txu.owedTorn = some (s.nv.nextTicket none) ∧ t.dev.txu.fullUntilE = true) := by
  refine ⟨fun hfree => ?_, fun hfree => ?_⟩
  · have hwritten : headWritten s.nv (scanMark s.nv) := ⟨⟨htorn, hn⟩, hfree⟩
    have howed : repairOwed journalOk s.nv (scanMark s.nv) = if journalOk then none else some (s.nv.nextTicket none) := by
      cases journalOk with
      | true => exact if_neg fun h => h.2 ⟨hfree, rfl⟩
      | false => exact if_pos ⟨⟨htorn, hn⟩, fun h => Bool.false_ne_true h.2⟩
    refine ⟨scanStore_journal_written auditOk journalOk hwritten, if_pos hwritten, howed, (congrArg Option.isSome howed :).trans ?_⟩
    cases journalOk <;> rfl
  · have hfull : s.nv.slotFree (scanMark s.nv) (repairSlot s.nv) ≠ true := fun h => Bool.false_ne_true (hfree.symm.trans h)
    have hunwritten : ¬ headWritten s.nv (scanMark s.nv) := fun h => hfull h.2
    have howed : repairOwed journalOk s.nv (scanMark s.nv) = some (s.nv.nextTicket none) := if_pos ⟨⟨htorn, hn⟩, fun h => hfull h.1⟩
    exact ⟨if_neg hunwritten, if_neg hunwritten, howed, (congrArg Option.isSome howed :)⟩

theorem scannedState_outstanding : outstanding (scannedState auditOk journalOk cause clock s).dev =
    stateWrites (auditStore auditOk s.nv (scanBegun cause clock s)) (auditRepaired s.nv) clock ++
      ((visitsReconciled auditOk journalOk s.nv (scanBegun cause clock s)).txu.freeHeld.take 4).map (freeRequest s.nv) :=
  scanDone_outstanding auditOk journalOk (scanBegun_start cause clock s)

theorem scannedState_state : match s.nv.calibration with
    | .valid r =>
      (∀ st, s.nv.status.content = some st → st.counter = r.counter →
        (scannedState auditOk journalOk cause clock s).dev.mst.state = st.state ∧
        (scannedState auditOk journalOk cause clock s).dev.mst.due = st.due) ∧
      ((∀ st, s.nv.status.content = some st → st.counter ≠ r.counter) →
        (scannedState auditOk journalOk cause clock s).dev.mst.state = .suspect ∧
        (scannedState auditOk journalOk cause clock s).dev.mst.due = none ∧
        ⟨.status false, statusWrite s.nv ⟨.suspect, none, r.counter⟩⟩ ∈ outstanding (scannedState auditOk journalOk cause clock s).dev)
    | _ => (scannedState auditOk journalOk cause clock s).dev.mst.state = .uncalibrated ∧
        (scannedState auditOk journalOk cause clock s).dev.mst.due = none := by
  have hspec := foundState_spec (nv := auditStore auditOk s.nv (scanBegun cause clock s)) (auditRepaired s.nv) clock
  have hstate : ((scannedState auditOk journalOk cause clock s).dev.mst.state, (scannedState auditOk journalOk cause clock s).dev.mst.due) =
      foundState (auditStore auditOk s.nv (scanBegun cause clock s)) := rfl
  have hcal : (auditStore auditOk s.nv (scanBegun cause clock s)).calibration = s.nv.calibration := rfl
  rw [← hstate, hcal] at hspec
  rw [scannedState_outstanding]
  cases hc : s.nv.calibration with
  | valid r =>
    rw [hc] at hspec
    obtain ⟨hsame, hother⟩ := hspec
    refine ⟨fun st hst hcount => Prod.mk.inj (hsame st hst hcount), fun hst => ?_⟩
    obtain ⟨hboth, hwrite⟩ := hother hst
    obtain ⟨hsuspect, hdue⟩ := Prod.mk.inj hboth
    exact ⟨hsuspect, hdue, List.mem_append_left _ hwrite⟩
  | torn =>
    rw [hc] at hspec
    exact Prod.mk.inj hspec
  | blank =>
    rw [hc] at hspec
    exact Prod.mk.inj hspec

end done

end Sys2Proof.Machine
end

section
/-! PROOF. The state at the end of the start-up scan, and the power and reset lines (R193, R194). -/

namespace Sys2Proof.Machine

open Sys2Proof.Safety

section done

variable (auditOk journalOk : Bool) (cause : StartCause) (clock : Option Nat) (s : State)

theorem scannedState_auu : let t := scannedState auditOk journalOk cause clock s
    let p := auditRepaired s.nv
    match s.nv.calibration.isTorn, p.2 with
    | true, some n => t.dev.auu = ⟨(appendedAt p.1 n).1, (appendedAt p.1 n).2, false⟩ ∧
        ⟨.calInvalid, .audit p.1 ⟨n, .calInvalid, clock, some t.dev.mst.counter⟩⟩ ∈ outstanding t.dev
    | true, none => t.dev.auu = ⟨p.1, none, true⟩
    | false, next => t.dev.auu = ⟨p.1, next, false⟩ := by
  intro t p
  have hspec := foundAuu_spec (nv := auditStore auditOk s.nv (scanBegun cause clock s)) p clock
  have hauu : t.dev.auu = foundAuu (auditStore auditOk s.nv (scanBegun cause clock s)) p := rfl
  have hcounter : t.dev.mst.counter = scanCounter (auditStore auditOk s.nv (scanBegun cause clock s)) := rfl
  have hcal : (auditStore auditOk s.nv (scanBegun cause clock s)).calibration = s.nv.calibration := rfl
  have hout : outstanding t.dev = stateWrites (auditStore auditOk s.nv (scanBegun cause clock s)) p clock ++ _ :=
    scannedState_outstanding auditOk journalOk cause clock s
  rw [← hauu, ← hcounter, hcal] at hspec
  rw [hout]
  cases htorn : s.nv.calibration.isTorn with
  | false =>
    rw [htorn] at hspec
    exact hspec
  | true =>
    rw [htorn] at hspec
    cases hn : p.2 with
    | none =>
      rw [hn] at hspec
      exact hspec
    | some n =>
      rw [hn] at hspec
      exact hspec.imp_right (List.mem_append_left _)

theorem scannedState_freeing (k : Nat) : let t := scannedState auditOk journalOk cause clock s
    ((∃ e, (k, e) ∈ tableRead s.nv.tares ∧ (k, e) ∉ t.dev.txu.tares) ↔
      ⟨.freeTare k false, tareWrite s.nv k none⟩ ∈ outstanding t.dev ∨ ⟨false, k, false⟩ ∈ t.dev.txu.freeHeld) ∧
    ((∃ e, (k, e) ∈ tableRead s.nv.visits ∧ (k, e) ∉ t.dev.txu.visits) ↔
      ⟨.freeVisit k false, visitWrite s.nv k none⟩ ∈ outstanding t.dev ∨ ⟨true, k, false⟩ ∈ t.dev.txu.freeHeld) := by
  intro t
  have hstart := scanBegun_start cause clock s
  have htares : t.dev.txu.tares = keptTares s.nv := scanDone_tares auditOk journalOk
  have hvisits : t.dev.txu.visits = keptVisits s.nv t.nv := scanDone_visits auditOk journalOk
  rw [htares, hvisits, ← mem_freeings_tare (after := t.nv), ← mem_freeings_visit]
  exact ⟨(scanDone_freeing auditOk journalOk hstart ⟨false, k, false⟩).symm,
    (scanDone_freeing auditOk journalOk hstart ⟨true, k, false⟩).symm⟩

theorem scannedState_requests : ∀ r ∈ outstanding (scannedState auditOk journalOk cause clock s).dev,
    (∃ k, r = ⟨.freeTare k false, tareWrite s.nv k none⟩ ∨ r = ⟨.freeVisit k false, visitWrite s.nv k none⟩) ∨
      r.source = .status false ∨ r.source = .calInvalid := by
  intro r hr
  rw [scannedState_outstanding] at hr
  obtain hr | hr := List.mem_append.1 hr
  · exact .inr (stateWrites_source r hr)
  · obtain ⟨⟨v, k, b⟩, hq, rfl⟩ := List.mem_map.1 hr
    have hfirst : b = false := freeings_first ((visitsReconciled_held auditOk journalOk (scanBegun_start cause clock s)).mem_iff.1
      (List.mem_of_mem_take hq))
    rw [hfirst]
    cases v with
    | false => exact .inl ⟨k, .inl rfl⟩
    | true => exact .inl ⟨k, .inr rfl⟩

theorem scannedState_nextVisit : let t := scannedState auditOk journalOk cause clock s
    (∀ r x, r ∈ t.nv.tickets → visitClosed r = some x →
      (∀ q ∈ t.nv.tickets, visitClosed q ≠ none → q ≠ r → q.number < r.number) →
      t.dev.txu.nextVisit = numberAfter (t.dev.txu.visits.map (·.2.number) ++ [x.1])) ∧
    ((∀ r ∈ t.nv.tickets, visitClosed r = none) → t.dev.txu.nextVisit = numberAfter (t.dev.txu.visits.map (·.2.number))) := by
  intro t
  have hnext : t.dev.txu.nextVisit = numberAfter (t.dev.txu.visits.map (·.2.number) ++ (newestVisit t.nv).toList) := by
    rw [numberAfter_eq]
    have hdef : t.dev.txu.nextVisit = match maxNat ((t.dev.txu.visits.map (·.2)).map (·.number) ++ (newestVisit t.nv).toList) with
      | some n => nextNumber n
      | none => 1 := rfl
    rw [hdef, List.map_map]
    rfl
  refine ⟨fun r x hr hx hmax => ?_, fun hnone => ?_⟩
  · rw [hnext, newestVisit_of_newest hr hx hmax]
    rfl
  · rw [hnext, newestVisit_none hnone, Option.toList_none, List.append_nil]

theorem scannedState_slots (i : SlotId) : slotOf (scannedState auditOk journalOk cause clock s).dev i = Slot.reset
    (if ((s.nv.calibration.content.map fun r => (r.slots.sel i).configured).getD false) = true then .seeking else .unused) :=
  Slots.sel_tab _ i

theorem started_scannedState : Started cause clock auditOk journalOk s (scannedState auditOk journalOk cause clock s) where
  power := rfl
  clock := rfl
  time := rfl
  lines := ⟨fun l => by cases l <;> rfl, fun ⟨l, a⟩ => by cases l <;> cases a <;> rfl, rfl, rfl, rfl⟩
  settings := ⟨rfl, rfl⟩
  unserved := ⟨rfl, rfl⟩
  report := scannedState_report auditOk journalOk cause clock s
  found := by
    obtain ⟨hscan, hdropped, hfreed⟩ := scannedState_found auditOk journalOk cause clock s
    obtain ⟨haudit, hcal⟩ := scannedState_repairs auditOk journalOk cause clock s
    exact ⟨rfl, rfl, hcal, hscan, rfl, rfl, hdropped, hfreed, haudit, rfl⟩
  lock := ⟨rfl, rfl⟩
  lsv := rfl
  axu := rfl
  csu := rfl
  zsu := rfl
  active := rfl
  runs := ⟨rfl, rfl⟩
  slots := scannedState_slots auditOk journalOk cause clock s
  mark := scannedState_mark auditOk journalOk cause clock s
  cursor := rfl
  rx := rfl
  tx := rfl
  notices := rfl
  exe := rfl
  store := ⟨rfl, rfl, rfl, rfl, rfl, rfl⟩
  audit := scannedState_audit auditOk journalOk cause clock s
  auditTorn := fun _ htorn hn => scanStore_audit_torn auditOk journalOk htorn hn
  journal := fun _ hk => scanStore_journal_other auditOk journalOk hk
  journalWhole := scannedState_whole auditOk journalOk cause clock s
  journalTorn := scannedState_torn auditOk journalOk cause clock s
  counter := scanCounter_commits (nv := auditStore auditOk s.nv (scanBegun cause clock s)) _ rfl
  state := scannedState_state auditOk journalOk cause clock s
  auu := scannedState_auu auditOk journalOk cause clock s
  tares := by
    have htares : (scannedState auditOk journalOk cause clock s).dev.txu.tares = keptTares s.nv := scanDone_tares auditOk journalOk
    rw [htares]
    exact ⟨mem_keptTares, List.filter_sublist⟩
  visits := fun hnodup => by
    have hvisits : (scannedState auditOk journalOk cause clock s).dev.txu.visits =
        keptVisits s.nv (scannedState auditOk journalOk cause clock s).nv := scanDone_visits auditOk journalOk
    rw [hvisits]
    exact ⟨mem_keptVisits hnodup, keptVisits_sublist _⟩
  freeing := ⟨fun k => (scannedState_freeing auditOk journalOk cause clock s k).1,
    fun k => (scannedState_freeing auditOk journalOk cause clock s k).2⟩
  nextVisit := scannedState_nextVisit auditOk journalOk cause clock s
  requests := scannedState_requests auditOk journalOk cause clock s
  attachments := ⟨rfl, rfl, rfl⟩
  pending := rfl

/-- The scan of a part whose volatile state is cleared comes to the state written out. -/
theorem scan_started : State.mk (refreshLights (scan auditOk journalOk s.nv (scanBegun cause clock s)).2)
    (scan auditOk journalOk s.nv (scanBegun cause clock s)).1 s.pending = scannedState auditOk journalOk cause clock s := by
  rw [scan_eq auditOk journalOk (scanBegun_start cause clock s), refreshLights_scanDone]
  rfl

end done

/-! ### The events -/

theorem powerOn_scan {s : State} (auditOk journalOk : Bool) (hoff : s.dev.power.phase = .off) (hlow : s.dev.power.resetLow = false) :
    exec (.powerOn auditOk journalOk) s = .next (scannedState auditOk journalOk .power none s) := by
  have hact : powerOn auditOk journalOk s.nv s.dev = scan auditOk journalOk s.nv (scanBegun .power none s) := by
    rw [powerOn, if_pos hoff, hlow]
    rfl
  rw [← scan_started, ← hact]
  rfl

theorem resetLineRelease_scan {s : State} (auditOk journalOk : Bool) (hheld : s.dev.power.phase = .held) :
    exec (.resetLineRelease auditOk journalOk) s = .next (scannedState auditOk journalOk .reset s.dev.nvc.clock s) := by
  have hact : resetLineRelease auditOk journalOk s.nv s.dev = scan auditOk journalOk s.nv (scanBegun .reset s.dev.nvc.clock s) :=
    if_pos hheld
  rw [← scan_started, ← hact]
  rfl

/-- Settles O29: each step of the scan is written out as one update of the cleared part, and the clauses are read off the last. -/
theorem startUpScan : Obligations.StartUpScan := by
  unfold Obligations.StartUpScan
  refine fun a j s => ⟨fun hoff hlow => ?_, fun hoff hlow => ?_, fun hheld => ?_, fun hheld => ?_, fun hoff => ?_⟩
  · exact ⟨_, powerOn_scan a j hoff hlow, started_scannedState a j .power none s⟩
  · have hact : powerOn a j s.nv s.dev = (s.nv, clearedFrom s.dev .held true .power none) := by
      rw [powerOn, if_pos hoff, hlow]
      rfl
    have hlights := unlit_of_scan (d := clearedFrom s.dev .held true .power none) rfl rfl rfl
    have hexec : exec (.powerOn a j) s = .next { s with
        nv := (powerOn a j s.nv s.dev).1
        dev := refreshLights (powerOn a j s.nv s.dev).2 } := rfl
    rw [hexec, hact]
    dsimp only
    rw [hlights]
    rfl
  · exact ⟨_, resetLineRelease_scan a j hheld, started_scannedState a j .reset s.dev.nvc.clock s⟩
  · have hact : resetLineRelease a j s.nv s.dev = (s.nv, { s.dev with power := { s.dev.power with resetLow := false } }) := if_neg hheld
    have hexec : exec (.resetLineRelease a j) s = .next { s with
        nv := (resetLineRelease a j s.nv s.dev).1
        dev := refreshLights (resetLineRelease a j s.nv s.dev).2 } := rfl
    rw [hexec, hact]
    rfl
  · have hact : powerOn a j s.nv s.dev = (s.nv, s.dev) := if_neg hoff
    have hexec : exec (.powerOn a j) s = .next { s with
        nv := (powerOn a j s.nv s.dev).1
        dev := refreshLights (powerOn a j s.nv s.dev).2 } := rfl
    rw [hexec, hact]
    rfl

end Sys2Proof.Machine
end
